-- ==== Sys2Proof/Word.lean ====
section
/-! DEFINITION. The words the part is made of: bytes, 32-bit register words, the 64 ports and the two hosts
(00 R1-R3, 02, 11 R251). -/

namespace Sys2Proof

/-- A register word (11 R252). -/
abbrev Word := BitVec 32

/-- A byte. -/
abbrev Byte := BitVec 8

/-- A port, P0 to P63 (02, port variants). -/
abbrev Port := Fin 64

/-- The two hosts, each behind its own endpoint (11 R250). -/
inductive HostId where
  | a | b
deriving DecidableEq, Repr

/-- Who reads a receive object: each host, and the processors together (04 R95). -/
inductive Reader where
  | host (h : HostId)
  | processors
deriving DecidableEq, Repr

/-- The other host. -/
def HostId.peer : HostId → HostId
  | .a => .b
  | .b => .a

/-- The host's number: 0 for host A, 1 for host B (11, DEV_HOSTID). -/
def HostId.num : HostId → Nat
  | .a => 0
  | .b => 1

/-- One value for each host: what BAR0 holds per host (11 R251). -/
structure PerHost (α : Type) where
  a : α
  b : α
deriving DecidableEq, Repr

namespace PerHost

/-- The value of host `h`. -/
def get {α : Type} (p : PerHost α) : HostId → α
  | .a => p.a
  | .b => p.b

/-- Replaces the value of host `h`. -/
def set {α : Type} (p : PerHost α) (h : HostId) (v : α) : PerHost α :=
  match h with
  | .a => { p with a := v }
  | .b => { p with b := v }

/-- The same change of both hosts' copies (02 R55). -/
def map {α β : Type} (f : α → β) (p : PerHost α) : PerHost β := ⟨f p.a, f p.b⟩

/-- The same value for both hosts. -/
def both {α : Type} (v : α) : PerHost α := ⟨v, v⟩

end PerHost

end Sys2Proof
end

