-- ==== Sys2Proof/Syntax.lean ====
section
/-! DEFINITION. The commands of the part: one constructor of `Instr` for each row of spec/opcode_table.json, with the
operands the outside world decides. Everything else a command does is computed from the state. -/

namespace Sys2Proof

/-! ## Frames and bus events -/

/-- Frame formats, coded as OBJ_CFG.FORMAT codes them (04). Silk fallback is `xl` (05 R111). -/
inductive Fmt where
  | classical | fd | xl | silk
deriving DecidableEq, Repr

/-- A frame as it stands on a bus (02 R35, 03 R60, 09 R200). For a remote frame `len` is the DLC and `data` is empty. -/
structure Frame where
  fmt  : Fmt
  ide  : Bool
  rtr  : Bool
  brs  : Bool
  esi  : Bool
  sec  : Bool
  id   : BitVec 29
  sdt  : Byte
  vcid : Byte
  af   : Word
  len  : BitVec 12
  data : List Byte
deriving DecidableEq, Repr

/-- What the filter unit knows of a frame at the lookup start (05 R106). -/
structure FrameKey where
  fmt  : Fmt
  ide  : Bool
  id   : BitVec 29
  sdt  : Byte
  vcid : Byte
deriving DecidableEq, Repr

/-- Kinds of bus error, coded as CH_ERR_LAST.TYPE codes them from 1 on (07). -/
inductive ErrKind where
  | bit | stuff | form | ack | crc | trainingNak | contention | dominant
deriving DecidableEq, Repr

/-- Phase of an error, CH_ERR_LAST.PHASE (07). -/
inductive ErrPhase where
  | nominal | data | silk | flag
deriving DecidableEq, Repr

/-- The circumstance that picks a row of the table of 07 R145, and 03 R72's place of an error flag. -/
inductive ErrPlace where
  | plain                -- none of the circumstances below
  | peRefusal            -- the error flag began in the resXL or ADH bit of a Silk frame (03 R72)
  | ackNoDominant        -- ACK error, no dominant bit during the port's passive error flag
  | arbStuff             -- stuff bit in the arbitration field sent recessive, monitored dominant
  | inFlag               -- bit error while sending an active error flag or an overload flag
  | firstAfterFlag       -- dominant bit as the first bit after the port's own error flag
  | dominantRun          -- the 14th, 8th or each further 8th consecutive dominant bit
  | xlNoErrsig           -- in a CAN XL data phase with XL_ERRSIG 0
  | afterAck             -- behind the ACK slot of a frame without error up to it, which the port has acknowledged
  | payload              -- between the end of the arbitration field and the CRC delimiter (06 R141)
deriving DecidableEq, Repr

/-- A bus error as the port's engine reports it (07 R145). `memory` says that the engine ended the frame because a
payload read was uncorrectable (01 R15). -/
structure BusError where
  kind   : ErrKind
  phase  : ErrPhase
  place  : ErrPlace
  memory : Bool
  /-- The loop delay that the transmitter had measured in the frame by then, if it had come so far (02 R44, 03 R67). -/
  delay  : Option (BitVec 12) := none
  /-- The frame has had a data phase, which had ended by then (02, CH_STAT). -/
  behind : Bool := false
deriving DecidableEq, Repr

/-! ## Command packets -/

/-- The command streams, coded as HOST of a journal entry (12 R271, 17 R397). -/
inductive Stream where
  | hostA | hostB | mgmt | intern
deriving DecidableEq, Repr

/-- The path a command came by (12 R272, 19 R440). -/
inductive Path where
  | fifo | ring | port | inside
deriving DecidableEq, Repr

/-- What a request packet's header says (12 R274); `reserved` is true when some reserved parameter field is not
zero (00 R5). -/
structure Head where
  stream   : Stream
  path     : Path
  seq      : Word
  dry      : Bool
  target   : BitVec 16
  reserved : Bool
deriving DecidableEq, Repr

/-- The effective window of a configuration command (12 R278). -/
structure EW where
  cycle : Word
  win   : Byte
  asap  : Bool
deriving DecidableEq, Repr

/-- PORT_CONFIG (13): images of the port's registers and the oscillator tolerance in ppm. -/
structure PortConfigP where
  ctrl   : Word
  fmt    : Word
  nbt    : Word
  dbt    : Word
  tdc    : Word
  pwm    : Word
  oscTol : Word
deriving DecidableEq, Repr

/-- One object record of OBJ_CONFIG and OBJ_CONFIG_N (13). -/
structure ObjRecord where
  obj       : BitVec 16
  cfg       : Word
  id        : Word
  xl        : Word
  af        : Word
  granCount : Word
  txcfg     : Word
deriving DecidableEq, Repr

/-- A filter element image, 128 bits (05). -/
structure Elem where
  b  : Word
  a  : Word
  w0 : Word
  w3 : Word
deriving DecidableEq, Repr

/-- One chunk of an image (13 R308). -/
structure Chunk where
  dest   : Byte
  total  : Word
  offset : Word
  data   : List Byte
deriving DecidableEq, Repr

/-- A command packet's parameters, one constructor for each opcode of 13. -/
inductive Params where
  | seqQuery
  | devInfo
  | modeSet (ew : EW) (mode : Byte)
  | cfgPolicySet (ew : EW) (policy : Byte)
  | leadSet (ew : EW) (leadSrc lead : Byte)
  | hbPeriod (period : BitVec 16)
  | devReset (key : Word)
  | sleep (wake : Byte)
  | portConfig (ew : EW) (c : PortConfigP)
  | portSilk (ew : EW) (ctrl peInit : Word)
  | portErrcfg (ew : EW) (policy babble : Word)
  | portFence (ew : EW) (cfg : Word)
  | portDelivery (ew : EW) (ownDlv mode : Byte) (frames : BitVec 16) (bytes : Word)
  | portGuard (ew : EW) (max : BitVec 16)
  | portRecover (ew : EW)
  | portRelease (ew : EW)
  | portRemap (op : Byte)
  | portStatus
  | objConfig (ew : EW) (r : ObjRecord)
  | objConfigN (ew : EW) (rs : List ObjRecord)
  | objRead (offset len : BitVec 16)
  | objPool
  | fltPort (ew : EW) (ctrl elem dflt dfltStd : Word)
  | fltDtable (ew : EW) (first : BitVec 16) (results : List (BitVec 16))
  | fltElem (ew : EW) (first : BitVec 16) (elems : List Elem)
  | fltRead (what table : Byte) (first count : BitVec 16)
  | rteSet (ew : EW) (entry : BitVec 64) (ext : Word)
  | rteQuota (ew : EW) (cells : BitVec 16)
  | rteStatus
  | pairSet (ew : EW) (pair : BitVec 64)
  | pairStatus
  | cycSource (ew : EW) (src period : Word)
  | cycWindows (ew : EW) (jumpTol : BitVec 16) (count : Byte) (starts : List (BitVec 16))
  | cycCountSet (ew : EW) (count : Word)
  | timeSet (ew : EW) (time : BitVec 64)
  | timeQuery
  | denseSet (ew : EW) (port errAllow : Byte) (entries : List (BitVec 64))
  | denseRead
  | ringDelivery (ew : EW) (base : BitVec 64) (sizeLog : Byte)
  | ringCommand (ew : EW) (base : BitVec 64) (sizeLog : Byte)
  | ringReply (ew : EW) (base : BitVec 64) (sizeLog : Byte)
  | ringWriteback (ew : EW) (address : BitVec 64)
  | ringRearm
  | profileLoad (ew : EW) (profile : Byte)
  | profileStore (c : Chunk)
  | profileList
  | pregWrite (index : BitVec 16) (values : List Word)
  | pregRead (index count : BitVec 16)
  | recNonce
  | recClear (rseq : Word) (nonce : BitVec 64) (sig : List Byte)
  | recRead (rseq : Word) (count : BitVec 16)
  | jnlRead (jseq : Word) (count : BitVec 16)
  | pwrLimits (ilim : BitVec 16) (tripQ retries : Byte)
  | pwrStatus
  | doSet (ew : EW) (mask value : Byte)
  | fldConfig (ew : EW) (autoRestore : Byte) (filters : List (BitVec 16))
  | fldRestore
  | fldStatus
  | fwStage (c : Chunk)
  | fwVerify (part : Byte)
  | fwActivate (ew : EW) (part : Byte)
  | fwStatus
  | diagMem
  | diagPort
  | diagGate
  | canvasInfo
  | canvasRead (offset len : Word)
  | canvasRelease
  | intPrioSet (first : BitVec 16) (prios : List Byte)
  | intModSet (mod : BitVec 16)
  | twdMap (ew : EW) (ports : List Byte)
  | twdStatus
  | tweedSlot (ew : EW) (slot : Nat) (scfg mask : Word)
deriving DecidableEq, Repr

/-! ## Other operands -/

/-- Reset causes of the frame die, coded as DEV_RESET_CAUSE.CAUSE (11, 01 R458). -/
inductive ResetCause where
  | pgood | clockMonitor | fault | command | wake
deriving DecidableEq, Repr

/-- Kinds of endpoint reset (11 R268). -/
inductive EndpointReset where
  | flr | hot | perst | linkDown
deriving DecidableEq, Repr

/-- What a host writes to its endpoint's configuration space (11 R250, R269). -/
inductive PcieCfg where
  | powerState (d3hot : Bool)
  | busMaster (on : Bool)
  | msix (on masked : Bool)
  | bar0 (address : BitVec 64)
  | bar2 (address : BitVec 64)
  /-- 128 bytes doubled `k` times. -/
  | maxPayload (k : Fin 3)
  | maxRead (k : Fin 6)
deriving DecidableEq, Repr

/-- What the read-back of a line write says; `noAnswer`: the keep die has become unreachable (17 R379, R400). -/
inductive ReadBack where
  | equal | differs | noAnswer
deriving DecidableEq, Repr

/-- The two keep links (01 R7). -/
inductive KeepLink where
  | f | p
deriving DecidableEq, Repr

/-- The two feeds (18). -/
inductive Feed where
  | a | b
deriving DecidableEq, Repr

/-- Who writes a register: a host over its endpoint, or a processor of interrupt target 2-7 over its internal bus, which reaches the
INT_ block (14 "Registers"). -/
inductive Writer where
  | host (h : HostId)
  | processor (t : Fin 6)
deriving DecidableEq, Repr

/-- What raises a source by software: INT_SETPEND written by a target's agent, or processor firmware signalling with source 175 + n
(14 R312). -/
inductive IntSet where
  | write (t : Fin 8) (v : Word)
  | internal (n : Fin 17)
deriving DecidableEq, Repr

/-- Chains whose duplicated fill count can mismatch, numbered as 12 R290 numbers their kinds. -/
inductive Chain where
  | staging (p : Port)
  | mailboxOut
  | mailboxIn
  | notices (p : Port)
  | command (h : HostId)
  | reply (h : HostId)
deriving DecidableEq, Repr

/-- Where an uncorrectable codeword of the frame die's SRAM lies (04 R102). -/
inductive MemRegion where
  | message | application | trusted | table
deriving DecidableEq, Repr

/-- Why an application core failed (16 R372), with the canvas fields that describe it (16 R375). -/
structure CoreFault where
  cause : Byte
  core  : Byte
  pc    : Word
  info0 : Word
  info1 : Word
deriving DecidableEq, Repr

/-- Wake events, numbered as 17 R399 numbers them for WOKEN (15 R347). -/
inductive WakeEvent where
  | bus | cycIn | host | fieldInput | smbus
deriving DecidableEq, Repr

/-- What latched an output off (19 R435). -/
inductive DoFault where
  | thermal | reverse
deriving DecidableEq, Repr

/-- How a command-ring read failed (11 R261). -/
inductive RingError where
  | errorCompletion | timeout
deriving DecidableEq, Repr

/-- One conversion of Amioc's sensors (19 R439): frame-die and power-die temperatures in 0.1 degree, rails in mV, feed
voltages, output voltage and sense current, the forward drops of the two ORing pairs, field supply in 10 mV. -/
structure Sensors where
  fd    : List (BitVec 16)
  pd    : List (BitVec 16)
  rails : List (BitVec 16)
  vfeedA : BitVec 16
  vfeedB : BitVec 16
  vout   : BitVec 16
  iout   : BitVec 16
  dropA  : BitVec 16
  dropB  : BitVec 16
  fldV   : BitVec 16
deriving DecidableEq, Repr

/-- The commands of the part, one for each row of spec/opcode_table.json, by chapter. -/
inductive Instr where
  -- dies, links, clocks and domains (01)
  | powerLinkTransfer (crcOk : Bool)
  | powerLinkDown
  | powerLinkTraining
  | powerLinkUp
  | mirrorUpdate
  | keepLinkRequest
  | keepLineWriteDone (r : ReadBack)
  | keepScrub (reads : List (BitVec 16 × List Byte))
  | referenceClockFault
  | referenceClockGood
  | silkPllLockLost (pll : Fin 2)
  | silkPllRelockAttempt (pll : Fin 2) (locks : Bool)
  | silkPllLockHeld (pll : Fin 2)
  | amiocWatchdogExpiry
  | bankRetentionExit (bank : Fin 32)
  | domainSupplyGood (domain : Fin 12)
  | railDrop (rail : Fin 12)
  | frameDieReset (cause : ResetCause)
  -- reception (02, 05, 10)
  | frameSof (p : Port)
  | filterResultRelease (p : Port) (k : FrameKey)
  | routeListRelease (p : Port)
  | frameValid (p : Port) (f : Frame)
  | copiesComplete (p : Port)
  | protocolException (p : Port)
  | errorDetected (p : Port) (e : BusError)
  | silkContention (p : Port)
  | stuckDominant (p : Port)
  | integrationComplete (p : Port)
  | standbyWakeElapsed (p : Port)
  | busIdleSettingsApply (p : Port)
  | portDisableAtIdle (p : Port)
  -- transmission and error confinement (06, 07)
  | arbiterChoice (p : Port)
  | frameBegin (p : Port)
  | arbitrationLost (p : Port) (winnerRank : Option (Fin 8))
  | attemptCompleted (p : Port) (delay : BitVec 12)
  | idCollision (p : Port)
  | suspendTransmissionEnd (p : Port)
  | busOffEntry (p : Port)
  | holdoffExpiry (p : Port)
  | recoverySequence (p : Port)
  | recoveryComplete (p : Port)
  -- Silk calibration (03)
  | odtTrimDone (p : Port) (termCode : BitVec 6)
  | calibrationMeasured (p : Port) (loss : BitVec 8) (preemph : BitVec 8)
  -- message memory and objects (04)
  | memoryInitDone
  | ndClr (r : Reader) (obj : BitVec 14)
  | ovwClr (r : Reader) (obj : BitVec 14)
  | txReq (h : HostId) (obj : BitVec 14) (len : BitVec 12)
  | txCancel (h : HostId) (obj : BitVec 14)
  | bar2Write (h : HostId) (offset : BitVec 26) (bytes : List (Option Byte))
  | bar2Read (h : HostId) (offset : BitVec 26) (len : BitVec 13)
  | backgroundZeroing (granule : BitVec 16)
  | latchCopyDone (obj : BitVec 14)
  | scrubRead (region : MemRegion) (address : Nat) (symbols : List Byte)
  | rowRemapSwitch (region : MemRegion) (address : Nat)
  | tableRepairWrite (address : Nat)
  -- cycle, windows and fences (08)
  | sourceTick
  | cycleStart
  | missingStart
  | windowBoundary
  | fenceRecognised (p : Port) (own : Bool) (f : Frame)
  | fenceDeadline (p : Port)
  | backupWaitExpiry (p : Port)
  | higherSeenTimeout (p : Port)
  | grdPhaseRead (h : HostId)
  -- delivery and gateway (09, 10)
  | batchSeal
  | batchCopyDone (h : HostId)
  | dringCons (h : HostId) (v : Word)
  | directEntryDeliver (h : HostId)
  | routeEnqueue (p : Port)
  | pairCopyExpiry (pair : Fin 32)
  | denseRelease (obj : BitVec 14)
  -- host interface (11, 12)
  | hostRegisterWrite (w : Writer) (offset : BitVec 18) (be : BitVec 4) (v : Word)
  | heartbeat (h : HostId) (v : Word)
  | heartbeatLapse (h : HostId)
  | endpointReset (h : HostId) (kind : EndpointReset)
  | doorbell (h : HostId) (v : Word)
  | cmdFifoWrite (h : HostId) (v : Word)
  | replyFifoRead (h : HostId)
  | flushCmd (h : HostId)
  | flushReply (h : HostId)
  | discardPacket (h : HostId)
  | ovrClr (h : HostId)
  | integClr (h : HostId)
  | cringTail (h : HostId) (v : Word)
  | cringPacketRead (h : HostId) (packet : List Word)
  | cringReadError (h : HostId) (e : RingError)
  | rringCons (h : HostId) (v : Word)
  | replyWrite (h : HostId)
  | hostLinkUp (h : HostId)
  | pcieConfigWrite (h : HostId) (c : PcieCfg)
  | commitPoint
  | compileComplete (jseq : Word)
  | fifoIntegrity (c : Chain)
  -- command packets (13)
  | seqQuery (hd : Head)
  | devInfo (hd : Head)
  | modeSet (hd : Head) (ew : EW) (mode : Byte)
  | cfgPolicySet (hd : Head) (ew : EW) (policy : Byte)
  | leadSet (hd : Head) (ew : EW) (leadSrc lead : Byte)
  | hbPeriod (hd : Head) (period : BitVec 16)
  | devReset (hd : Head) (key : Word)
  | sleep (hd : Head) (wake : Byte)
  | portConfig (hd : Head) (ew : EW) (c : PortConfigP)
  | portSilk (hd : Head) (ew : EW) (ctrl peInit : Word)
  | portErrcfg (hd : Head) (ew : EW) (policy babble : Word)
  | portFence (hd : Head) (ew : EW) (cfg : Word)
  | portDelivery (hd : Head) (ew : EW) (ownDlv mode : Byte) (frames : BitVec 16) (bytes : Word)
  | portGuard (hd : Head) (ew : EW) (max : BitVec 16)
  | portRecover (hd : Head) (ew : EW)
  | portRelease (hd : Head) (ew : EW)
  | portRemap (hd : Head) (op : Byte)
  | portStatus (hd : Head)
  | objConfig (hd : Head) (ew : EW) (r : ObjRecord)
  | objConfigN (hd : Head) (ew : EW) (rs : List ObjRecord)
  | objRead (hd : Head) (offset len : BitVec 16)
  | objPool (hd : Head)
  | fltPort (hd : Head) (ew : EW) (ctrl elem dflt dfltStd : Word)
  | fltDtable (hd : Head) (ew : EW) (first : BitVec 16) (results : List (BitVec 16))
  | fltElem (hd : Head) (ew : EW) (first : BitVec 16) (elems : List Elem)
  | fltRead (hd : Head) (what table : Byte) (first count : BitVec 16)
  | rteSet (hd : Head) (ew : EW) (entry : BitVec 64) (ext : Word)
  | rteQuota (hd : Head) (ew : EW) (cells : BitVec 16)
  | rteStatus (hd : Head)
  | pairSet (hd : Head) (ew : EW) (pair : BitVec 64)
  | pairStatus (hd : Head)
  | cycSource (hd : Head) (ew : EW) (src period : Word)
  | cycWindows (hd : Head) (ew : EW) (jumpTol : BitVec 16) (count : Byte) (starts : List (BitVec 16))
  | cycCountSet (hd : Head) (ew : EW) (count : Word)
  | timeSet (hd : Head) (ew : EW) (time : BitVec 64)
  | timeQuery (hd : Head)
  | denseSet (hd : Head) (ew : EW) (port errAllow : Byte) (entries : List (BitVec 64))
  | denseRead (hd : Head)
  | ringDelivery (hd : Head) (ew : EW) (base : BitVec 64) (sizeLog : Byte)
  | ringCommand (hd : Head) (ew : EW) (base : BitVec 64) (sizeLog : Byte)
  | ringReply (hd : Head) (ew : EW) (base : BitVec 64) (sizeLog : Byte)
  | ringWriteback (hd : Head) (ew : EW) (address : BitVec 64)
  | ringRearm (hd : Head)
  | profileLoad (hd : Head) (ew : EW) (profile : Byte)
  | profileStore (hd : Head) (c : Chunk)
  | profileList (hd : Head)
  | pregWrite (hd : Head) (index : BitVec 16) (values : List Word)
  | pregRead (hd : Head) (index count : BitVec 16)
  | recNonce (hd : Head)
  | recClear (hd : Head) (rseq : Word) (nonce : BitVec 64) (sig : List Byte)
  | recRead (hd : Head) (rseq : Word) (count : BitVec 16)
  | jnlRead (hd : Head) (jseq : Word) (count : BitVec 16)
  | pwrLimits (hd : Head) (ilim : BitVec 16) (tripQ retries : Byte)
  | pwrStatus (hd : Head)
  | doSet (hd : Head) (ew : EW) (mask value : Byte)
  | fldConfig (hd : Head) (ew : EW) (autoRestore : Byte) (filters : List (BitVec 16))
  | fldRestore (hd : Head)
  | fldStatus (hd : Head)
  | fwStage (hd : Head) (c : Chunk)
  | fwVerify (hd : Head) (part : Byte)
  | fwActivate (hd : Head) (ew : EW) (part : Byte)
  | fwStatus (hd : Head)
  | diagMem (hd : Head)
  | diagPort (hd : Head)
  | diagGate (hd : Head)
  | canvasInfo (hd : Head)
  | canvasRead (hd : Head) (offset len : Word)
  | canvasRelease (hd : Head)
  | intPrioSet (hd : Head) (first : BitVec 16) (prios : List Byte)
  | intModSet (hd : Head) (mod : BitVec 16)
  | twdMap (hd : Head) (ew : EW) (ports : List Byte)
  | twdStatus (hd : Head)
  -- flag clears and interrupts (02, 14)
  | chFlagsClr (h : HostId) (p : Port) (v : Word)
  | chSilkFlagsClr (h : HostId) (p : Port) (v : Word)
  | chTxFlagsClr (h : HostId) (p : Port) (v : Word)
  | chErrFlagsClr (h : HostId) (p : Port) (v : Word)
  | grdFlagsClr (h : HostId) (v : Word)
  | pwrFlagsClr (h : HostId) (v : Word)
  | mgtFlagsClr (h : HostId) (v : Word)
  | intClaim (t : Fin 8)
  | intComplete (t : Fin 8) (v : Word)
  | intPendWrite (t : Fin 8) (k : Fin 8) (v : Word)
  | intSetpend (x : IntSet)
  | intClrpend (t : Fin 8) (v : Word)
  | intSetseenRead (t : Fin 8)
  | moderationExpiry (t : Fin 8)
  -- modes and start-up (15, 16)
  | buckramStart
  | serviceFwStart
  | profileApply
  | sleepEntry
  | wakeEvent (w : WakeEvent)
  | twdScfgWrite (h : HostId) (offset : BitVec 18) (v : Word)
  | twdLock (h : HostId) (channel : Fin 16) (slot : Fin 32) (lock : Bool)
  | txrq (h : HostId) (channel : Fin 16) (slot : Fin 32)
  | txcan (h : HostId) (channel : Fin 16) (slot : Fin 32)
  | twdTxevtClr (h : HostId) (channel : Fin 16) (v : Word)
  | txTimeout (channel : Fin 16) (slot : Fin 32)
  | lockLimitExpiry (channel : Fin 16) (slot : Fin 32)
  | serviceFwFault (f : CoreFault)
  | coreWatchdogExpiry (core : Fin 4)
  | serviceFwRestart
  | trustedFault (f : CoreFault)
  | pairWatchdogExpiry
  | faultRecovered
  | cutoverConfirmed (part : Fin 3)
  | cutoverTimeout (part : Fin 3)
  | engineSelfTestStep (engine : Fin 66) (pass : Bool)
  | engineRemap (p : Port)
  -- persistent registers, recorder and journal (17)
  | pregDataWrite (h : HostId) (offset : BitVec 18) (v : Word)
  | persistWear (line : BitVec 16)
  | recorderScan
  | eventRecord
  | repeatCommit (rseq : Word)
  | recorderRestored
  | recNext (h : HostId)
  | recMark (h : HostId)
  | recRewind (h : HostId)
  | recCursorWrite (h : HostId) (v : Word)
  | recSnapshotCopy (h : HostId)
  | jnlNext (h : HostId)
  | jnlMark (h : HostId)
  | jnlRewind (h : HostId)
  | jnlCursorWrite (h : HostId) (v : Word)
  -- power die (18)
  | feedStateChange (f : Feed) (ok : Bool)
  | powerDieStart
  | oringClose (f : Feed)
  | reverseTurnOff (f : Feed) (mv : BitVec 16)
  | feedOvervoltage (f : Feed)
  | overvoltageReclose (f : Feed)
  | feedWarn (f : Feed) (warning : Bool) (mv : BitVec 16)
  | bothFeedsLost
  | hsStartReadsDone (configOk areaOk : Bool) (rfcSeen : Bool)
  | pgoodAssert (mv : BitVec 16)
  | pgoodDeassert (vds : Bool) (mv : BitVec 16)
  | pgLost (mv : BitVec 16)
  | rampTimeout (vout vbus : BitVec 16)
  | pgoodHeld60s
  | currentLimitEngage
  | fastTrip (ma : BitVec 16)
  | backupTrip (ma : BitVec 16)
  | feltUpdate (power : BitVec 32) (tsense : BitVec 16) (tsenseOpenShort : Bool)
  | fetShort (mv : BitVec 16)
  -- field inputs, outputs and management (19); `pec` says that the PEC of an SMBus write checks (19 R440)
  | diSample (raw : BitVec 8)
  | doLimitTimeout (o : Fin 4) (ma : BitVec 16)
  | doFaultLatch (o : Fin 4) (why : DoFault) (measured : BitVec 16)
  | extDriveDetect (o : Fin 4) (mv : BitVec 16)
  | extDriveClear (o : Fin 4)
  | fldLowEntry (mv : BitVec 16)
  | fldUvEntry (mv : BitVec 16)
  | sensorConversion (r : Sensors)
  | pktWrite (pec : Bool) (bytes : List Byte)
  | smbusStatus
  | hsRelease (pec : Bool) (data : Byte)
  | smbusWake (pec : Bool)
  | pktSubmit (pec : Bool)
  | pktRead
  | spillRead
  | uartStatus
  | uartSpill
  | uartRelease
  | uartWake
  -- rows without operands of the power die, the field side and others (18, 19, 08)
  | retryStart
  | moduleRemoval
  | fldLowExit
  | fldAutoRestore
  | currentLimitEnd
  | powerDiePowerLoss
  | slewEnd
  | mailboxRequestRepeat
deriving DecidableEq, Repr

end Sys2Proof
end

