-- ==== Sys2Proof/Config.lean ====
section
/-! DEFINITION. What one part fixes and what the spec leaves open, as constants without a body: nothing can be proved of
their values. -/

namespace Sys2Proof

/-- The firmware public key, x then y, each 32 bytes big-endian: boot ROM, Buckram and the Amioc ROM hold it (16 R359), and the spec
gives no value (log entry 4). -/
opaque Config.firmwareKey : List Byte

/-- The nonce of the `n`-th REC_NONCE (13, log entry 5): a random number of 64 bits. -/
opaque Config.nonce : Nat → BitVec 64

/-- Which of the free cells the `n`-th allocation of a route-queue cell takes, as a place in the list of free cells: 10
R233 does not state it (log entry 6). -/
opaque Config.cellPick : Nat → Nat

/-- What the two words of the `n`-th Direct notice hold below their length field: 12 R287, R288 do not state it (log entry
7). -/
opaque Config.noticeWord : Nat → Word × Word

/-- Word `i` of a C8 packet that a sender writes at tick `n`, and how many words follow the first one: 12 R287, R288 do not state
them (log entry 130). -/
opaque Config.mailWord : Nat → Nat → Word
opaque Config.mailLen : Nat → Nat

/-- The words of the packet in a port's C8 staging chain, and its length less 1: 12 R287 and R288 give the chain and the length field
alone (log entry 165). Arguments: the tick of the choice, the port, the word. -/
opaque Config.stageWord : Nat → Nat → Nat → Word
opaque Config.stageLen : Nat → Nat → Nat

/-- The number of the first row of 16 R356's table in a REQUEST_REFUSED record: 17 R399 says "in the row order" and does not
say where it begins (log entry 15). -/
opaque Config.firstRequestKind : Nat

/-- DATA1, "detail", of the `n`-th REQUEST_REFUSED record: 17 R399 does not say what it holds (log entry 15). -/
opaque Config.refusalDetail : Nat → Nat

/-- NEXT_SEQ as SEQ_QUERY reports it for a stream that has not started: 12 R271 states none (log entry 17). -/
opaque Config.unstartedSeq : Word

/-- Feed A's part of a sense current when both ORing pairs are closed and neither shows a forward drop: 19 R439 divides in
proportion to the drops (log entry 156). -/
opaque Config.feedSplit : Nat → Nat

/-- A byte of the canvas of the `n`-th draw at an offset whose contents 16 R375 does not lay out (log entry 18). -/
opaque Config.canvasByte : Nat → Nat → Byte

/-- Which byte of what a section of the canvas contains stands at an offset, if any: 16 R375 lists the contents of these sections and
not their places (log entry 18). -/
opaque Config.canvasPlace : Nat → Option Nat

/-- Which of the commands in staging lies in the `n`-th codeword of staging met uncorrectable, counted from 1; beyond their
number, none: where a command lies in staging is not stated (04 R79, R102, log entry 19). -/
opaque Config.stagingHit : Nat → Nat

/-- SOURCE of an ENGINE_FAILED record of a spare that serves no port: 17 R399 names a port (log entry 20). -/
opaque Config.noPort : Nat

/-- SOURCE, DATA0 and DATA1 of the `n`-th CLOCK_MONITOR record: 17 R399 names feeds, the hot-swap and sensors, and measured
values, none of which the clock monitor has (log entry 22). -/
opaque Config.clockRecord : Nat → Nat × Nat × Nat

/-- CODE, SOURCE, SEV and DATA0 of the `n`-th rail record of 20 R447, which gives DATA1 alone (log entry 22). -/
opaque Config.railRecord : Nat → Nat × Nat × Nat × Nat

/-- The core, program counter and two words of information that the canvas of the `n`-th watchdog expiry shows: 16 R375 does
not say them for a watchdog (log entry 23). Of a core watchdog the core is known. -/
opaque Config.watchdogSeen : Nat → Byte × Word × Word × Word

/-- CODE, SOURCE, SEV, DATA0 and DATA1 of the `n`-th spill record by which Amioc logs a command: 16 R367 and 17 R399 do not
say them (log entry 24). -/
opaque Config.amiocRecord : Nat → Nat × Nat × Nat × Nat × Nat

/-- Of the frame in progress on a port at a tick of the phase clock: whether it is in its data phase, and whether clock
recovery is locked. No command marks the begin of a data phase (02, CH_STAT, 03, CH_SILK_STAT, log entry 31). Arguments:
the tick, the port. -/
opaque Config.midFrame : Nat → Nat → Bool × Bool

/-- The bank that the memory controller would place in retention at a tick of the phase clock; 32 or more, none. 01 R30 says that
it may (log entry 104). -/
opaque Config.retentionPick : Nat → Nat

/-- Whether a reactive overload frame is in progress between two frames on a port, at a tick of the phase clock: 02 R35 has it sent
as ISO 11898-1 requires, and no command marks it (log entry 117). Arguments: the tick, the port. -/
opaque Config.overload : Nat → Nat → Bool

/-- The bytes of the `n`-th SPILL_READ when no further record is held: 19 R440 does not say them (log entry 25). -/
opaque Config.noSpill : Nat → List Byte

/-- The direct table that holds a Tweed channel's own, and the first of its filter elements: 15 R349 does not say where they lie
(log entry 121). -/
opaque Config.tweedTable : Nat → Nat

opaque Config.tweedElem : Nat → Nat

/-- The index entry that probe `k` of the route lookup reads, of an index of that length, for a match value whose first place is
that: 10 R226 says that there are 12 and not which (log entry 123). -/
opaque Config.routeProbe : Nat → Nat → Nat → Nat

/-- The priorities that Buckram gives sources 175-191, which 14 R312 does not state (log entry 176). -/
opaque Config.internalPrio : Nat → BitVec 4

end Sys2Proof
end

