-- ==== Sys2Proof/Machine/Bits.lean ====
section
/-! DEFINITION. Bit fields, byte order, saturating counters and the check codes the part computes. Multi-byte fields are
little-endian (00 R3). -/

namespace Sys2Proof.Machine

/-- Field [hi:lo] of a word as a number (00 R2). -/
def bits {n : Nat} (w : BitVec n) (hi lo : Nat) : Nat := (w.toNat >>> lo) % 2 ^ (hi + 1 - lo)

/-- Bit `i` of a word. -/
def bit {n : Nat} (w : BitVec n) (i : Nat) : Bool := w.getLsbD i

/-- A word with field [hi:lo] replaced. -/
def setBits {n : Nat} (w : BitVec n) (hi lo v : Nat) : BitVec n :=
  let m := BitVec.ofNat n ((2 ^ (hi + 1 - lo) - 1) <<< lo)
  (w &&& ~~~m) ||| (BitVec.ofNat n (v <<< lo) &&& m)

/-- A word with bit `i` set to `b`. -/
def setBit {n : Nat} (w : BitVec n) (i : Nat) (b : Bool) : BitVec n :=
  let m := BitVec.ofNat n (1 <<< i)
  if b then w ||| m else w &&& ~~~m

/-- A register image built of (lowest bit, value) fields. -/
def image : List (Nat × Nat) → Word
  | [] => 0
  | (lo, v) :: t => BitVec.ofNat 32 (v <<< lo) ||| image t

/-- 1 for true, 0 for false. -/
def flag (b : Bool) : Nat := if b then 1 else 0

/-- Adds 1 to a counter that holds at `top` (02 R56). -/
def incSat (n top : Nat) : Nat := if n < top then n + 1 else top

/-- Little-endian bytes of a number, `n` of them (00 R3). -/
def leBytes : Nat → Nat → List Byte
  | 0, _ => []
  | n + 1, v => BitVec.ofNat 8 v :: leBytes n (v / 256)

/-- The number that little-endian bytes spell. -/
def leNat : List Byte → Nat
  | [] => 0
  | b :: bs => b.toNat + 256 * leNat bs

/-- Big-endian bytes of a number, `n` of them. -/
def beBytes (n v : Nat) : List Byte := (leBytes n v).reverse

/-- The number that big-endian bytes spell. -/
def beNat (bs : List Byte) : Nat := leNat bs.reverse

/-- Bytes of a word. -/
def wordBytes (w : Word) : List Byte := leBytes 4 w.toNat

/-- Bytes of a list of words. -/
def wordsBytes : List Word → List Byte
  | [] => []
  | w :: ws => wordBytes w ++ wordsBytes ws

/-- Words of a list of bytes; a last incomplete word is filled with zeros. `n` bounds the words. -/
def bytesWords : Nat → List Byte → List Word
  | 0, _ => []
  | _, [] => []
  | n + 1, bs => BitVec.ofNat 32 (leNat (bs.take 4)) :: bytesWords n (bs.drop 4)

/-- One word at byte offset `o` of a parameter block. -/
def u32At (bs : List Byte) (o : Nat) : Nat := leNat ((bs.drop o).take 4)

/-- One 16-bit field at byte offset `o`. -/
def u16At (bs : List Byte) (o : Nat) : Nat := leNat ((bs.drop o).take 2)

/-- One byte at offset `o`. -/
def u8At (bs : List Byte) (o : Nat) : Nat := leNat ((bs.drop o).take 1)

/-- One 64-bit field at byte offset `o`. -/
def u64At (bs : List Byte) (o : Nat) : Nat := leNat ((bs.drop o).take 8)

/-- All bytes of a field are zero. -/
def zeroAt (bs : List Byte) (o n : Nat) : Bool := ((bs.drop o).take n).all (· == 0)

/-- `n` zero bytes. -/
def zeros (n : Nat) : List Byte := List.replicate n 0

/-- One step of the reflected CRC-32C register. -/
def crc32cBit (c : BitVec 32) : BitVec 32 :=
  if c.getLsbD 0 then (c >>> 1) ^^^ 0x82F63B78#32 else c >>> 1

/-- The CRC-32C register after one byte (09 R204). -/
def crc32cByte (c : BitVec 32) (b : Byte) : BitVec 32 :=
  crc32cBit (crc32cBit (crc32cBit (crc32cBit (crc32cBit (crc32cBit (crc32cBit (crc32cBit
    (c ^^^ b.setWidth 32))))))))

/-- CRC-32C over bytes (09 R204: initial value and final XOR all ones, reflected). -/
def crc32c (bs : List Byte) : Word := ~~~(bs.foldl crc32cByte 0xFFFFFFFF#32)

/-- One step of the CRC-8 register. -/
def crc8Bit (c : BitVec 8) : BitVec 8 :=
  if c.getLsbD 7 then (c <<< 1) ^^^ 0x07#8 else c <<< 1

/-- CRC-8 over bytes (17 R388: polynomial 0x07, initial value 0, no reflection). -/
def crc8 (bs : List Byte) : Byte :=
  bs.foldl (fun c b => crc8Bit (crc8Bit (crc8Bit (crc8Bit (crc8Bit (crc8Bit (crc8Bit (crc8Bit (c ^^^ b))))))))) 0

/-- Signed difference of two 32-bit sequence numbers (17 R389). -/
def seqDiff (a b : Word) : Int := (a - b).toInt

/-- The numbers from `a` on, `n` of them. -/
def numsFrom : Nat → Nat → List Nat
  | _, 0 => []
  | a, n + 1 => a :: numsFrom (a + 1) n

/-- The numbers below `n`, rising. -/
def nums (n : Nat) : List Nat := numsFrom 0 n

/-- Insertion into a list ordered by `f`, after what is equal. -/
def insertBy {α : Type} (f : α → Nat) (x : α) : List α → List α
  | [] => [x]
  | y :: ys => if f x < f y then x :: y :: ys else y :: insertBy f x ys

def sortBy {α : Type} (f : α → Nat) (l : List α) : List α := l.foldl (fun r x => insertBy f x r) []

end Sys2Proof.Machine
end

