-- ==== Sys2Proof/Machine/Table.lean ====
section
/-! DEFINITION. Sparse tables and the addressed memory: lists with strictly rising keys. A table stands for the many
like things of the part (64 ports, 16,384 objects, 4,096 routes, ...): what is not listed has its reset value. -/

namespace Sys2Proof.Machine

/-- A sparse table. -/
abbrev Tbl (α : Type) := List (Nat × α)

/-- The entry of key `k`, or `d` where none is listed. -/
def Tbl.get {α : Type} (d : α) : Tbl α → Nat → α
  | [], _ => d
  | (i, v) :: t, k => if i = k then v else Tbl.get d t k

/-- The entry of key `k`, if listed. -/
def Tbl.find {α : Type} : Tbl α → Nat → Option α
  | [], _ => none
  | (i, v) :: t, k => if i = k then some v else Tbl.find t k

/-- Replaces or inserts the entry of key `k`, keeping the keys rising. -/
def Tbl.put {α : Type} : Tbl α → Nat → α → Tbl α
  | [], k, v => [(k, v)]
  | (i, w) :: t, k, v =>
    if k < i then (k, v) :: (i, w) :: t
    else if k = i then (k, v) :: t
    else (i, w) :: Tbl.put t k v

/-- Removes every entry of key `k`. -/
def Tbl.del {α : Type} : Tbl α → Nat → Tbl α
  | [], _ => []
  | (i, w) :: t, k => if i = k then Tbl.del t k else (i, w) :: Tbl.del t k

/-- The keys rise strictly. -/
def Tbl.wf {α : Type} : Tbl α → Bool
  | [] => true
  | [_] => true
  | (i, _) :: (j, w) :: t => decide (i < j) && Tbl.wf ((j, w) :: t)

/-- An addressed memory: the bytes that are not zero, by rising address (04 R80: initialised memory reads zero). -/
abbrev Mem := List Host.Cell

/-- The byte at address `a`; what is not listed reads zero. -/
def Mem.read : Mem → Nat → Byte
  | [], _ => 0
  | (i, b) :: m, a => if i = a then b else Mem.read m a

/-- Writes one byte; writing zero removes the entry, so that equal memories are equal lists. -/
def Mem.write : Mem → Nat → Byte → Mem
  | [], a, b => if b = 0 then [] else [(a, b)]
  | (i, c) :: m, a, b =>
    if a < i then (if b = 0 then (i, c) :: m else (a, b) :: (i, c) :: m)
    else if a = i then (if b = 0 then m else (a, b) :: m)
    else (i, c) :: Mem.write m a b

/-- Reads `n` bytes from address `a` on. -/
def Mem.readN (m : Mem) (a : Nat) : Nat → List Byte
  | 0 => []
  | n + 1 => m.read a :: Mem.readN m (a + 1) n

/-- Writes a list of bytes from address `a` on. -/
def Mem.writeN (m : Mem) (a : Nat) : List Byte → Mem
  | [] => m
  | b :: bs => Mem.writeN (m.write a b) (a + 1) bs

/-- Writes `n` zero bytes from address `a` on. -/
def Mem.zeroN (m : Mem) (a : Nat) : Nat → Mem
  | 0 => m
  | n + 1 => Mem.zeroN (m.write a 0) (a + 1) n

/-- Every listed address is at least `lo`, the addresses rise strictly and no listed byte is zero. -/
def Mem.wfFrom : Nat → Mem → Bool
  | _, [] => true
  | lo, (a, b) :: m => decide (lo ≤ a) && (b != 0) && Mem.wfFrom (a + 1) m

/-- The canonical form. -/
def Memory.wf (m : Mem) : Bool := Mem.wfFrom 0 m

/-- The members of a list of numbers in rising order, each once, with `k` added. -/
def insertNat (k : Nat) : List Nat → List Nat
  | [] => [k]
  | i :: t => if k < i then k :: i :: t else if k = i then i :: t else i :: insertNat k t

end Sys2Proof.Machine
end

