-- ==== Sys2Proof/Machine/State.lean ====
section
/-! DEFINITION. The state of the part, as plain data. Every field carries its reset value; where the spec gives none the
value is a design choice (log entry 2). -/

namespace Sys2Proof.Machine

/-! ## Interrupt controller (14) -/

/-- One of the eight targets of the interrupt controller (14, targets). -/
structure IrqTarget where
  /-- INT_MASK of the eight words as one value; 1 masks (14 registers). -/
  mask : BitVec 256 := BitVec.allOnes 256
  /-- INT_THRESH. -/
  thresh : Nat := 0
  /-- Active sources with the priority each was claimed at, latest claim first (14 R316, R318). -/
  active : List (Nat × Nat) := []
  /-- SIGNALLED (14 R320, R321). -/
  signalled : Nat := 0
  /-- INT_MOD in microseconds (14 R323). -/
  moderation : Nat := 0
  /-- WITHDRAWN, holds at 65,535 (14 R325). -/
  withdrawn : Nat := 0
  /-- INT_STRAY, holds at 65,535 (14 R326). -/
  stray : Nat := 0
  /-- INT_SETSEEN (14 R328). -/
  seen : BitVec 8 := 0
  /-- When the last presentation was signalled, in ticks of 10 ns (14 R323). -/
  lastSignal : Option Nat := none
  /-- The interrupt line of a processor target is asserted (14 R320). -/
  asserted : Bool := false
deriving DecidableEq, Repr

/-- The interrupt controller. -/
structure Irq where
  /-- INT_PEND, one bit a source (14 R311). -/
  pend : BitVec 256 := 0
  /-- Priorities that differ from those of 14 R312. -/
  prio : Tbl Nat := []
  /-- The targets that differ from their reset state. -/
  targets : Tbl IrqTarget := []
deriving DecidableEq, Repr

/-! ## Recorder, journal, persistent registers (17) -/

/-- An event waiting to be recorded, with the time of its detection (17 R388, R399). -/
structure Event where
  code   : Nat
  source : Nat
  sev    : Nat
  d0     : Nat := 0
  d1     : Nat := 0
  /-- Plant time in ns at detection. -/
  time   : Nat := 0
  /-- Free-running 1 us counter at detection (17 R390). -/
  at_us  : Nat := 0
deriving DecidableEq, Repr

/-- A recorder record (17 R388). CHECK and VALID are computed. -/
structure Record where
  rseq   : Word
  epoch  : Nat
  code   : Nat
  time   : Nat
  source : Nat
  sev    : Nat
  flags  : Nat := 0
  d0     : Nat
  d1     : Nat
  rep    : Nat := 0
deriving DecidableEq, Repr

/-- A recorder slot: the record, when it was written, when its last occurrence came, and the merged counts not yet
committed to its line (17 R390, R391). -/
structure RecSlot where
  r      : Record
  wrote  : Nat
  last   : Nat
  pend   : Nat := 0
  /-- Buckram holds the record's times; they are lost with its SRAM at frame-die reset, and with them merging into the
  record. -/
  live   : Bool := true
deriving DecidableEq, Repr

/-- A host's cursor into the recorder or the journal (17 R393, R394, R398). -/
structure Cursor where
  cursor    : Word := 0
  mark      : Word := 0
  markValid : Bool := true
  overtaken : Bool := false
  atEnd     : Bool := false
  gone      : Bool := false
  spillView : Bool := false
  /-- The count a REWIND has frozen (17 R394). -/
  lost      : Option Word := none
  /-- REC_DATA: the 32 bytes of the snapshot, without REPEAT of a held record (17 R393). -/
  snap      : List Byte := zeros 32
  /-- The copy into the snapshot has not completed (17 R393). -/
  copying   : Bool := false
deriving DecidableEq, Repr

/-- Why records go to the spill area (17 R396). -/
inductive Degraded where
  | no | unreachable | noSpares
deriving DecidableEq, Repr

/-- The event recorder. -/
structure Recorder where
  /-- Records by slot, RSEQ mod 32,768 (17 R389). -/
  ring     : Tbl RecSlot := []
  /-- The newest RSEQ assigned; none before the first record ever. -/
  newest   : Option Word := none
  /-- Events detected and not yet recorded, oldest first. -/
  queue    : List Event := []
  /-- The start-up scan has ended (17 R389), and it ended without the ring, the keep die being unreachable (log entry 153). -/
  scanned  : Bool := false
  blind    : Bool := false
  /-- The spill area, slot 0 first (17 R396). -/
  spill    : List RecSlot := []
  /-- Spill records overwritten since degradation began. -/
  spillLost : Nat := 0
  /-- The next of slots 1-63 to be overwritten when the area is full. -/
  spillNext : Nat := 1
  degraded : Degraded := .no
  /-- REC_CURSOR and its fellows. -/
  cur      : PerHost Cursor := .both {}
deriving DecidableEq, Repr

/-- A journal entry (17 R397). -/
structure JEntry where
  jseq     : Word
  cmdSeq   : Word
  opcode   : Nat
  status   : Nat
  stream   : Stream
  flags    : Nat
  target   : Nat
  effCycle : Word
  effWin   : Nat
  plen     : Nat
  pcrc     : Word
  timeMs   : Nat
deriving DecidableEq, Repr

/-- The command journal. -/
structure Journal where
  /-- Entries by slot, JSEQ mod 16,384 (17 R397). -/
  ring   : Tbl JEntry := []
  /-- The newest JSEQ; none while no entry has been written (17 R398). -/
  newest : Option Word := none
  cur    : PerHost Cursor := .both { atEnd := true }
deriving DecidableEq, Repr

/-- What a request to the keep die moves (01 R7): a ferroelectric line that is written, a line that is read, up to 256 bytes
of NOR read or programmed. -/
inductive KeepMove where
  | lineWrite | lineRead | norRead | norProgram
deriving DecidableEq, Repr

/-- What a slot of the recorder or of the journal held before a line write that has not begun: the line stays wholly old when
the write never begins (17 R381). -/
inductive KeepWas where
  | record (slot : Nat) (old : Option RecSlot)
  | entry (slot : Nat) (old : Option JEntry)
deriving DecidableEq, Repr

/-- A transfer on its way into or out of the keep die (01 R7, 17 R379). -/
structure KeepJob where
  /-- The line of a ferroelectric request, 0 for the NOR. -/
  line  : Nat
  /-- The host whose PREG_DATA write this is, for the count of 16 (17 R384). -/
  owner : Option HostId := none
  /-- Failed read-backs so far (17 R379). -/
  tries : Nat := 0
  /-- The persistent registers the line write carries, with their values. -/
  write : List (Nat × Word) := []
  /-- The slot whose record or entry the line write carries, and what it held before (17 R381). -/
  was   : Option KeepWas := none
  /-- The state line of the power die that the write carries (18 R427). -/
  area  : Option (List Byte) := none
  /-- What it moves, and in how many requests more (01 R7). -/
  move  : KeepMove := .lineWrite
  parts : Nat := 1
deriving DecidableEq, Repr

/-- The keep die: persistent registers, line wear and the two keep links (17, 01 R7). -/
structure Keep where
  /-- Persistent registers as stored, where they differ from their factory values (17 R382). -/
  regs     : Tbl Word := []
  /-- Line writes in units of 65,536 (17 R386, the wear table). -/
  wear     : Tbl Nat := []
  /-- The volatile 16-bit counters of line writes (17 R386). -/
  wearLow  : Tbl Nat := []
  /-- Lines served by a spare line. -/
  remapped : List Nat := []
  /-- Spare lines that are free, 0-256 (17 R379). -/
  spares   : Nat := 256
  /-- Lines whose first copy is uncorrectable and whose content is lost. -/
  lineLost : Bool := false
  lostLine : Nat := 0
  /-- The two state lines of the power-die area as stored, by place; what is not listed reads as zeros (18 R427). -/
  area     : Tbl (List Byte) := []
  /-- The keep die is unreachable (17 R385). -/
  down     : Bool := false
  /-- The power die has reported the loss of both feeds (17 R381). -/
  feedsLost : Bool := false
  /-- Requests waiting on keep link F (power die) and on keep link P (Buckram), oldest first (01 R7). -/
  jobsF    : List KeepJob := []
  jobsP    : List KeepJob := []
  /-- The line write in progress. -/
  busy     : Option KeepJob := none
  /-- The link served last (01 R7). -/
  lastLink : KeepLink := .p
  corrected : Nat := 0
  uncorrectable : Nat := 0
  remaps   : Nat := 0
deriving DecidableEq, Repr

/-! ## Modes, domains, links, clocks (01, 15) -/

/-- The twelve modes (15 R331). -/
inductive Mode where
  | latched | sleep | insert | boot | config | grid | direct | dense | tweed | service | hold | fault
deriving DecidableEq, Repr

/-- The mode's code (15 R331). -/
def Mode.code : Mode → Nat
  | .latched => 0 | .sleep => 1 | .insert => 2 | .boot => 3 | .config => 4 | .grid => 5 | .direct => 6
  | .dense => 7 | .tweed => 8 | .service => 9 | .hold => 10 | .fault => 11

/-- The mode of a code (15 R331). -/
def Mode.ofCode : Nat → Option Mode
  | 0 => some .latched | 1 => some .sleep | 2 => some .insert | 3 => some .boot | 4 => some .config
  | 5 => some .grid | 6 => some .direct | 7 => some .dense | 8 => some .tweed | 9 => some .service
  | 10 => some .hold | 11 => some .fault | _ => none

/-- The run modes (00, glossary). -/
def Mode.isRun : Mode → Bool
  | .grid | .direct | .dense | .tweed => true
  | _ => false

/-- Host states (11 R264). -/
inductive HostState where
  | absent | live | lapsed
deriving DecidableEq, Repr

/-- The code of a host state (11, DEV_STATUS). -/
def HostState.code : HostState → Nat
  | .absent => 0 | .live => 1 | .lapsed => 2

/-- Mode, profile and start-up state (15) and the DEV_ registers' fields (11). -/
structure Dev where
  mode         : Mode := .boot
  prevMode     : Mode := .insert
  /-- The active profile, none while none is applied (15 R342). -/
  profile      : Option Nat := none
  profilePins  : Bool := false
  /-- CONFIG was entered from BOOT or FAULT and its exit of 15 R339 is not cancelled. -/
  cfgExit      : Bool := false
  /-- CONFIG was entered from BOOT or FAULT, so a MODE_SET needs the tracker LOCKED or FREE (15 R339). -/
  cfgFromStart : Bool := false
  /-- Cycle starts since CONFIG was entered (15 R339). -/
  cfgStarts    : Nat := 0
  /-- The mode held before HOLD was entered by lapse (15 R344); none in a HOLD entered by MODE_SET. -/
  holdFrom     : Option Mode := none
  /-- The mode in force when FAULT was entered (15 R339). -/
  faultFrom    : Option Mode := none
  /-- DEV_RESET_CAUSE.CAUSE (11). -/
  resetCause   : Nat := 0
  /-- FRAME_RESETS, holds at 65,535 (11). -/
  frameResets  : Nat := 0
  /-- LEAD_SRC, the commanded lead and the lead now (11 R267). -/
  leadSrc      : Nat := 0
  cmdLead      : HostId := .a
  lead         : HostId := .a
deriving DecidableEq, Repr

/-- What runs, what is powered, what is locked (01, 11 DEV_STATUS). -/
structure Run where
  buckram    : Bool := false
  svc        : Bool := false
  /-- Power domains PD3 to PD11 by number, on when listed (01 R26). PD0 to PD2 are on. -/
  domains    : List Nat := []
  /-- The reference clock is missing or off frequency (01 R23). -/
  refFault   : Bool := false
  /-- The reference clock has been correct for 1 ms since the start (15 R337 step 2). -/
  refGood    : Bool := false
  /-- The two Silk PLLs: 0 unlocked, 1 locked, 2 locked for 1 ms (01 R24). -/
  pll0       : Nat := 0
  pll1       : Nat := 0
  /-- MAINT_KEY, DI4 as last sampled at a boundary (11, 19 R432). -/
  maintKey   : Bool := false
  /-- CFG_POLICY: 0 ANY, 1 LEAD, 2 AGREE (12 R285). -/
  cfgPolicy  : Nat := 2
  /-- DI0-DI2 as latched at PGOOD (15 R341). -/
  diLatch    : Nat := 0
  /-- PGOOD came earlier than 5 ms after the power die's start, and the latch is still to be taken (15 R341). -/
  diDue      : Bool := false
  /-- FP_STBY[g] high, group g listed (02 R34). -/
  stby       : List Nat := [0, 1, 2, 3, 4, 5, 6, 7]
  /-- Message-memory banks in retention (01 R30). -/
  retention  : List Nat := []
  /-- Gate-violation counter and service-firmware restarts (01 R19, 13 DIAG_GATE). -/
  gateViolations : Nat := 0
  svcRestarts : Nat := 0
deriving DecidableEq, Repr

/-- The phase clock and what it clocks (01, 08). -/
structure Clk where
  /-- Phase-clock ticks of 10 ns since PD3 was powered; the free-running 1 us counter is a hundredth of it (01 R458). -/
  ticks    : Nat := 0
  /-- The arbitration token, 0-71 (04 R103). -/
  token    : Nat := 0
  /-- Plant time in ns (08 R182). -/
  plant    : BitVec 64 := 0
  /-- The fraction of plant time below 1 ns while it is slewed, in units of 1/200 ns (08 R183). -/
  plantFrac : Nat := 0
  /-- The difference still to be slewed, in units of 1/200 ns, with its sign (08 R183). -/
  slew     : Int := 0
  slewing  : Bool := false
  /-- A step scheduled for the next cycle start: the fence's time in ns, and the tick of its SOF (08 R183). -/
  stepDue  : Option (Int × Nat) := none
  /-- The model's own count of free values drawn (Config). -/
  draws    : Nat := 0
deriving DecidableEq, Repr

/-! ## Host attachment (11, 12) -/

/-- A delivery or reply ring in host memory (11 R262, 09 R210). -/
structure Ring where
  en      : Bool := false
  base    : BitVec 64 := 0
  sizeLog : Nat := 0
  prod    : Word := 0
  cons    : Word := 0
deriving DecidableEq, Repr

/-- The command ring (11 R260, R261). -/
structure CRing where
  en        : Bool := false
  stopped   : Bool := false
  stopCause : Nat := 0
  base      : BitVec 64 := 0
  sizeLog   : Nat := 0
  tail      : Word := 0
  head      : Word := 0
deriving DecidableEq, Repr

/-- The producer's place in a packet whose words are discarded (12 R289): words of it that have come, and its length
once its third word is known. -/
structure DropTail where
  pos : Nat
  len : Option Nat
deriving DecidableEq, Repr

/-- The C64 command chain (12 R287-R290). -/
structure CmdChain where
  words     : List Word := []
  drop      : Option DropTail := none
  dropWords : Nat := 0
  overrun   : Bool := false
  level     : Nat := 48
deriving DecidableEq, Repr

/-- A reply that waits for, or stands in, its reply path (12 R276). -/
structure Reply where
  stream : Stream
  path   : Path
  opcode : Nat
  status : Nat
  seq    : Word
  jidx   : Nat
  result : List Byte
  /-- The reply releases a credit when written (12 R273). -/
  credit : Bool
  /-- What begins once the reply has been written (13 R299). -/
  after  : Nat := 0
deriving DecidableEq, Repr

/-- The PCI Express side of an endpoint (11 R250, R251, R269). -/
structure Pcie where
  linkUp    : Bool := false
  d3hot     : Bool := false
  busMaster : Bool := false
  msixOn    : Bool := false
  msixMasked : Bool := false
  /-- Words of the MSI-X table that differ from their reset: vector control 1 (masked), every other word 0. -/
  msixTable : Tbl Word := []
  /-- The pending bit array. -/
  pba       : BitVec 16 := 0
  /-- The addresses that the host has given the two memory BARs (11 R250). -/
  bar0      : BitVec 64 := 0
  bar2      : BitVec 64 := 0
  /-- Max Payload Size and Max Read Request Size in bytes (11 R250, log entry 133). -/
  maxPayload : Nat := 128
  maxRead   : Nat := 512
deriving DecidableEq, Repr

/-- A slot command written to TWD_SCTL (15). -/
inductive SlotWrite where
  | lock (on : Bool) | txrq | txcan
deriving DecidableEq, Repr

/-- An access of a host that its endpoint holds (17 R384, 11 R255, 04 R80, R94). Writes: a BAR0 word by its offset with its byte
enables, a Tweed slot's command, or bytes for BAR2. Reads: bytes of BAR2, and the BAR0 registers whose read acts, INT_CLAIM,
INT_SETSEEN, GRD_PHASE and HST_REPLY_FIFO. -/
inductive HeldAccess where
  | bar0 (offset : Nat) (be : BitVec 4) (v : Word)
  | slot (i : Nat) (w : SlotWrite)
  | bar2 (offset : Nat) (bytes : List (Option Byte))
  | bar2Read (offset len : Nat)
  | claim | seen | phase | reply
deriving DecidableEq, Repr

/-- One host's endpoint: its HST_ block, chains, rings and state (11). -/
structure Hst where
  state     : HostState := .absent
  pcie      : Pcie := {}
  scratch   : Word := 0
  pregPage  : Nat := 0
  hb        : Word := 0
  /-- The peer's heartbeat word as HST_PEER_HB shows it; a reset of this endpoint clears this copy alone (11 R268). -/
  peerHb    : Word := 0
  /-- When the lapse is measured from, in microseconds (11 R264). -/
  lastBeat  : Nat := 0
  period    : Nat := 100
  lapses    : Nat := 0
  violations : Nat := 0
  violLast  : Word := 0
  cmd       : CmdChain := {}
  /-- Words of the reply chain by packet, the head packet first (12 R288). -/
  replyChain : List (List Word) := []
  integrity : Bool := false
  dring     : Ring := {}
  /-- DRING_GAP (11), and the gap a batch header carries (09 R212). -/
  gapTotal  : Nat := 0
  gapSince  : Nat := 0
  cring     : CRing := {}
  rring     : Ring := {}
  wbEn      : Bool := false
  wbAddr    : BitVec 64 := 0
  /-- The words of the writeback block as last written; none before the first write (11 R263). -/
  wbLast    : Option (List Word) := none
  /-- Replies that wait for room (11 R262). -/
  replies   : List Reply := []
  /-- Accesses held while the queue of PREG_DATA writes is full or message memory is not initialised, in their order (17 R384,
  04 R80, R94, 11 R255). -/
  held      : List HeldAccess := []
deriving DecidableEq, Repr

/-! ## Commands (12, 13) -/

/-- A command packet as it arrives: header fields, parameters as the command's own type where the bytes spell it, and
what the journal keeps of the bytes (12 R274, 17 R397). -/
structure Packet where
  stream : Stream
  path   : Path
  opcode : Nat
  target : Nat
  seq    : Word
  dry    : Bool
  /-- The parameters; none where length or reserved fields refuse them (13 R292). -/
  params : Option Params
  bytes  : List Byte
  /-- A packet refusal found in the bytes: 0 none, else the status (12 R277); HW_FAULT once the packet has been met
  uncorrectable in staging (04 R102). -/
  bad    : Nat := 0
  /-- The reply path was reset while the packet waited in staging (11 R268). -/
  dead   : Bool := false
  /-- Whole packets of the host's command chain that a waiting packet of the FIFO path is behind (12 R272). -/
  behind : Nat := 0
deriving DecidableEq, Repr

/-- How far a taken command has come (12 R283, R286). -/
inductive SchedPhase where
  | waiting                                   -- before its commit point
  | apply                                     -- settled, to be applied at the switch
  | paired                                    -- settled as an equal copy of one that is applied
  | refuse (status : Nat) (result : List Byte)
deriving DecidableEq, Repr

/-- A configuration command scheduled for its effective window (12 R278-R286). -/
structure Sched where
  pkt      : Packet
  jseq     : Word
  cycle    : Word
  win      : Nat
  /-- ASAP asked for the window, and whether it has been chosen, which the first compilation does (12 R278). -/
  asap     : Bool := false
  chosen   : Bool := false
  compiled : Bool := false
  phase    : SchedPhase := .waiting
  /-- The reply path was reset (11 R268). -/
  noReply  : Bool := false
  /-- The result to give with the final reply (13). -/
  result   : List Byte := []
  /-- Settled with an equal copy from the peer, PAIRED (12 R286, 17 R397). -/
  equal    : Bool := false
deriving DecidableEq, Repr

/-- The command's effective window is known (12 R278). -/
def Sched.placed (x : Sched) : Bool := !x.asap || x.chosen

/-- An image transfer in progress (13 R308): destination 0-7 a profile slot, 8-10 a firmware part. -/
structure Xfer where
  dest   : Nat
  stream : Stream
  total  : Nat
  data   : List Byte
deriving DecidableEq, Repr

/-- A command stream (12 R271, R273). -/
structure StreamState where
  nextSeq : Option Word := none
  credits : Nat := 0
  nonce   : Option (BitVec 64) := none
deriving DecidableEq, Repr

/-- Commands in staging and what belongs to them. -/
structure Cmds where
  /-- Streams A, B, management, internal by number (12 R271). -/
  streams : Tbl StreamState := []
  /-- Packets read into staging from a ring or the management port, or sent inside, and not yet taken (13 R291). -/
  waiting : List Packet := []
  /-- Taken configuration commands whose outcome is not final (12 R283). -/
  sched   : List Sched := []
  /-- Taken actions whose outcome is not final, to be executed (again) from staging (12 R284). -/
  actions : List Sched := []
  xfers   : List Xfer := []
  /-- DEV_RESET (3) or SLEEP with its WAKE mask, waiting for 10 ms after the reply (13 R299). -/
  resetDue : Bool := false
  sleepDue : Option Nat := none
  /-- The commit point of the next window has passed (12 R279). -/
  committed : Bool := false
  /-- The header changes of the next window, as its commit point laid them out: object, record, first granule (04 R84). -/
  mods      : List (Nat × ObjRecord × Nat) := []
  /-- FLT_DTABLE commands taken: table and effective window, none once that window has come (13 R303). -/
  written : List (Nat × Option (Word × Nat)) := []
deriving DecidableEq, Repr

/-! ## Tweed (15 R349-R354) -/

/-- A Tweed slot's own registers and its read locks. Its data, ND, TXOK and TXFAIL are those of its object (15 R349). -/
structure Slot where
  /-- TWD_SCFG, MSEL and DLC as written (15). -/
  scfg     : Word := 0
  msel     : Bool := false
  dlc      : Nat := 0
  /-- LOCK of each host, when it began in microseconds, and LOCK writes that wait for the held update (15 R353). -/
  lock     : PerHost Bool := .both false
  lockAt   : PerHost Nat := .both 0
  lockWait : PerHost Bool := .both false
  /-- The held granule, with the OBJ_FTIME of its frame (15 R353). -/
  held     : Option (Frame × Word) := none
  lost     : PerHost Bool := .both false
  broken   : PerHost Bool := .both false
  txErr    : PerHost Bool := .both false
deriving DecidableEq, Repr

/-- The rest of a slot: its request, and its configuration in progress and in force. -/
structure SlotTx where
  /-- TXPEND, when the request was latched in microseconds, and its time-out with the frame begun (15 R352). -/
  pend     : Bool := false
  at_us    : Nat := 0
  timedOut : Bool := false
  failCause : Nat := 0
  /-- Changes that wait, CFG_PEND while there are any, oldest first: the time of the write in microseconds, TWD_SCFG and
  the mask then; and CFG_ERR (15 R350). -/
  cfgPend  : List (Nat × Word × Word) := []
  /-- How many of them the internal command in progress makes. -/
  sent     : Nat := 0
  cfgErr   : Bool := false
  /-- The configuration in force: what the last internal command gave the slot, and its mask (15 R349, R350). -/
  inForce  : Word := 0
  mask     : Word := 0x1FFFFFFF#32
deriving DecidableEq, Repr

/-- A Tweed channel. -/
structure Chan where
  txTimeout : Nat := 100
  txie : Bool := false
  rxie : Bool := false
  mask0 : Word := 0x1FFFFFFF#32
  mask1 : Word := 0x1FFFFFFF#32
  txevt : PerHost Word := .both 0
deriving DecidableEq, Repr

/-- The Tweed window. -/
structure Twd where
  /-- Port of each channel, 255 unmapped (13, TWD_MAP). -/
  map    : List Nat := List.replicate 16 255
  chans  : Tbl Chan := []
  /-- Slots by 32 x channel + slot. -/
  slots  : Tbl Slot := []
  slotTx : Tbl SlotTx := []
  lockOverruns : Nat := 0
deriving DecidableEq, Repr

/-! ## Ports (02, 03, 05, 06, 07, 08, 09, 10) -/

/-- Port operating states, CH_STAT.PORT_STATE (02 R51). -/
inductive PortState where
  | disabled | integrating | active | gauze | peWait | busOff | recovering
deriving DecidableEq, Repr

/-- The code of a port state (02, CH_STAT). -/
def PortState.code : PortState → Nat
  | .disabled => 0 | .integrating => 1 | .active => 2 | .gauze => 3 | .peWait => 4 | .busOff => 5
  | .recovering => 6

/-- Calibration states of a port (03 R75). -/
inductive CalState where
  | off | waitFirst | sending | waitPeriod
deriving DecidableEq, Repr

/-- The settings that commands give a port (02, 03, 05, 07, 08, 09, 10). -/
structure PortCfg where
  /-- CH_CTRL, CH_FMT, CH_NBT, CH_DBT, CH_TDC (without TDCV), CH_PWM, OSC_TOL (02). CH_CTRL's PHY_SEL resets to 0 on
  B-ports and 1 on F-ports (`Port.init`). -/
  pc       : PortConfigP := ⟨0, 0, 0, 0, 0, 0, 0⟩
  /-- CH_SILK_CTRL and PE_INIT (03). -/
  silkCtrl : Word := 0x00000152#32
  peInit   : Nat := 4
  /-- CH_REC_POLICY and BABBLE_MAX (07). -/
  recPolicy : Word := 0x03E80000#32
  babbleMax : Nat := 0
  /-- CH_FENCE_CFG (08). -/
  fenceCfg : Word := 0x08000320#32
  /-- OWN_DLV, BUDGET_MODE, FRAME_BUDGET, BYTE_BUDGET (09 R205). -/
  ownDlv   : Nat := 0
  budgetMode : Nat := 0
  frameBudget : Nat := 0
  byteBudget : Nat := 0
  /-- GUARD_MAX (06 R139). -/
  guardMax : Nat := 0
  /-- CH_FLT_CTRL, CH_FLT_ELEM, CH_FLT_DEF, CH_FLT_DEFSTD (05). -/
  fltCtrl  : Word := 0
  fltElem  : Word := 0
  fltDef   : Word := 0
  fltDefStd : Word := 0
  /-- Cells of the route queues (10 R236). -/
  quota    : Nat := 0
  /-- ERR_ALLOW of the port's Dense plan (10). -/
  errAllow : Nat := 0
deriving DecidableEq, Repr

/-- The per-host flag registers of a port (02 R55). -/
structure PortFlags where
  ch   : Word := 0
  silk : Word := 0
  tx   : Word := 0
  err  : Word := 0
deriving DecidableEq, Repr

/-- What a delivery record holds, but for its SEQ (09 R200, R201). -/
structure DRec where
  port   : Nat
  fmt    : Nat
  id     : Nat
  len    : Nat
  flags  : Nat
  target : Nat
  sdt    : Nat := 0
  vcid   : Nat := 0
  af     : Word := 0
  data   : List Byte := []
deriving DecidableEq, Repr

/-- A frame a port is receiving, or has received and not released (01 R13). -/
structure RxFrame where
  /-- SOF, as phase-clock ticks (09 R197). -/
  sofTick : Nat := 0
  sofPlant : BitVec 64 := 0
  /-- The key once the lookup has started, and the filter result (05 R116). -/
  key     : Option FrameKey := none
  /-- The filter result: none before its release; the result word after (05). -/
  result  : Option Nat := none
  /-- The frame began in the port's suspend transmission: the port stays its receiver (07 R148). -/
  bound   : Bool := false
  errored : Bool := false
  /-- Where the result came from, as CH_FLT_LAST.SRC codes it, and the element's place in the list (05). -/
  src     : Nat := 0
  elem    : Nat := 0
  /-- The routes that match, once the list is released (10 R226). -/
  routes  : List Nat := []
  /-- The frame, once valid (01 R13). -/
  frame   : Option Frame := none
  /-- The number of the window open on the port at SOF, or of the window it opens as a fence; recognised as a fence
  (08 R187, 09 R197). -/
  fence   : Bool := false
  sofWin  : Nat := 0
  ownWin  : Nat := 0
  /-- PHASE and plant time at validity (09 R220). -/
  vPhase  : Nat := 0
  vTime   : BitVec 64 := 0
  /-- The record a Direct entry is formed of when the copies complete (09 R221). -/
  direct  : Option DRec := none
deriving DecidableEq, Repr

/-- What a port's arbiter offers or an engine sends (06 R129). -/
inductive TxSrc where
  | obj (o : Nat)
  | route (r : Nat)
  | fence
  | calibration
deriving DecidableEq, Repr

/-- The attempt in progress on a port. -/
structure TxFrame where
  src     : TxSrc
  frame   : Frame
  /-- The frame is sent as a Silk frame, or as CAN XL fallback (03 R68). -/
  silk    : Bool := false
  sofTick : Nat := 0
  sofPlant : BitVec 64 := 0
  /-- The number of the window open on the port at SOF (09 R197). -/
  win     : Nat := 0
  /-- Route entries packed into the frame (10 R231). -/
  packed  : Nat := 1
  /-- A route's copy for the other medium, whose entry has left the queue (10 R242). -/
  trail   : Bool := false
  /-- OWN_DLV of that window on the port, where it is known (09 R215). -/
  own     : Option Bool := none
deriving DecidableEq, Repr

/-- The operating state of a port: CH_STAT and what lies behind it (02). -/
structure PortStat where
  state    : PortState := .disabled
  busIdle  : Bool := false
  phase    : Nat := 0
  tdcActive : Bool := false
  tdcv     : Nat := 0
  tsActive : Bool := false
  /-- The port waits for the 50 us of 02 R34 before it integrates. -/
  stbyWait : Bool := false
  /-- Settings that wait for the next bus idle (02 R52), and the disabling that does (02 R53). -/
  pend     : Option PortConfigP := none
  pendSilk : Option Word := none
  disable  : Bool := false
  /-- The port integrates although its state does not say so: after an error in Gauze (07 R160), or in a CAN XL data phase
  without error signalling (07 R145). -/
  integrating : Bool := false
  /-- The engine a remap will bind at bus idle (16 R369). -/
  remap    : Option Nat := none
  /-- Causes that hold the port in Gauze (07 R161): 1 configured, 2 quarantine, 3 Silk PLL, 4 FAULT, 5 remap. -/
  causes   : List Nat := []
  /-- Buffer halves held by valid frames whose copies are not complete, oldest first, and the frame in reception
  (01 R13). -/
  halves   : List RxFrame := []
  rx       : Option RxFrame := none
  tx       : Option TxFrame := none
deriving DecidableEq, Repr

/-- Frame counters (02 R56). -/
structure PortCount where
  rxFrames : Word := 0
  txFrames : Word := 0
  peCount  : Nat := 0
  attempts : Word := 0
  accepted : Word := 0
  rejected : Word := 0
  errored  : Nat := 0
  defaulted : Nat := 0
  fltLast  : Word := 0
  dlvDrops : Word := 0
  denseMisses : Word := 0
  /-- Route-queue drops of the routes that target the port (13, DIAG_PORT). -/
  routeDrops : Word := 0
deriving DecidableEq, Repr

/-- The training NAKs of one frame over its attempts, and whether it has been counted in FALLBACKS (03 R68). -/
structure NakRun where
  src  : TxSrc
  naks : Nat := 0
  fell : Bool := false
deriving DecidableEq, Repr

/-- Silk state of a port (03). -/
structure Silk where
  cal      : CalState := .off
  firstDone : Bool := false
  /-- A calibration frame is queued and has not begun. -/
  queued   : Bool := false
  /-- The window in which it must begin is open on the port (03 R75, R76). -/
  calOpen  : Bool := false
  trimming : Bool := false
  calCycle : Nat := 0
  termCode : Nat := 0
  preemph  : Nat := 0
  lossEst  : Nat := 0
  calLimit : Bool := false
  loopDly  : Nat := 0
  fallbackActive : Bool := false
  /-- The port has integrated since SILK_EN took effect (03 R75). -/
  ready    : Bool := false
  /-- Training NAKs of each frame that the port is trying to send (03 R68). -/
  naks     : List NakRun := []
  /-- The contention detector has fired in the frame in progress (03 R71). -/
  contention : Bool := false
  /-- New settings that apply from the next SOF (03 R74). -/
  next     : Option (Nat × Nat) := none
deriving DecidableEq, Repr

/-- Silk counters (03). They hold at 65,535. -/
structure SilkCount where
  fallbacks : Nat := 0
  trainFails : Nat := 0
  intruders : Nat := 0
  peRefusals : Nat := 0
  calSkipped : Nat := 0
  calDone : Nat := 0
deriving DecidableEq, Repr

/-- Error confinement of a port (07). -/
structure PortErr where
  /-- TEC 0-256 and REC 0-255 (`recv`) (07 R144). -/
  tec      : Nat := 0
  recv     : Nat := 0
  /-- ERR_STATE: 0 error-active, 1 error-passive, 2 bus-off (07 R147). -/
  errState : Nat := 0
  recovSeq : Nat := 0
  quarEvents : Nat := 0
  quarantined : Bool := false
  /-- The 1 us counter at the last eight bus-off entries, newest first (07 R158). -/
  entries  : List Nat := []
  /-- CH_ERR_LAST (07): type, role, phase, and the count of errors. -/
  lastType : Nat := 0
  lastTx   : Bool := false
  lastPhase : Nat := 0
  errors   : Nat := 0
  busOffs  : Nat := 0
  dlMissed : Nat := 0
  /-- When hold-off is measured from, in microseconds (07 R154, R164). -/
  holdFrom : Nat := 0
  babbleEvents : Nat := 0
deriving DecidableEq, Repr

/-- Misbehaviour and suspension of a port (07 R148, R167, R168). -/
structure PortMis where
  /-- Valid frames of other nodes in the port's window (07 R167), and whether BABBLE was reported in it. -/
  babble   : Nat := 0
  babbled  : Bool := false
  /-- STUCK_DOMINANT may be reported (07 R168). -/
  stuckArmed : Bool := true
  /-- The port was the transmitter of the frame just ended, and suspend transmission is running (07 R148). -/
  lastSender : Bool := false
  suspend  : Bool := false
deriving DecidableEq, Repr

/-- An entry of a route queue (10 R228-R237): the frame as received, the output frame that the route's fields made of it
(its payload is that of a whole output), its cells, first cell first, and the number of the source
frame's window. -/
structure REntry where
  inp    : Frame
  outp   : Frame
  cells  : List Nat
  win    : Nat
deriving DecidableEq, Repr

/-- Transmission state of a port (06). -/
structure PortTx where
  /-- The choice in the C8 staging chain (06 R129), and the words of its packet (12 R287, R288). -/
  staged   : Option TxSrc := none
  words    : List Word := []
  /-- The pack group of a staged route, as it was formed at the choice (10 R231). -/
  group    : List REntry := []
  hits     : Nat := 0
  sentInWin : Nat := 0
  /-- The guard has been reached in the window (06 R139). -/
  guarded  : Bool := false
  collEvents : Nat := 0
  collObj  : Nat := 0
  mismatches : Nat := 0
  alone    : Nat := 0
  slotMissed : Nat := 0
  exclFailed : Nat := 0
  leadDiscards : Nat := 0
  singleAgree : Nat := 0
  /-- Valid frames whose routes are taken 2 us after validity, oldest first (10 R234). -/
  toRoute  : List RxFrame := []
deriving DecidableEq, Repr

/-- Roles on a port, CH_FENCE_STAT.ROLE (08 R189). -/
inductive Role where
  | follower | master | standby
deriving DecidableEq, Repr

/-- Fence state of a port (08). -/
structure PortFence where
  role     : Role := .follower
  /-- MASTER_RANK, HIGHER_SEEN and the windows since a fence of higher rank (08 R189). -/
  masterRank : Nat := 0
  higherSeen : Bool := false
  sinceHigher : Nat := 0
  /-- The window open on the port: cycle, window, how it was opened, the PHASE at which it opened (08 R187). -/
  cyc      : Word := 0
  win      : Nat := 0
  /-- The number of that window, counted over the windows of the part. -/
  n        : Nat := 0
  openSynth : Bool := false
  openPhase : Nat := 0
  /-- A fence is due, with or without the backup flag (08 R189, R190). -/
  due      : Bool := false
  backup   : Bool := false
  /-- SYNTH, LATE, MISMATCH, DUP, holding at 65,535 (08). -/
  synth    : Nat := 0
  late     : Nat := 0
  mismatch : Nat := 0
  dup      : Nat := 0
  /-- The port closed the last completed local window synthetically (08, GRD_SYNTH_MAP). -/
  synthMap : Bool := false
  /-- The deadline has passed while a frame of the fence range was in progress (08 R188). -/
  moved    : Bool := false
deriving DecidableEq, Repr

/-- A port. -/
structure PortS where
  cfg    : PortCfg := {}
  stat   : PortStat := {}
  engine : Nat := 0
  cnt    : PortCount := {}
  silk   : Silk := {}
  silkCnt : SilkCount := {}
  err    : PortErr := {}
  mis    : PortMis := {}
  tx     : PortTx := {}
  fence  : PortFence := {}
  flags  : PerHost PortFlags := .both {}
deriving DecidableEq, Repr

/-- Port `p` at reset: PHY_SEL 0 on B-ports and 1 on F-ports, its own engine (02, CH_CTRL, CH_STAT). -/
def PortS.init (p : Nat) : PortS :=
  let c : PortConfigP := ⟨if p < 16 then 0#32 else 0x100#32, 0, 0, 0, 0, 0, 0⟩
  { cfg := { pc := c }, engine := p }

/-! ## Message memory and objects (04) -/

/-- The request state of an object: OBJ_STAT bits 22-9 and what lies behind them (04, 06). -/
structure ObjReq where
  /-- TX_PEND and, for each pending request, whether its host was LIVE when it made it (06 R125). -/
  pend     : PerHost Bool := .both false
  /-- LEN_A, LEN_B (04). -/
  len      : PerHost Nat := .both 0
  latched  : Bool := false
  begun    : Bool := false
  done     : Bool := false
  fail     : Bool := false
  cancelled : Bool := false
  reqErr   : Bool := false
  paused   : Bool := false
  /-- Fences still to pass before PAUSED clears (06 R142). -/
  pauseLeft : Nat := 0
  collRun  : Nat := 0
  /-- The cancel mark (06 R138), and the hosts that contributed to the latched request. -/
  cancel   : Bool := false
  by_host  : PerHost Bool := .both false
  /-- The latching copy is complete (04 R90, 06 R122). -/
  copied   : Bool := false
deriving DecidableEq, Repr

/-- More of the latched request. -/
structure ObjTx where
  /-- Length of the transmit image. -/
  len      : Nat := 0
  /-- TX_CYCLE and TX_WIN (04, OBJ_TXMARK). -/
  cycle    : Nat := 0
  win      : Nat := 0
  /-- The number of the window it was latched in (06 R122); the count of that window's cycle, which follows a count set anew, and
  where in the cycle the window starts (10 R246). -/
  n        : Nat := 0
  since    : Word := 0
  startPh  : Nat := 0
  /-- One further attempt under COLL_POLICY 2 (06 R142). -/
  lastTry  : Bool := false
  /-- The ports on which the request still has a copy to send: its own, or those of a redundant pair (10 R242). -/
  media    : List Nat := []
  /-- The ports on which the request is released to the arbiter (06 R122), and those whose slot window is open for it
  (06 R134). -/
  offered  : List Nat := []
  slot     : List Nat := []
  /-- A copy has completed on the other medium (10 R242). -/
  mediaOk  : Bool := false
  /-- The ports on which a planned request's deadline has passed and the miss has been counted (10 R249), and those on which
  it passed in BUS_OFF or RECOVERING (07 R162). -/
  missOn   : List Nat := []
  lateOn   : List Nat := []
deriving DecidableEq, Repr

/-- The last frame of an object: codeword 3 (04). -/
structure ObjLast where
  fid   : Word := 0
  flen  : Word := 0
  ftime : Word := 0
  seq   : BitVec 16 := 0
deriving DecidableEq, Repr

/-- A message object: the 64-byte header's fields (04). UPD lasts only inside an update and is not stored. -/
structure Obj where
  /-- OBJ_CFG without SELF, OBJ_ID, OBJ_XL, OBJ_AF, OBJ_TXCFG, OBJ_SCHED. -/
  cfg    : Word := 0
  id     : Word := 0
  xl     : Word := 0
  af     : Word := 0
  txcfg  : Word := 0
  sched  : Word := 0
  granBase : Nat := 0
  granCount : Nat := 0
  /-- ND and OVERWRITTEN: bit 0 host A, 1 host B, 2 processors. -/
  nd     : BitVec 3 := 0
  ovw    : BitVec 3 := 0
  truncated : Bool := false
  faulted : Bool := false
  req    : ObjReq := {}
  tx     : ObjTx := {}
  last   : ObjLast := {}
deriving DecidableEq, Repr

/-- What the object unit holds for an object whose header change waits: an OBJ_CMD word of a reader, a command of a Tweed slot's
host, or the update by a frame of a port with its OBJ_FTIME (04 R86). -/
inductive HeldAct where
  | cmd (r : Reader) (w : Word)
  | slot (h : HostId) (w : SlotWrite)
  | update (port : Nat) (f : Frame) (ftime : Word)
deriving DecidableEq, Repr

/-- Memory controller state (04 R80, R86, R97-R102). -/
structure MemCtl where
  /-- Initialisation is complete (04 R80). -/
  ready     : Bool := false
  /-- Granules whose zero mark is set, rising (04 R86). -/
  zeroMarks : List Nat := []
  /-- Header changes waiting for a begun frame to end: object, record and first granule (04 R86). -/
  staged    : List (Nat × ObjRecord × Nat) := []
  /-- OBJ_SCHED words that wait likewise, and what is held meanwhile for the objects, oldest first (04 R86). -/
  stagedSched : List (Nat × Word) := []
  held      : List (Nat × HeldAct) := []
  /-- Counts of each SRAM region: message, application, trusted, table (13, DIAG_MEM). -/
  corrected : List Nat := [0, 0, 0, 0]
  remaps    : List Nat := [0, 0, 0, 0]
  uncorrectable : List Nat := [0, 0, 0, 0]
  /-- Codewords the scrubber has corrected on its last pass: region and address (04 R101). -/
  lastPass  : List (MemRegion × Nat) := []
  /-- Rows being copied to a spare row (04 R101), and the spare rows used in each bank. -/
  copying   : List (MemRegion × Nat) := []
  sparesUsed : Tbl Nat := []
  /-- Uncorrectable codewords not rewritten: region and address (04 R102). -/
  bad       : List (MemRegion × Nat) := []
deriving DecidableEq, Repr

/-! ## Cycle, windows, plant time (08) -/

/-- Tracker states, GRD_PHASE.TRK_STATE (08 R175). -/
inductive TrkState where
  | acquire | locked | holdover | free
deriving DecidableEq, Repr

/-- The code of a tracker state (08, GRD_PHASE). -/
def TrkState.code : TrkState → Nat
  | .acquire => 0 | .locked => 1 | .holdover => 2 | .free => 3

/-- Cycle settings that commands give (08 R177). -/
structure CycCfg where
  src      : Word := 0x03004010#32
  period   : Nat := 10000000
  /-- JUMP_TOL and WIN_COUNT (08, GRD_WINCFG). -/
  jumpTol  : Nat := 655
  winCount : Nat := 1
  starts   : List Nat := []
deriving DecidableEq, Repr

/-- The phase tracker. Times are in units of 2^-16 of 10 ns (08 R174). -/
structure Trk where
  cfg      : CycCfg := {}
  state    : TrkState := .acquire
  cycle    : Word := 0
  /-- S_k and L_k (08 R171, R173). -/
  start    : Int := 0
  len      : Int := 10000000 * 65536
  win      : Nat := 0
  /-- The tick counted for S_k: its error against the start, in 10 ns units (08 R173, R174). -/
  tick     : Option Int := none
  /-- The tick that falls before a start yet to come (08 R173). -/
  early    : Option Int := none
  /-- The last counted tick: its time and whether its d was within jump_tol; none after a missing start. -/
  lastTick : Option (Int × Bool) := none
  /-- The last 8 intervals, newest first (08 R174). -/
  intervals : List Int := []
  pEst     : Int := 10000000 * 65536
  corr     : Int := 0
  missing  : Nat := 0
  srcLost  : Bool := false
  lastErr  : Int := 0
deriving DecidableEq, Repr

/-- More of the tracker: counts, flags, what is due at the next start. -/
structure Trk2 where
  jumps    : Nat := 0
  extra    : Nat := 0
  /-- First ticks counted in ACQUIRE, and whether a run mode was entered since PD3 was powered (08 R175). -/
  acquired : Nat := 0
  runEntered : Bool := false
  /-- The start has been judged missing (08 R175). -/
  judged   : Bool := false
  /-- The cycle count to adopt at the next start, and at the start whose boundary has not been processed (08 R178). -/
  adopt    : Option Word := none
  adoptNow : Option Word := none
  /-- The error of the start made last was a jump (08 R174, R193). -/
  jumped   : Bool := false
  /-- The boundary of window 0 of the cycle just started has not been processed. -/
  startDue : Bool := false
  /-- Cycle settings that take effect at the next window 0 (08 R177). -/
  dueCyc   : Option CycCfg := none
  /-- CH_FENCE_CFG words that the table switch of the next window 0 loads (08 R181). -/
  dueFence : Tbl Word := []
  /-- The number of the window 0 from which the cycle settings hold, and the settings of the windows before it, whose midpoints
  may fall after it (08 R187). -/
  cfgFrom  : Nat := 0
  cfgBefore : CycCfg := {}
  /-- When the tracker entered LOCKED or FREE, in phase-clock ticks (15 R339). -/
  since    : Nat := 0
  /-- GRD_FLAGS and the snapshot of each host (08 R194). -/
  flags    : PerHost Word := .both 0
  snapCycle : PerHost Word := .both 0
  snapTime : PerHost (BitVec 64) := .both 0
deriving DecidableEq, Repr

/-! ## Filters, delivery, routes, pairs (05, 09, 10) -/

/-- Filter tables (05 R110, R111). -/
structure Flt where
  /-- Direct-table entries that are not 0, by 2048 x table + identifier. -/
  dtable : Tbl Nat := []
  /-- Filter elements that are not 0. -/
  elems  : Tbl Elem := []
deriving DecidableEq, Repr

/-- The kind of delivery in force for a window (09 R195, R216). -/
inductive Dlv where
  | none | batch | direct
deriving DecidableEq, Repr

/-- A frame that belongs to a window that has not started locally: its record, kept until the start decides how it is delivered
(09 R216). -/
structure EarlyRec where
  rec_  : DRec
  /-- Sent by the port; the first copy of a pair; and valid while an older batch still held the half (09 R209). -/
  own   : Bool := false
  first : Bool := true
  late  : Bool := false
  phase : Nat := 0
  time  : BitVec 64 := 0
deriving DecidableEq, Repr

/-- A port's part of a window (09 R198, R208). -/
structure PortWin where
  recs    : List DRec := []
  notices : List Nat := []
  admitting   : Bool := true
  frames  : Nat := 0
  bytes   : Nat := 0
  dropped : Nat := 0
  closed  : Bool := false
  synth   : Bool := false
  /-- OWN_DLV, FRAME_BUDGET and BYTE_BUDGET in force for the window (09 R215). -/
  own     : Bool := false
  frameBudget : Nat := 0
  byteBudget : Nat := 0
  /-- Records of its notice reserve (09 R205). -/
  reserve : Nat := 0
deriving DecidableEq, Repr

/-- A window that has started locally and whose batch is not sealed (09). -/
structure WinDlv where
  /-- The window's place in the sequence of windows, for the rules on windows k and k + 2 (09 R209, R212). -/
  n      : Nat
  /-- The window has started locally. -/
  started : Bool
  cycle  : Word
  win    : Nat
  dlv    : Dlv
  first  : Bool
  cfg    : Bool
  di     : Nat
  ports  : Tbl PortWin := []
  /-- Every port has closed the window (09 R198). -/
  tClosed : Bool := false
  /-- Records that came before the local start, in order of arrival, and the pairs enabled at it (09 R215). -/
  early  : List EarlyRec := []
  pairs  : List Nat := []
deriving DecidableEq, Repr

/-- A sealed batch (09 R203): the header's fields and the record bytes. -/
structure Batch where
  n       : Nat
  cycle   : Word
  win     : Nat
  hflags  : Nat
  di      : Nat
  records : Nat
  synth   : BitVec 64
  overflow : BitVec 64
  dropped : Nat
  notices : Nat
  bytes   : List Byte
  digest  : Word
  /-- Hosts whose copy is neither complete nor skipped, and those whose copy has begun (09 R211). -/
  waits   : PerHost Bool
  started : PerHost Bool := .both false
  /-- Where its records lie in the delivery pool: address and length of each port's part (09 R209). -/
  spans   : List (Nat × Nat) := []
  /-- The ring of a batch sealed before a new ring takes effect (09, coinciding events). -/
  oldRing : PerHost (Option Ring) := .both .none
deriving DecidableEq, Repr

/-- A Direct entry waiting in the queue (09 R220, R222). -/
structure DEntry where
  dseq  : Word
  port  : Nat
  /-- The entry's place in the pool, used as one queue of 4 MiB. -/
  at_   : Nat
  /-- The prefix, SEQ and the record. -/
  pre   : List Byte
  seq   : Nat
  r     : DRec
  waits : PerHost Bool
deriving DecidableEq, Repr

/-- Delivery state (09). -/
structure DlvS where
  /-- Windows started locally and not sealed, oldest first. -/
  wins   : List WinDlv := []
  batches : List Batch := []
  direct : List DEntry := []
  dseq   : Word := 0
  /-- Bytes of Direct entries formed so far, modulo the pool's 4 MiB. -/
  pos    : Nat := 0
  /-- The number of the local window. -/
  cur    : Nat := 0
  /-- SEQ of each port's Direct entries (09 R220). -/
  seqs   : Tbl Nat := []
  /-- The delivery of the window started last (09 R216). -/
  inForce : Dlv := .none
  /-- The window numbers from which another delivery has been in force, newest first (09 R216). -/
  kinds  : List (Nat × Dlv) := []
  /-- A configuration has taken effect, and a mode with batches has been entered, at the boundary being made (09 R203). -/
  took   : Bool := false
  entered : Bool := false
  /-- C16 notices of each port, oldest first: two words each (12 R287, 09 R223). -/
  notices : Tbl (List (List Word)) := []
  /-- The ports whose C16 chain has lost a notice: OVERRUN (12 R289). -/
  noticeOver : List Nat := []
deriving DecidableEq, Repr

/-- A route (10 R224, R233). -/
structure Route where
  entry  : BitVec 64 := 0
  ext    : Word := 0
  queue  : List REntry := []
  /-- Pieces of the head entry that have completed (10 R229). -/
  head   : Nat := 0
  drops  : Nat := 0
  forwarded : Nat := 0
  tooLong : Nat := 0
  xlate  : Nat := 0
  hop    : Nat := 0
  flushed : Nat := 0
  /-- The ports on which the head is in an attempt (10 R238, R242). -/
  begun  : List Nat := []
  /-- Entries of the fixed pack group, 0 while none is fixed (10 R231). -/
  fixed  : Nat := 0
  /-- The queue has been flushed but for the begun frame, which goes when it ends; and it is a piece of a split (10 R240). -/
  flushDue : Bool := false
  flushSplit : Bool := false
  /-- Copies that go on trying on the other medium of a pair after the head has completed, oldest first (10 R242). -/
  trail  : List (Nat × Frame) := []
deriving DecidableEq, Repr

/-- A first copy held by a redundant pair (10 R243). -/
structure FirstCopy where
  port  : Nat
  frame : Frame
  at_us : Nat
deriving DecidableEq, Repr

/-- A redundant pair (10 R241, 13 R304). -/
structure Pair where
  entry  : BitVec 64 := 0x000003E800000000#64
  first  : List FirstCopy := []
  dup    : Word := 0
  both   : Word := 0
  even   : Word := 0
  odd    : Word := 0
deriving DecidableEq, Repr

/-! ## Firmware and engines (16) -/

/-- A firmware part: 0 Buckram, 1 service firmware, 2 Amioc (16). -/
structure Part where
  /-- Running version, 0 while the part is not running (11, DEV_FW_). -/
  running : Word := 0
  /-- The slot it runs from, or ran from last (16 R357, R362, R372). -/
  active  : Nat := 0
  /-- The two NOR slots' images: none when empty. -/
  slots   : List (Option (List Byte)) := [none, none]
  /-- The image in the SRAM that the part runs from, and that of its standby SRAM slot, which Amioc has not (16 R357, R364). -/
  sram    : Option (List Byte) := none
  copy    : Option (List Byte) := none
  /-- Standby state: 0 empty, 1 staged, 2 verified, 3 failed (13, FW_STATUS). -/
  standby : Nat := 0
  /-- An activation awaits confirmation: the old version (16 R365). -/
  cutover : Option Word := none
deriving DecidableEq, Repr

/-- Firmware state (16). -/
structure Fw where
  parts   : Tbl Part := []
  /-- Times of the last service-firmware faults in us, newest first, and whether it is halted (16 R372). -/
  faults  : List Nat := []
  halted  : Bool := false
  restarting : Bool := false
  /-- When FAULT was last entered, in us (15 R333). -/
  lastFault : Option Nat := none
  /-- Profile slots P0-P7: images as stored; and the profile in force (15 R340). -/
  profiles : Tbl (List Byte) := []
deriving DecidableEq, Repr

/-- A frame engine, 0-63, 64 SPARE_B, 65 SPARE_F (16 R368). -/
structure Engine where
  failed : Bool := false
  suspect : Bool := false
deriving DecidableEq, Repr

/-! ## Power die (18) -/

/-- States of the hot-swap machine (18 R407). -/
inductive Hs where
  | off | start | ramp | on | cool | latched | fetFault
deriving DecidableEq, Repr

/-- The code of a hot-swap state (18, PWR_STATE). -/
def Hs.code : Hs → Nat
  | .off => 0 | .start => 1 | .ramp => 2 | .on => 3 | .cool => 4 | .latched => 5 | .fetFault => 6

/-- What the power die keeps of its state line, from which the line's bytes are made (18 R427). -/
structure StateLine where
  count   : Nat := 0
  cause   : Nat := 0
  latched : Bool := false
  tj      : Int := 0
  trips   : Nat := 0
  latches : Nat := 0
  seq     : BitVec 16 := 0
deriving DecidableEq, Repr

/-- One feed (18 R402-R405). -/
structure FeedS where
  ok    : Bool := false
  on    : Bool := false
  ov    : Bool := false
  warn  : Bool := false
  revs  : Nat := 0
deriving DecidableEq, Repr

/-- The power die's hot-swap machine, ORing and Felt (18). Temperatures are in units of 0.1 degree. -/
structure Pwr where
  hs        : Hs := .on
  pgood     : Bool := true
  present   : Bool := true
  rfcSeen   : Bool := false
  rfcArmed  : Bool := false
  feedA     : FeedS := {}
  feedB     : FeedS := {}
  limiting  : Bool := false
  tsFault   : Bool := false
  count     : Nat := 0
  cause     : Nat := 0
  /-- The retry interval counts as elapsed (18 R417, R419). -/
  elapsed   : Bool := false
  /-- In START: the reads are complete and RAMP waits for an ORing pair to close (18 R407). -/
  ready     : Bool := false
  /-- The settings in force, laid out as PCFG_LIM (18 R426). -/
  limits    : Word := 0x030C01F4#32
  /-- The other settings in force, persistent registers 0x101 to 0x107 as the power die read them at START; empty while it runs on
  the factory values of its ROM (18 R426, R428). -/
  settings  : List Word := []
  /-- Settings the frame die holds while the power link is down (01 R9). -/
  heldLimits : Option Word := none
  /-- The state line written last, or read at START (18 R427). -/
  line      : StateLine := {}
deriving DecidableEq, Repr

/-- Felt, flags and counts of the power die (18). -/
structure Pwr2 where
  /-- The two poles, in 0.1 degree times 2^32. -/
  dt1      : Int := 0
  dt2      : Int := 0
  tsense   : Int := 0
  tj       : Int := 0
  /-- T_J stands above FELT_WARN (18 R414). -/
  hot      : Bool := false
  flags    : Word := 0
  limitEvents : Nat := 0
  /-- Events not yet reported: EFUSE_TRIP, FET_SHORT, RETRY_EXHAUSTED (18 R423). -/
  unreported : List Nat := []
  /-- The power die's oscillator, in ticks of 10 ns since its start; its 1 MHz tick is a hundred of them (18 R416, R421). -/
  osc      : Nat := 0
  /-- When the last trip happened on it; when a release came that no state of the machine took; and when PGOOD had been held for
  60 s, with the count and the charge of RFC until then (18 R421). -/
  tripAt   : Option Nat := none
  released : Option Nat := none
  cleared  : Option (Nat × Nat × Bool) := none
  /-- Unread hot-swap event for SMB_ALERT_N (19 R440). -/
  alert    : Bool := false
  powered  : Bool := true
deriving DecidableEq, Repr

/-! ## Power link, mirror, field I/O, management (01, 19) -/

/-- The power link and the mirror (01 R8, R9, 18 R428). -/
structure Link where
  up      : Bool := true
  /-- Consecutive failed transfers, and good transfers while down (01 R8, R9). -/
  bad     : Nat := 0
  good    : Nat := 0
  /-- When the link went down, in us (17 R399). -/
  downAt  : Nat := 0
  /-- The mode code that the power die holds while the link is down (01 R9). -/
  modeHeld : Option Nat := none
  stale   : Bool := true
  /-- Sensor readings are stale until Amioc reports again (01 R21). -/
  sensStale : Bool := true
  /-- Amioc has reported since its last reset (01 R21). -/
  amioc   : Bool := false
  /-- The mirrored words, PWR_ and MGT_, by offset from 0x0_6000 (18 R428). -/
  mirror  : Tbl Word := []
  /-- FLD_LOW as the last mirror brought it (19 R437). -/
  lowSeen : Bool := false
  /-- The link has come up, and the spill records follow the complete mirror (01 R9). -/
  spillDue : Bool := false
  /-- The C8 packets in the Amioc mailbox chains, frame die to Amioc and back, and each sender's requests without an answer:
  replies of the management stream, and its packets, oldest first (12 R287, R290, 19 R440). -/
  mailOut : List (List Word) := []
  mailIn  : List (List Word) := []
  askOut  : List Reply := []
  askIn   : List Packet := []
deriving DecidableEq, Repr

/-- A field input's filter (19 R430, R431). -/
structure DiFilt where
  filter : Nat := 500
  count  : Nat := 0
  state  : Bool := false
  raw    : Bool := false
deriving DecidableEq, Repr

/-- A field output (19 R434-R436). -/
structure DoS where
  /-- Commanded state as the frame die holds it and as the power die holds it (01 R8). -/
  cmd    : Bool := false
  held   : Bool := false
  fault  : Bool := false
  cause  : Nat := 0
  ext    : Bool := false
  /-- A DO_SET has named the output while the power link is down: the latch clears when the command is delivered (19 R435). -/
  unlatch : Bool := false
deriving DecidableEq, Repr

/-- Field-supply states (19 R437). -/
inductive FldState where
  | normal | low | uv
deriving DecidableEq, Repr

/-- The code of a field-supply state (19, MGT_FIELD). -/
def FldState.code : FldState → Nat
  | .normal => 0 | .low => 1 | .uv => 2

/-- Field inputs and outputs (19). -/
structure Fld where
  di      : Tbl DiFilt := []
  /-- Samples that the filters have taken since the power die started, up to 500, which take 5 ms (15 R341). -/
  samples : Nat := 0
  /-- Filtered states as the frame die holds them, and as sampled at the last boundary (19 R432). -/
  frameDi : BitVec 8 := 0
  sampled : BitVec 8 := 0
  dos     : Tbl DoS := []
  state   : FldState := .normal
  /-- FLD_LOW: the supply is below 19.2 V, also in UV (19 R437). -/
  low     : Bool := false
  autoRestore : Bool := false
  /-- FLD_24V in 10 mV, as last measured (19 R437). -/
  volts   : Nat := 0
  /-- MGT_FLAGS (19). -/
  flags   : Word := 0
deriving DecidableEq, Repr

/-- Amioc's sensors and the management port (19 R439, R440). -/
structure Mgt where
  sens    : Sensors := ⟨[], [], [], 0, 0, 0, 0, 0, 0, 0⟩
  /-- Warning and critical conditions in force, by sensor: 0-5 frame die, 6-7 power die, 8 TSENSE (19 R439). -/
  warn    : List Nat := []
  crit    : List Nat := []
  railOut : List Nat := []
  /-- The feed currents of the last conversion, in 10 mA (19 R439). -/
  ifeedA  : Nat := 0
  ifeedB  : Nat := 0
  /-- The request buffer, and the replies not yet read, each as its bytes (19 R440). -/
  req     : List Byte := []
  replies : List (List Byte) := []
  /-- An FW_ACTIVATE that Amioc executes itself, with its result (16 R367). -/
  act     : Option (Packet × List Byte) := none
  alert   : Bool := false
  pec     : Nat := 0
  packets : Nat := 0
  /-- The next spill record to be read over SMBus, counted from the oldest. -/
  spillAt : Nat := 0
deriving DecidableEq, Repr

/-! ## Outputs -/

/-- What the part sends out: the model's own list, not a register. -/
inductive Out where
  | msix (h : HostId) (vector : Nat)                       -- MSI-X message (14 R321)
  | write (h : HostId) (addr : Nat) (bytes : List Byte)    -- DMA write (11 R256, R257)
  | fetch (h : HostId) (addr bytes : Nat)                  -- DMA read request (11 R250, R256)
  | read (h : HostId) (v : Word)                           -- BAR0 read data
  | bar2 (h : HostId) (bytes : List Byte) (poison : Bool)  -- BAR2 completion (04 R102)
  | tx (p : Port) (f : Frame)                              -- a frame's start on a bus (06 R136)
  | errFlag (p : Port) (active : Bool)                     -- an error flag (07 R146)
  | notices (t : Nat) (p : Nat) (q : List (List Word))     -- C16 notices taken by a target (12 R287)
  | claim (t : Nat) (v : Word)                             -- INT_CLAIM or INT_SETSEEN read data (14 R316, R328)
  | line (t : Nat)                                         -- a processor target's interrupt line (14 R320)
  | mgmt (bytes : List Byte)                               -- SMBus or UART data (19 R440, R441)
  | status (vals : List Int)                               -- STATUS of the management port (19 R440)
  | nack                                                   -- SMBus NACK (19 R440)
deriving DecidableEq, Repr

/-- What survives SLEEP in the PD3 retention registers besides the tracker (14 R330, 15 R346, 07 R165). -/
structure Retained where
  /-- INT_PEND, and per target mask, THRESH, INT_MOD (14 R330). -/
  pend    : BitVec 256 := 0
  prio    : Tbl Nat := []
  targets : Tbl IrqTarget := []
  /-- Port settings and error state of each port. -/
  ports   : Tbl (PortCfg × Nat × Bool × List Nat) := []
  profile : Option Nat := none
  wake    : Nat := 0
  /-- Ports that were enabled at entry, and a wake event latched during entry (15 R347). -/
  enabled : List Nat := []
  latched : Option Nat := none
  /-- Entry has begun and is not complete (15 R346). -/
  entering : Bool := false
deriving DecidableEq, Repr

/-- The settings of one copy of the table SRAM and what else of a window decides how its frames are filtered and routed (05 R118,
15 R349): `base` is where the copy lies among table addresses. -/
structure TableCopy where
  flt    : Flt := {}
  cfg    : Tbl PortCfg := []
  routes : Tbl (BitVec 64 × Word) := []
  pairs  : Tbl (BitVec 64) := []
  mode   : Mode := .boot
  twd    : Twd := {}
  base   : Nat := 0
deriving DecidableEq, Repr

/-! ## The canvas (16) -/

/-- The canvas and its summary (16 R374-R376). What the layout fixes is held as it stood at the fault; every other byte is a
free value of the fault's draw (`Config.canvasByte`). -/
structure Canvas where
  /-- 0 nothing, 1 canvas and summary, 2 the summary alone. -/
  held   : Nat := 0
  /-- The header, 64 bytes; LATER_FAULTS, LENGTH and CRC are computed. -/
  header : List Byte := []
  later  : Nat := 0
  /-- Each port's CH_ block, the last journal entries and the last recorder records. -/
  blocks : List (List Byte) := []
  entries : List (List Byte) := []
  records : List (List Byte) := []
  /-- What four kinds of section contain: each port's context and engine binding, the chains, the interrupt state, and the DEV_, GRD_ and
  HST_ registers. -/
  contexts : List (List Byte) := []
  chains : List Byte := []
  irqs   : List Byte := []
  regs   : List Byte := []
  /-- The active table-SRAM copy and its Dense entries, and whether the power link was up. -/
  table  : TableCopy := {}
  dense  : List (BitVec 64) := []
  linked : Bool := false
  /-- The model's own: which draw gives the bytes the spec does not lay out. -/
  draw   : Nat := 0
deriving DecidableEq, Repr

/-- The canvas area is lost at frame-die reset and on SLEEP; the summary remains (16 R374). -/
def Canvas.areaLost (c : Canvas) : Canvas := if c.held = 1 then { c with held := 2 } else c

/-! ## The whole state -/

/-- Why a step stops. -/
inductive Fault where
  /-- A memory address operand that names no codeword of the region: SCRUB_READ, ROW_REMAP_SWITCH and
  TABLE_REPAIR_WRITE raise it. Safe: the model stops where the part has no such address (04 R79). -/
  | noSuchAddress
deriving DecidableEq, Repr

/-- Why a command has no meaning. -/
inductive Refusal where
  /-- Not modelled: no command raises it. Safe. -/
  | notModelled (mnemonic : String)
deriving DecidableEq, Repr

/-- The state of the part, with the queue of the commands that wait. -/
structure State where
  clk    : Clk := {}
  dev    : Dev := {}
  run    : Run := {}
  irq    : Irq := {}
  hosts  : PerHost Hst := .both {}
  cmds   : Cmds := {}
  jnl    : Journal := {}
  rcd    : Recorder := {}
  keep   : Keep := {}
  ports  : Tbl PortS := []
  objs   : Tbl Obj := []
  pool   : Mem := []
  mem    : MemCtl := {}
  flt    : Flt := {}
  routes : Tbl Route := []
  pairs  : Tbl Pair := []
  /-- The copies before, newest first: each was in force for the windows below the number beside it, and is kept while one of them
  is not sealed (05 R118, 15 R349). -/
  copiesPrev : List (Nat × TableCopy) := []
  /-- The copy that the next boundary puts in force, from its commit point on; a port that opens the window before its local start
  filters with it (05 R118). -/
  copyNext : Option TableCopy := none
  /-- Dense entries (10 R246, 13 R305): RTE_DENSE words by index, each with the PORT whose DENSE_SET gave it. -/
  dense  : List (Nat × BitVec 64) := []
  dlv    : DlvS := {}
  trk    : Trk := {}
  trk2   : Trk2 := {}
  fw     : Fw := {}
  engines : Tbl Engine := []
  canvas : Canvas := {}
  twd    : Twd := {}
  pwr    : Pwr := {}
  pwr2   : Pwr2 := {}
  link   : Link := {}
  fld    : Fld := {}
  mgt    : Mgt := {}
  kept   : Retained := {}
  /-- Outputs, newest first: the model's own. -/
  out    : List Out := []
  pending : List Instr := []
deriving DecidableEq, Repr

/-- The machine right after reset: every field at the value its declaration names. -/
def State.reset : State := {}

end Sys2Proof.Machine
end

