-- ==== Sys2Proof/Machine/Ops.lean ====
section
/-! DEFINITION. The named operations over registers, tables and memory: access to hosts, ports and objects, the clock,
interrupts (14), recorder events (17), the per-host flags (02 R55) and violations (11 R253). -/

namespace Sys2Proof.Machine

/-- What a command answers when it may have raised an interrupt source is built by `answer`, below; every other one
answers its next state as it is. -/
abbrev Answer := Host.Outcome State Fault Refusal

/-! ## Access -/

/-- Host `h`'s endpoint. -/
def State.host (s : State) (h : HostId) : Hst := s.hosts.get h

/-- Changes host `h`'s endpoint. -/
def State.modHost (s : State) (h : HostId) (f : Hst → Hst) : State :=
  { s with hosts := s.hosts.set h (f (s.hosts.get h)) }

/-- Writes of a host's queue of 16 that have not completed (17 R384). -/
def Keep.ownerJobs (k : Keep) (h : HostId) : Nat :=
  ((k.busy.toList ++ k.jobsF).filter fun j => j.owner = some h).length

/-- The host's queue of PREG_DATA writes is full (17 R384). -/
def State.pregFull (s : State) (h : HostId) : Bool := decide (16 ≤ s.keep.ownerJobs h)

/-- The access is a posted write. -/
def HeldAccess.isWrite : HeldAccess → Bool
  | .bar0 .. | .slot .. | .bar2 .. => true
  | _ => false

/-- A write is held, which nothing that the host sends later passes (11 R255, 04 R94). -/
def Hst.writesHeld (x : Hst) : Bool := x.held.any HeldAccess.isWrite

/-- The endpoint holds a BAR0 write that arrives: its queue is full, or an earlier write is held (17 R384, 11 R255). -/
def State.holds (s : State) (h : HostId) : Bool := s.pregFull h || (s.host h).writesHeld

/-- An access joins those the endpoint holds. -/
def State.hold (s : State) (h : HostId) (w : HeldAccess) : State := s.modHost h fun x => { x with held := x.held ++ [w] }

/-- A read arrives: it is served behind the writes the same host posted before it (04 R94, 11 R255). -/
def State.served (s : State) (h : HostId) (w : HeldAccess) (done : State) : State :=
  if (s.host h).writesHeld then s.hold h w else done

/-- A read of an INT_ register by interrupt target `t`. -/
def State.servedTo (s : State) (t : Nat) (w : HeldAccess) (done : State) : State :=
  match t with
  | 0 => s.served .a w done
  | 1 => s.served .b w done
  | _ => done

/-- A BAR0 write of the whole word `v` at offset `o`: held, or carried out. -/
def State.posted (s : State) (h : HostId) (o : Nat) (v : Word) (done : State) : State :=
  if s.holds h then s.hold h (.bar0 o 0xF v) else done

/-- A write to an INT_ register by interrupt target `t`: a host's goes through its endpoint, an engine's does not (14). -/
def State.postedTo (s : State) (t o : Nat) (v : Word) (done : State) : State :=
  match t with
  | 0 => s.posted .a o v done
  | 1 => s.posted .b o v done
  | _ => done

/-- Port `p`. -/
def State.port (s : State) (p : Nat) : PortS := s.ports.get (PortS.init p) p

/-- Replaces port `p`. -/
def State.setPort (s : State) (p : Nat) (v : PortS) : State := { s with ports := s.ports.put p v }

/-- Changes port `p`. -/
def State.modPort (s : State) (p : Nat) (f : PortS → PortS) : State := s.setPort p (f (s.port p))

/-- The frame a port receives, replaced. -/
def State.setRx (s : State) (p : Nat) (r : Option RxFrame) : State :=
  s.modPort p fun v => { v with stat := { v.stat with rx := r } }

/-- The frame a port sends, replaced. -/
def State.setTx (s : State) (p : Nat) (t : Option TxFrame) : State :=
  s.modPort p fun v => { v with stat := { v.stat with tx := t } }

/-- Object `o`: an object not listed is as 04 R80 initialises it. -/
def State.obj (s : State) (o : Nat) : Obj := s.objs.get {} o

/-- Replaces object `o`. -/
def State.setObj (s : State) (o : Nat) (v : Obj) : State := { s with objs := s.objs.put o v }

/-- Changes object `o`. -/
def State.modObj (s : State) (o : Nat) (f : Obj → Obj) : State := s.setObj o (f (s.obj o))

/-- Interrupt target `t`. -/
def State.target (s : State) (t : Nat) : IrqTarget := s.irq.targets.get {} t

/-- Changes interrupt target `t`. -/
def State.modTarget (s : State) (t : Nat) (f : IrqTarget → IrqTarget) : State :=
  { s with irq := { s.irq with targets := s.irq.targets.put t (f (s.target t)) } }

/-- Appends an output. -/
def State.emit (s : State) (o : Out) : State := { s with out := o :: s.out }

/-- Applies a change for each member of a list, in order. -/
def forAll {α : Type} (f : α → State → State) : List α → State → State
  | [], s => s
  | x :: xs, s => forAll f xs (f x s)

/-! ## Clock -/

/-- The free-running 1 us counter (01 R458). -/
def State.us (s : State) : Nat := s.clk.ticks / 100

/-- Now in the tracker's units of 2^-16 of 10 ns (08 R174). -/
def State.now (s : State) : Int := (s.clk.ticks : Int) * 65536

/-- PHASE (08 R171); it stays below 65,536 until the cycle start is processed. -/
def State.phase (s : State) : Nat :=
  let d := s.now - s.trk.start
  if s.trk.len ≤ 0 then 0 else min 65535 (65536 * d / s.trk.len).toNat

/-- The fabric runs 4 cycles in a phase-clock tick; the token of 04 R103 advances by one in each. -/
def tokenAfter (token ticks : Nat) : Nat := (token + 4 * ticks) % 72

/-! ## Interrupts (14) -/

/-- The priority of a source after frame-die reset (14 R312). -/
def resetPrio (n : Nat) : Nat :=
  if n = 0 then 0 else if n ≤ 64 then 8 else if n ≤ 128 then 3 else if n ≤ 130 then 6 else if n ≤ 132 then 5
  else if n ≤ 134 then 9 else if n = 135 then 12 else if n ≤ 139 then 7 else if n = 140 then 12
  else if n ≤ 142 then 10 else if n ≤ 144 then 15 else if n ≤ 150 then 14 else if n = 151 then 5
  else if n ≤ 155 then 11 else if n ≤ 158 then 0 else if n = 159 then 2 else if n = 160 then 13
  else if n = 161 then 4 else if n = 162 then 11 else if n = 163 then 4 else if n = 164 then 13
  else if n = 165 then 10 else if n = 166 then 6 else if n = 167 then 10 else if n = 168 then 4
  else if n = 169 then 11 else if n = 170 then 15 else if n = 171 then 12 else if n = 172 then 12
  else if n = 173 then 6 else if n = 174 then 9 else if n ≤ 191 then 0 else 1

/-- The priority of source `n`. -/
def Irq.prioOf (q : Irq) (n : Nat) : Nat := q.prio.get (resetPrio n) n

/-- Sources that are never raised: 0 and the reserved ones (14 R311, R312). -/
def neverRaised (n : Nat) : Bool := n = 0 || (156 ≤ n && n ≤ 158) || 256 ≤ n

/-- The value with source `n`'s bit set. -/
def srcBit (n : Nat) : BitVec 256 := BitVec.ofNat 256 (2 ^ n)

/-- Marks a word's bit of INT_SETSEEN in every target's copy but that of `by_` (14 R328). -/
def State.markSeen (s : State) (n : Nat) (by_ : Option Nat) : State :=
  forAll (fun t s => if by_ = some t then s
    else s.modTarget t fun v => { v with seen := v.seen ||| BitVec.ofNat 8 (2 ^ (n / 32)) }) (nums 8) s

/-- Sets source `n`'s pending bit; INT_SETSEEN is marked when the bit goes from 0 to 1 (14 R314, R328). -/
def State.setPend (s : State) (n : Nat) (by_ : Option Nat) : State :=
  if s.irq.pend.getLsbD n then s
  else { s with irq := { s.irq with pend := s.irq.pend ||| srcBit n } }.markSeen n by_

/-- Raises a source (14 R314). In SLEEP only CYCLE_SOURCE_LOST and the power and field sources set their bits, in the
retained INT_PEND (14 R330). -/
def State.raise (s : State) (n : Nat) : State :=
  if neverRaised n then s
  else if s.dev.mode = .sleep then
    (if n = 135 || (143 ≤ n && n ≤ 158) then { s with kept := { s.kept with pend := s.kept.pend ||| srcBit n } } else s)
  else s.setPend n none

/-- RUN: the highest priority among a target's active sources (14, targets). -/
def IrqTarget.running (t : IrqTarget) : Nat := t.active.foldl (fun m a => max m a.2) 0

/-- The better of two presentable sources: higher priority, then lower number (14 R315). -/
def betterSource (q : Irq) (best : Option (Nat × Nat)) (n : Nat) : Option (Nat × Nat) :=
  match best with
  | none => some (n, q.prioOf n)
  | some (m, p) => if p < q.prioOf n then some (n, q.prioOf n) else some (m, p)

/-- The target's top source with its priority (14 R315). -/
def Irq.top (q : Irq) (t : IrqTarget) : Option (Nat × Nat) :=
  let cand := q.pend &&& ~~~t.mask
  if cand = 0 then none
  else
    let floor := max t.thresh t.running
    (numsFrom 1 255).foldl
      (fun best n => if cand.getLsbD n && decide (floor < q.prioOf n) then betterSource q best n else best) none

/-- Moderation permits a signal at a tick of 10 ns (14 R323). -/
def IrqTarget.permits (t : IrqTarget) (now : Nat) : Bool :=
  t.moderation = 0 || t.active.isEmpty ||
    (match t.lastSignal with | none => true | some l => decide (l + 100 * t.moderation ≤ now))

/-- The endpoint can send messages: link up, D0, bus master, MSI-X enabled (11 R250, R269). -/
def Pcie.sends (p : Pcie) : Bool := p.linkUp && !p.d3hot && p.busMaster && p.msixOn

/-- The endpoint can reach host memory (11 R269). -/
def Pcie.dma (p : Pcie) : Bool := p.linkUp && !p.d3hot && p.busMaster

/-- Vector `v` is masked in the MSI-X table or by the function mask (11 R251, as PCI Express defines it). -/
def Pcie.vectorMasked (p : Pcie) (v : Nat) : Bool := p.msixMasked || (p.msixTable.get 1 (4 * v + 3)).getLsbD 0

/-- Sends MSI-X vector `v` to host `h`, or sets its bit of the pending bit array while it is masked (14 R321). -/
def State.sendMsix (s : State) (h : HostId) (v : Nat) : State :=
  if (s.host h).pcie.vectorMasked v then
    s.modHost h fun x => { x with pcie := { x.pcie with pba := x.pcie.pba ||| BitVec.ofNat 16 (2 ^ v) } }
  else s.emit (.msix h v)

/-- Whether a presentation of priority `p` is signalled to target `t` now (14 R320, R321, R323). -/
def State.signalsNow (s : State) (t p : Nat) : Bool :=
  let v := s.target t
  v.permits s.clk.ticks &&
    (if t = 0 then (s.host .a).pcie.sends && decide (v.signalled < p)
     else if t = 1 then (s.host .b).pcie.sends && decide (v.signalled < p)
     else !v.asserted || v.signalled == 0)

/-- Signals target `t` with priority `p`. -/
def State.signal (s : State) (t p : Nat) : State :=
  let s' := s.modTarget t fun v => { v with signalled := p, lastSignal := some s.clk.ticks, asserted := decide (2 ≤ t) }
  if t = 0 then s'.sendMsix .a p else if t = 1 then s'.sendMsix .b p else s'.emit (.line t)

/-- Evaluates presentation for target `t` (14 R315, R320, R321); a processor's line falls when nothing is presentable. -/
def State.presentTo (s : State) (t : Nat) : State :=
  match s.irq.top (s.target t) with
  | none => if (s.target t).asserted then s.modTarget t fun v => { v with asserted := false } else s
  | some (_, p) => if s.signalsNow t p then s.signal t p else s

/-- Evaluates presentation for every target, from the state at the end of the command (14 R315). -/
def State.present (s : State) : State := forAll (fun t s => s.presentTo t) (nums 8) s

/-- The answer of a command that may have raised a source. -/
def answer (s : State) : Answer := .next s.present

/-- The port-event source of port `p` is p + 1 (07 R147). -/
def State.portEvent (s : State) (p : Nat) : State := s.raise (p + 1)

/-- The port-traffic source of port `p` is p + 65 (14 R312). -/
def State.portTraffic (s : State) (p : Nat) : State := s.raise (p + 65)

/-! ## Recorder events (17) -/

/-- Puts a record into the spill area: slot 0 is never overwritten, slots 1-63 act as a ring when full (17 R396). -/
def Recorder.pushSpill (q : Recorder) (r : RecSlot) : Recorder :=
  if q.spill.length < 64 then { q with spill := q.spill ++ [r] }
  else { q with spill := q.spill.set q.spillNext r, spillLost := q.spillLost + 1,
                spillNext := if q.spillNext = 63 then 1 else q.spillNext + 1 }

/-- An event is detected. With Buckram running it is queued for EVENT_RECORD (before the scan has ended, up to 64 are
held: 17 R389); without, Amioc writes a provisional record into the spill area (17 R396). -/
def State.event (s : State) (code source sev d0 d1 : Nat) : State :=
  if s.run.buckram then
    let e : Event := { code := code, source := source, sev := sev, d0 := d0, d1 := d1,
                       time := s.clk.plant.toNat, at_us := s.us }
    if s.rcd.scanned || decide (s.rcd.queue.length < 64) then
      { s with rcd := { s.rcd with queue := s.rcd.queue ++ [e] } }
    else s
  else
    let invalid := !s.run.domains.contains 3
    let r : Record := { rseq := 0, epoch := 0, code := code, time := if invalid then 0 else s.clk.plant.toNat,
                        source := source, sev := sev, flags := 2 + 4 * flag invalid, d0 := d0, d1 := d1 }
    { s with rcd := s.rcd.pushSpill { r := r, wrote := s.us, last := s.us, live := false } }

/-- Cycle and window as the port event group codes them: cycle [23:0] x 256 + window (17 R399). -/
def State.cycWin (s : State) : Nat := (s.trk.cycle.toNat % 2 ^ 24) * 256 + s.trk.win

/-! ## Violations (11 R253) -/

/-- A host write is ignored and counted: cause, BAR and byte offset are kept (11 R253). -/
def State.violation (s : State) (h : HostId) (cause bar offset : Nat) : State :=
  (s.modHost h fun x => { x with
    violations := incSat x.violations 0xFFFFFFFF
    violLast := image [(0, offset % 2 ^ 26), (27, bar), (28, cause)] }).event 0x0301 h.num 2 cause offset

/-! ## Persistent registers (17 R382) -/

/-- Factory values of the persistent registers the spec gives (15 BOOT_POLICY, 17 R389, 18 R426). -/
def factoryReg (i : Nat) : Word :=
  if i = 0x0F1 then 0xFFFFFFFF#32
  else if i = 0x100 then 0x030C01F4#32
  else if i = 0x101 then image [(27, 16), (16, 1200), (11, 8), (0, 500)]
  else if i = 0x102 then image [(22, 150), (11, 100), (0, 50)]
  else if i = 0x103 then image [(30, 3), (28, 1), (16, 1250), (0, 200)]
  else if i = 0x104 then image [(16, 500), (0, 80)]
  else if i = 0x105 then image [(16, 2000), (0, 4000)]
  else if i = 0x106 then image [(16, 1300), (0, 1500)]
  else if i = 0x107 then image [(16, 700), (0, 800)]
  else if i = 0x200 then 0x00004080#32
  else 0

/-- The words of a C8 packet of that length less 1, at most 8; bits 31:28 of the first hold it (12 R288). -/
def c8Packet (len : Nat) (word : Nat → Word) : List Word :=
  let k := len % 8
  setBits (word 0) 31 28 k :: (numsFrom 1 k).map word

/-- The value of a write to register `i` that has not completed: the last one wins (17 R384). -/
def jobsValue (i : Nat) : List KeepJob → Option Word → Option Word
  | [], r => r
  | j :: js, r =>
    jobsValue i js (j.write.foldl (fun r w => if w.1 = i then some w.2 else r) r)

/-- The fields of persistent register `i`: BOOT_POLICY's reserved bits 31:16, 11 and 3:1 read as 0 (00 R4, 15
BOOT_POLICY). -/
def pregFields (i : Nat) : Word := if i = 0x200 then 0x0000F7F1#32 else 0xFFFFFFFF#32

/-- Persistent register `i` as a read returns it: a write accepted before it counts (17 R384). -/
def State.preg (s : State) (i : Nat) : Word :=
  let stored := s.keep.regs.get (factoryReg i) i
  (jobsValue i (s.keep.busy.toList ++ s.keep.jobsF ++ s.keep.jobsP) none).getD stored &&& pregFields i

/-- A transfer joins a keep link's queue (01 R7). -/
def Keep.queue (k : Keep) (l : KeepLink) (j : KeepJob) : Keep :=
  match l with
  | .f => { k with jobsF := k.jobsF ++ [j] }
  | .p => { k with jobsP := k.jobsP ++ [j] }

/-- Queues a line write on a keep link (01 R7, 17 R379). -/
def Keep.queueLine (k : Keep) (l : KeepLink) (line : Nat) (owner : Option HostId) (w : List (Nat × Word)) : Keep :=
  k.queue l { line := line, owner := owner, write := w }

/-- Queues the line write of recorder slot `slot`, which held `old` (17 R381, R389). -/
def Keep.queueRecord (k : Keep) (slot : Nat) (old : Option RecSlot) : Keep :=
  k.queue .f { line := 0x8000 + slot, was := some (.record slot old) }

/-- Queues the line write of journal slot `slot`, which held `old` (17 R381, R397). -/
def Keep.queueEntry (k : Keep) (slot : Nat) (old : Option JEntry) : Keep :=
  k.queue .f { line := 0x4000 + slot, was := some (.entry slot old) }

/-- Queues a transfer of `n` bytes on a keep link, as requests of at most `size` bytes each (01 R7). -/
def Keep.queueMove (k : Keep) (l : KeepLink) (m : KeepMove) (size n : Nat) : Keep :=
  if n = 0 then k else k.queue l { line := 0, move := m, parts := (n + size - 1) / size }

/-- `n` bytes of NOR are read or programmed over a keep link: requests of 256 bytes (01 R7). -/
def State.norMove (s : State) (l : KeepLink) (m : KeepMove) (n : Nat) : State :=
  { s with keep := s.keep.queueMove l m 256 n }

/-- Lines of the ferroelectric memory are read over keep link F, one request each (01 R7). -/
def State.lineReads (s : State) (n : Nat) : State := { s with keep := s.keep.queueMove .f .lineRead 1 n }

/-- Writes persistent registers of the line of register `i` through Buckram, in one commit: the line write is queued, and for
0x000-0x1FF that of the second copy after it (17 R380, R384). Without Buckram the write comes from Amioc, over keep link P (16
R367, log entry 26). -/
def State.setPregs (s : State) (i : Nat) (ws : List (Nat × Word)) (owner : Option HostId) : State :=
  let l := if s.run.buckram || owner.isSome then KeepLink.f else KeepLink.p
  let k := s.keep.queueLine l (i / 8) owner ws
  { s with keep := if i < 0x200 then k.queueLine l (0x200 + i / 8) none [] else k }

/-- Writes persistent register `i` (17 R384). -/
def State.setPreg (s : State) (i : Nat) (v : Word) (owner : Option HostId) : State := s.setPregs i [(i, v)] owner

/-- The device's serial number, from the persistent identity (11 DEV_SERIAL, 17 R382). -/
def State.serial (s : State) : Nat := (s.preg 0).toNat + (s.preg 1).toNat * 2 ^ 32

/-! ## Modes (15 R332) -/

/-- The device changes mode: PREV_MODE, MODE_CHANGE and its record (15 R332). -/
def State.changeMode (s : State) (m : Mode) : State :=
  let old := s.dev.mode
  let s1 := { s with dev := { s.dev with mode := m, prevMode := old },
                     trk2 := { s.trk2 with runEntered := s.trk2.runEntered || m.isRun }
                     dlv := { s.dlv with entered := m == Mode.grid || m == Mode.dense } }
  (s1.raise 171).event 0x0A01 0 1 old.code m.code

end Sys2Proof.Machine
end

