-- ==== Sys2Proof/Machine/Flags.lean ====
section
/-! DEFINITION. The flags of ports and of the tracker, of which each host has its own copy (02 R55, 08 R194). -/

namespace Sys2Proof.Machine

/-! ## Per-host flags of ports and of the tracker (02 R55) -/

/-- Sets bits of CH_FLAGS in both hosts' copies. -/
def State.flagCh (s : State) (p : Nat) (m : Word) : State :=
  s.modPort p fun v => { v with flags := v.flags.map fun f => { f with ch := f.ch ||| m } }

/-- Sets bits of CH_SILK_FLAGS in both hosts' copies. -/
def State.flagSilk (s : State) (p : Nat) (m : Word) : State :=
  s.modPort p fun v => { v with flags := v.flags.map fun f => { f with silk := f.silk ||| m } }

/-- Sets bits of CH_TX_FLAGS in both hosts' copies. -/
def State.flagTx (s : State) (p : Nat) (m : Word) : State :=
  s.modPort p fun v => { v with flags := v.flags.map fun f => { f with tx := f.tx ||| m } }

/-- Sets bits of CH_ERR_FLAGS in both hosts' copies. -/
def State.flagErr (s : State) (p : Nat) (m : Word) : State :=
  s.modPort p fun v => { v with flags := v.flags.map fun f => { f with err := f.err ||| m } }

/-- Sets bits of GRD_FLAGS in both hosts' copies. -/
def State.flagGrd (s : State) (m : Word) : State :=
  { s with trk2 := { s.trk2 with flags := s.trk2.flags.map (· ||| m) } }

end Sys2Proof.Machine
end

