-- ==== Sys2Proof/Machine/Clock.lean ====
section
/-! DEFINITION. The phase clock: what a tick does to the times the part keeps (01 R22, R458, 08 R182, R183). -/

namespace Sys2Proof.Machine

/-- What slewing adds to plant time in one tick of 10 ns, in units of 1/200 ns: 500 ppm in the direction of the
difference still to be removed (08 R183). -/
def Clk.slewStep (c : Clk) : Int :=
  if !c.slewing then 0 else if 0 < c.slew then 1 else if c.slew < 0 then -1 else 0

/-- One tick of 10 ns: plant time advances by 10 ns, and by 1/200 ns more or less while it is slewed (08 R182, R183); the
fabric runs four cycles (04 R103). -/
def Clk.tick (c : Clk) : Clk :=
  let d := c.slewStep
  let sum : Int := (c.plantFrac : Int) + 2000 + d
  { c with ticks := c.ticks + 1, token := tokenAfter c.token 1
           plant := c.plant + BitVec.ofInt 64 (sum / 200), plantFrac := (sum % 200).toNat, slew := c.slew - d }

/-- `n` ticks. -/
def Clk.run : Nat → Clk → Clk
  | 0, c => c
  | n + 1, c => Clk.run n c.tick

/-- The bank holds nothing allocated: no header or granule of an enabled object lies in it, and the areas that lie across every
bank, the delivery pool, the route queues, the canvas and command staging, are empty (01 R30, 04 R79, log entry 104). -/
def State.bankIdle (s : State) (b : Nat) : Bool :=
  s.dlv.wins.isEmpty && s.dlv.batches.isEmpty && s.dlv.direct.isEmpty && s.routes.all (fun e => e.2.queue.isEmpty) &&
    s.canvas.held != 1 && s.cmds.waiting.isEmpty && s.cmds.sched.isEmpty && s.cmds.actions.isEmpty && s.cmds.xfers.isEmpty &&
    s.mem.staged.isEmpty &&
    s.objs.all fun e => !bit e.2.cfg 31 ||
      (e.1 % 8 != b / 4 && (nums (min 8 e.2.granCount)).all fun i => (e.2.granBase + i) % 8 != b / 4)

/-- The memory controller's choice at a tick with PD8 on: a bank that holds nothing may be placed in retention, and a bank in
which something has been allocated is out of it (01 R30). -/
def State.bankRetention (s : State) : State :=
  if !s.run.domains.contains 8 then s
  else
    let b := Config.retentionPick s.clk.ticks
    let kept := s.run.retention.filter s.bankIdle
    { s with run := { s.run with retention := if decide (b < 32) && s.bankIdle b then insertNat b kept else kept } }

/-- The power die's oscillator runs for `n` ticks of 10 ns while the power die is powered (18 R416). -/
def State.oscRun (s : State) (n : Nat) : State :=
  if s.pwr2.powered then { s with pwr2 := { s.pwr2 with osc := s.pwr2.osc + n } } else s

/-- What passes on an empty queue: one tick of the phase clock, 10 ns, or 40 ns from the reference in SLEEP (01 R22,
08 R182). Without power in PD3 the phase clock does not count (01 R458); the power die's oscillator does. -/
def State.idleTick (s : State) : State :=
  let n := if s.dev.mode = .sleep then 4 else 1
  let t := s.oscRun n
  if s.run.domains.contains 3 then State.bankRetention { t with clk := Clk.run n t.clk } else t

end Sys2Proof.Machine
end

