-- ==== Sys2Proof/Machine/Operands.lean ====
section
/-! DEFINITION. Operand forms: frames and their keys, filter results, arbitration keys, fence payloads, lengths (03, 05, 06,
08, 09). -/

open Sys2Proof Sys2Proof.Machine

/-- FORMAT as OBJ_CFG and records code it (04, 09 R200). -/
def Sys2Proof.Fmt.code : Fmt → Nat
  | .classical => 0 | .fd => 1 | .xl => 2 | .silk => 3

def Sys2Proof.Fmt.ofCode (n : Nat) : Fmt := if n = 0 then .classical else if n = 1 then .fd else if n = 2 then .xl else .silk

/-- XL and Silk frames carry SDT, VCID, AF. -/
def Sys2Proof.Fmt.isXl : Fmt → Bool
  | .xl | .silk => true
  | _ => false

/-- Most data bytes of a format (10 R229). -/
def Sys2Proof.Fmt.maxLen : Fmt → Nat
  | .classical => 8 | .fd => 64 | .xl | .silk => 2048

/-- Valid FD lengths (04 R89). -/
def Sys2Proof.Machine.fdLengths : List Nat := [0, 1, 2, 3, 4, 5, 6, 7, 8, 12, 16, 20, 24, 32, 48, 64]

/-- A payload length that is valid for a format (04 R89). -/
def Sys2Proof.Machine.validLen (f : Fmt) (n : Nat) : Bool :=
  match f with
  | .classical => decide (n ≤ 8)
  | .fd => fdLengths.contains n
  | .xl | .silk => decide (1 ≤ n) && decide (n ≤ 2048)

/-- The smallest valid FD length of at least `n` (10 R229). -/
def Sys2Proof.Machine.fdPad (n : Nat) : Nat := (fdLengths.find? fun k => decide (n ≤ k)).getD 64

/-- A frame with no optional bit set. -/
def Sys2Proof.Frame.plain (f : Fmt) (id : BitVec 29) (data : List Byte) : Frame :=
  { fmt := f, ide := false, rtr := false, brs := false, esi := false, sec := false, id := id, sdt := 0, vcid := 0, af := 0,
    len := BitVec.ofNat 12 data.length, data := data }

/-! ## Filter keys and results (05) -/

def Sys2Proof.Frame.key (f : Frame) : FrameKey := { fmt := f.fmt, ide := f.ide, id := f.id, sdt := f.sdt, vcid := f.vcid }

/-- The key as a number (05 R106). -/
def Sys2Proof.FrameKey.num (k : FrameKey) : Nat :=
  if k.fmt.isXl then k.sdt.toNat * 2 ^ 19 + k.vcid.toNat * 2 ^ 11 + bits k.id 10 0
  else if k.ide then k.id.toNat
  else bits k.id 10 0

/-- KIND and VALUE of a FLT_RESULT (05). -/
def Sys2Proof.Machine.resKind (r : Nat) : Nat := r / 16384 % 4
def Sys2Proof.Machine.resValue (r : Nat) : Nat := r % 16384

/-! ## Arbitration (06 R131) -/

/-- The arbitration key of a frame. -/
def Sys2Proof.Frame.arbKey (f : Frame) : Nat :=
  if f.ide && !f.fmt.isXl then
    f.id.toNat / 2 ^ 18 * 2 ^ 21 + 2 ^ 20 + 2 ^ 19 + f.id.toNat % 2 ^ 18 * 2 + flag (f.rtr && f.fmt = .classical)
  else bits f.id 10 0 * 2 ^ 21 + flag (f.rtr && f.fmt = .classical) * 2 ^ 20

/-! ## Fences (08 R184, R185) -/

/-- FENCE_MODE, MY_RANK, FENCE_HI, BACKUP_WAIT, FENCE_EXT of CH_FENCE_CFG (08). -/
def Sys2Proof.Machine.fenceMode (w : Word) : Nat := bits w 31 30
def Sys2Proof.Machine.fenceRank (w : Word) : Nat := bits w 29 27
def Sys2Proof.Machine.fenceHi (w : Word) : Nat := bits w 23 16
def Sys2Proof.Machine.backupWait (w : Word) : Nat := bits w 15 4
def Sys2Proof.Machine.fenceExt (w : Word) : Bool := bit w 3

/-- A base identifier lies in a port's fence range. -/
def Sys2Proof.Machine.inFenceRange (w : Word) (id : Nat) : Bool := id / 8 = fenceHi w

/-- The payload of a fence that opens window `win` of cycle `cyc`, sent at plant time `t` (08 R185). -/
def Sys2Proof.Machine.fencePayload (ext backup : Bool) (cyc : Word) (win : Nat) (t : BitVec 64) : List Byte :=
  BitVec.ofNat 8 (win % 64 + 64 * flag backup + 128 * flag (win % 64 = 0)) :: (leBytes 3 cyc.toNat ++
    leBytes 4 (t.toNat / 1024) ++ (if ext then leBytes 8 t.toNat else []))

/-- What a fence's payload says (08 R185): window, backup flag, cycle-start flag, cycle [23:0], plant time in units of
1.024 us. -/
structure Sys2Proof.Machine.FenceSays where
  win    : Nat
  backup : Bool
  start  : Bool
  cycle  : Nat
  time   : Nat
  /-- The full time of an extended fence. -/
  full   : Option Nat
deriving DecidableEq, Repr

def Sys2Proof.Machine.fenceSays (d : List Byte) : FenceSays :=
  let b := u8At d 0
  { win := b % 64, backup := decide (b / 64 % 2 = 1), start := decide (128 ≤ b), cycle := leNat ((d.drop 1).take 3),
    time := u32At d 4, full := if 16 ≤ d.length then some (u64At d 8) else none }

/-- A frame passes the tests of 08 R186 that the frame itself decides: format and DLC, identifier, window, bit 7. -/
def Sys2Proof.Machine.isFence (w : Word) (winCount : Nat) (f : Frame) : Bool :=
  let formOk := if fenceExt w then decide (f.fmt = .xl) && decide (f.data.length = 16) && f.sdt = 0 && !f.sec && f.vcid = 0 &&
      f.af = 0
    else decide (f.fmt = .classical) && !f.ide && !f.rtr && decide (f.data.length = 8)
  let y := fenceSays f.data
  formOk && inFenceRange w (bits f.id 10 0) && decide (y.win < winCount) && (y.start == decide (y.win = 0))

/-- A frame's identifier lies in the fence range as a base identifier. -/
def Sys2Proof.Machine.fenceIdRange (w : Word) (f : Frame) : Bool := !(f.ide && !f.fmt.isXl) && inFenceRange w (bits f.id 10 0)

/-! ## Order of windows (08 R187) -/

/-- The window after (c, w). -/
def Sys2Proof.Machine.nextWin (winCount : Nat) (c : Word) (w : Nat) : Word × Nat := if w + 1 < winCount then (c, w + 1) else (c + 1, 0)

/-- The local window that opens next (08 R171). -/
def Sys2Proof.Machine.State.upcoming (s : State) : Word × Nat :=
  if s.trk2.startDue then (s.trk.cycle, 0) else nextWin s.trk.cfg.winCount s.trk.cycle s.trk.win

/-- Where the windows start, in phase units (08 R176). -/
def Sys2Proof.Machine.CycCfg.allStarts (y : CycCfg) : List Nat := if y.starts.isEmpty then [0] else y.starts.take y.winCount

/-- Where window `w` ends, in phase units from the cycle's start. -/
def Sys2Proof.Machine.CycCfg.endOf (y : CycCfg) (w : Nat) : Nat := y.allStarts.getD (w + 1) 65536

/-- Window (c, w) comes before (c', w'). -/
def Sys2Proof.Machine.winBefore (a b : Word × Nat) : Bool :=
  if a.1 = b.1 then decide (a.2 < b.2) else decide (seqDiff a.1 b.1 < 0)

/-! ## Routes (10 R224) -/

def Sys2Proof.Machine.rteEn (e : BitVec 64) : Bool := bit e 63
def Sys2Proof.Machine.rteKeyType (e : BitVec 64) : Nat := bits e 62 62
def Sys2Proof.Machine.rteSrc (e : BitVec 64) : Nat := bits e 61 56
def Sys2Proof.Machine.rteKey (e : BitVec 64) : Nat := bits e 55 42
def Sys2Proof.Machine.rteDst (e : BitVec 64) : Nat := bits e 41 36
def Sys2Proof.Machine.rteFmt (e : BitVec 64) : Fmt := Fmt.ofCode (bits e 35 34)
def Sys2Proof.Machine.rteIde (e : BitVec 64) : Bool := bit e 33
def Sys2Proof.Machine.rteDropNewest (e : BitVec 64) : Bool := bit e 32
def Sys2Proof.Machine.rteIdMode (e : BitVec 64) : Nat := bits e 31 30
def Sys2Proof.Machine.rteNewId (e : BitVec 64) : Nat := bits e 28 0
def Sys2Proof.Machine.extSdt (x : Word) : Byte := BitVec.ofNat 8 (bits x 31 24)
def Sys2Proof.Machine.extVcid (x : Word) : Byte := BitVec.ofNat 8 (bits x 23 16)
def Sys2Proof.Machine.extLenMode (x : Word) : Nat := bits x 15 14
def Sys2Proof.Machine.extPackN (x : Word) : Nat := bits x 13 10
def Sys2Proof.Machine.extBrs (x : Word) : Bool := bit x 9
def Sys2Proof.Machine.extHop (x : Word) : Nat := bits x 8 6

/-- SKEW and EN of a pair (10). -/
def Sys2Proof.Machine.pairEn (e : BitVec 64) : Bool := bit e 63
def Sys2Proof.Machine.pairSkew (e : BitVec 64) : Nat := bits e 47 32

/-- Fields of a Dense entry (10). -/
def Sys2Proof.Machine.denEn (e : BitVec 64) : Bool := bit e 63
def Sys2Proof.Machine.denForeign (e : BitVec 64) : Bool := bit e 62
def Sys2Proof.Machine.denObj (e : BitVec 64) : Nat := bits e 61 48
def Sys2Proof.Machine.denPeriod (e : BitVec 64) : Nat := bits e 47 45
def Sys2Proof.Machine.denOffset (e : BitVec 64) : Nat := bits e 44 39
def Sys2Proof.Machine.denDeadline (e : BitVec 64) : Nat := bits e 31 16

/-! ## Records (09 R200, R201) -/

/-- FMT of a frame record. -/
def Sys2Proof.Frame.fmtByte (f : Frame) : Nat :=
  f.fmt.code + 4 * flag f.ide + 8 * flag f.rtr + 16 * flag f.brs + 32 * flag f.esi + 64 * flag f.sec

/-- Bytes of a frame record (09 R201). -/
def Sys2Proof.Machine.recSize (xl : Bool) (payload : Nat) : Nat := 16 + (if xl then 8 else 0) + 8 * ((payload + 7) / 8)

/-- A frame's record but for SEQ. -/
def Sys2Proof.Frame.record (f : Frame) (port target flags : Nat) : DRec :=
  { port := port, fmt := f.fmtByte, id := f.id.toNat, len := f.len.toNat, flags := flags, target := target,
    sdt := if f.fmt.isXl then f.sdt.toNat else 0, vcid := if f.fmt.isXl then f.vcid.toNat else 0, af := f.af,
    data := if f.rtr then [] else f.data }

/-- A record is of FORMAT 2 or 3 and no notice. -/
def Sys2Proof.Machine.DRec.isXl (r : DRec) : Bool := decide (r.flags < 32768) && decide (2 ≤ r.fmt % 4)

def Sys2Proof.Machine.DRec.size (r : DRec) : Nat := recSize r.isXl r.data.length

/-- The bytes of a record with its SEQ (09 R200-R202). -/
def Sys2Proof.Machine.DRec.bytes (r : DRec) (seq : Nat) : List Byte :=
  leBytes 2 seq ++ leBytes 1 r.port ++ leBytes 1 r.fmt ++ leBytes 4 r.id ++ leBytes 2 r.len ++ leBytes 2 r.flags ++
    leBytes 2 r.target ++ leBytes 1 r.sdt ++ leBytes 1 r.vcid ++
    (if r.isXl then leBytes 4 r.af.toNat ++ zeros 4 else []) ++ r.data ++ zeros ((8 - r.data.length % 8) % 8)

/-- A deadline notice and an overflow notice (09 R202). -/
def Sys2Proof.Machine.deadlineNotice (p o : Nat) : DRec := { port := p, fmt := 1, id := o, len := 0, flags := 32768, target := 0 }
def Sys2Proof.Machine.overflowNotice (p n : Nat) : DRec := { port := p, fmt := 2, id := n, len := 0, flags := 32768, target := 0 }
end

