-- ==== Sys2Proof/Machine/Slots.lean ====
section
/-! DEFINITION. Tweed slots: their places, their filter and the ends of their requests (15 R349-R353). -/

namespace Sys2Proof.Machine

/-- The first object of the slots; slot k of channel c is object 15,872 + 32c + k (15 R349). -/
def slotBase : Nat := 15872

def Twd.slot (t : Twd) (i : Nat) : Slot := t.slots.get {} i
def Twd.tx (t : Twd) (i : Nat) : SlotTx := t.slotTx.get {} i
def Twd.chan (t : Twd) (c : Nat) : Chan := t.chans.get {} c

/-- The port of a channel, none while it is not mapped. -/
def Twd.portOf (t : Twd) (c : Nat) : Option Nat :=
  let p := t.map.getD c 255
  if p < 64 then some p else none

/-- The channel a port is mapped to. -/
def Twd.channelOf (t : Twd) (p : Nat) : Option Nat := t.map.findIdx? (· == p)

def State.modSlot (s : State) (i : Nat) (f : Slot → Slot) : State :=
  { s with twd := { s.twd with slots := s.twd.slots.put i (f (s.twd.slot i)) } }
def State.modSlotTx (s : State) (i : Nat) (f : SlotTx → SlotTx) : State :=
  { s with twd := { s.twd with slotTx := s.twd.slotTx.put i (f (s.twd.tx i)) } }
def State.modChan (s : State) (c : Nat) (f : Chan → Chan) : State :=
  { s with twd := { s.twd with chans := s.twd.chans.put c (f (s.twd.chan c)) } }

/-- The object is a slot in force: its place among the slots. -/
def State.slotOf (s : State) (o : Nat) : Option Nat :=
  if slotBase ≤ o && bit (s.twd.tx (o - slotBase)).inForce 31 then some (o - slotBase) else none

/-- A slot in force receives keys of a kind. -/
def SlotTx.receives (x : SlotTx) (ide : Bool) : Bool := bit x.inForce 31 && !bit x.inForce 30 && bit x.inForce 29 == ide

/-- The masked identifier of a slot matches. -/
def SlotTx.matchesId (x : SlotTx) (id : Nat) (width : Nat) : Bool :=
  let m := x.mask.toNat % 2 ^ width
  id &&& m == (x.inForce.toNat % 2 ^ width) &&& m

/-- The first slot of channel `c` that takes a key: STD keys by its direct table, EXT keys by mask elements, anything else
rejected (15 R349). -/
def Twd.lookup (t : Twd) (c : Nat) (k : FrameKey) : Option Nat :=
  if k.fmt.isXl then none
  else (nums 32).find? fun i =>
    let x := t.tx (32 * c + i)
    x.receives k.ide && x.matchesId k.num (if k.ide then 29 else 11)

/-- The channel whose slots filter the frames of a port (15 R349). -/
def TableCopy.channel (t : TableCopy) (p : Nat) : Option Nat := if t.mode = .tweed then t.twd.channelOf p else none

/-- Why a slot's request ended, FAIL_CAUSE: 0 none, 1 time-out, 2 bus-off, 3 cancelled, 4 error in a single attempt
(15 R352). -/
def slotCause (x : SlotTx) (r : ObjReq) (busOff : Bool) : Nat :=
  if r.done then 0 else if r.cancelled then 3 else if x.timedOut then 1 else if busOff then 2 else 4

/-- A slot's request resolves once its object holds no latched request: TXEVT in both hosts' copies, and with TXIE the
port-traffic source (15 R352). -/
def State.resolveSlot (s : State) (i : Nat) : State :=
  let x := s.twd.tx i
  let v := s.obj (slotBase + i)
  if !x.pend || v.req.latched then s
  else
    let c := i / 32
    let p := bits v.cfg 29 24
    let off := (s.port p).stat.state = .busOff || (s.port p).err.tec = 256
    let s1 := s.modSlotTx i fun x => { x with pend := false, timedOut := false, failCause := slotCause x v.req off }
    let s2 := s1.modChan c fun h => { h with txevt := h.txevt.map (· ||| BitVec.ofNat 32 (2 ^ (i % 32))) }
    if (s.twd.chan c).txie then s2.portTraffic p else s2

/-- Every slot whose request has ended resolves. -/
def State.resolveSlots (s : State) : State := forAll (fun (e : Nat × SlotTx) s => s.resolveSlot e.1) s.twd.slotTx s

end Sys2Proof.Machine
end

