-- ==== Sys2Proof/Machine/Filter.lean ====
section
/-! DEFINITION. Acceptance filtering and the route list (05, 10 R225, R226). -/

namespace Sys2Proof.Machine

/-- What a lookup gives: the result, its source (0 direct table, 1 element, 2 default, 3 table error) and the element's
place (05, CH_FLT_LAST). -/
structure Found where
  result : Nat
  src    : Nat
  elem   : Nat := 0
deriving DecidableEq, Repr

/-- Element fields (05). -/
def elemEn (e : Elem) : Bool := bit e.w0 31
def elemType (e : Elem) : Nat := bits e.w0 30 29
def elemFmts (e : Elem) : Nat := bits e.w0 28 25
def elemResult (e : Elem) : Nat := bits e.w0 15 0
def elemA (e : Elem) : Nat := bits e.a 28 0
def elemB (e : Elem) : Nat := bits e.b 28 0

/-- An element matches a key (05 R111). -/
def elemMatches (e : Elem) (k : FrameKey) : Bool :=
  elemEn e && (elemFmts e).testBit k.fmt.code &&
    (match elemType e with
     | 0 => k.num &&& elemB e == elemA e
     | 1 => decide (elemA e ≤ k.num) && decide (k.num ≤ elemB e)
     | 2 => k.num == elemA e || k.num == elemB e
     | _ => false)

/-- The first element of the list that matches (05 R112): its place and result. -/
def firstElem (f : Flt) (base : Nat) (k : FrameKey) : List Nat → Option (Nat × Nat)
  | [] => none
  | i :: is =>
    let e := f.elems.get ⟨0, 0, 0, 0⟩ (base + i)
    if elemMatches e k then some (i, elemResult e) else firstElem f base k is

/-- A codeword of the table SRAM is uncorrectable (04 R102): address of the codeword within a copy. -/
def MemCtl.badTable (m : MemCtl) (addr : Nat) : Bool := m.bad.contains (.table, addr / 16 * 16)

/-- STD keys go to the direct table, EXT and XL keys to the element list (05 R106, R110). -/
def FrameKey.std (k : FrameKey) : Bool := !k.fmt.isXl && !k.ide

/-- One lookup (05 R110-R112, R117). -/
def lookup (m : MemCtl) (f : Flt) (c : PortCfg) (k : FrameKey) : Found :=
  if FrameKey.std k then
    if bit c.fltCtrl 31 then
      let i := bits c.fltCtrl 28 24 * 2048 + k.num
      if m.badTable (2 * i) then { result := 0, src := 3 } else { result := f.dtable.get 0 i, src := 0 }
    else { result := bits c.fltDefStd 15 0, src := 2 }
  else
    let base := bits c.fltElem 11 0
    let is := nums (bits c.fltElem 31 24)
    if is.any fun i => m.badTable (0x20000 + 16 * (base + i)) then { result := 0, src := 3 }
    else match firstElem f base k is with
      | some (i, r) => { result := r, src := 1, elem := i }
      | none => { result := if k.fmt.isXl then bits c.fltDef 31 16 else bits c.fltDef 15 0, src := 2 }

/-- The port whose settings filter a port's frames: the even port of an enabled pair (10 R241). -/
def State.pairOf (s : State) (p : Nat) : Option Pair :=
  let v := s.pairs.get {} (p / 2)
  if pairEn v.entry then some v else none

def State.owner (s : State) (p : Nat) : Nat := if (s.pairOf p).isSome then p / 2 * 2 else p

/-! ## The copy that a frame's window has (05 R118) -/

/-- The copy before that was in force for a window: of those kept, the oldest that the window comes before (05 R118). -/
def copyBefore (win : Nat) : List (Nat × TableCopy) → Option TableCopy
  | [] => none
  | e :: es => if win < e.1 then some ((copyBefore win es).getD e.2) else none

/-- The copy in force. -/
def State.copyNow (s : State) : TableCopy :=
  { flt := s.flt, cfg := s.ports.map fun (e : Nat × PortS) => (e.1, e.2.cfg)
    routes := s.routes.map fun (e : Nat × Route) => (e.1, e.2.entry, e.2.ext)
    pairs := s.pairs.map fun (e : Nat × Pair) => (e.1, e.2.entry), mode := s.dev.mode, twd := s.twd }

/-- The copy for frames of window number `win`: one before, that of a window which has opened on the port before its local
start, or the one in force (05 R118). -/
def State.copyFor (s : State) (win : Nat) : TableCopy :=
  match copyBefore win s.copiesPrev with
  | some c => c
  | none => if s.dlv.cur < win then s.copyNext.getD s.copyNow else s.copyNow

def TableCopy.port (t : TableCopy) (p : Nat) : PortCfg := t.cfg.get (PortS.init p).cfg p

/-- The pair's entry, while it is enabled. -/
def TableCopy.pairOf (t : TableCopy) (p : Nat) : Option (BitVec 64) :=
  let e := t.pairs.get (Pair.entry {}) (p / 2)
  if pairEn e then some e else none

def TableCopy.owner (t : TableCopy) (p : Nat) : Nat := if (t.pairOf p).isSome then p / 2 * 2 else p

/-- The bad codewords of a copy, at their addresses within it. -/
def MemCtl.within (m : MemCtl) (base : Nat) : MemCtl :=
  { m with bad := m.bad.filterMap fun b =>
      if b.1 = .table && decide (base ≤ b.2) && decide (b.2 < base + 0x40000) then some (MemRegion.table, b.2 - base) else none }

/-- The settings under which a Tweed channel's filter gives results: KIND 1, offset k for slot k (15 R349). -/
def PortCfg.tweed (c : PortCfg) (ch : Nat) : PortCfg := { c with fltCtrl := image [(31, 1), (0, slotBase + 32 * ch)] }

/-- The filter tables and settings that filter a frame of a window on a port (05 R118, 10 R241, 15 R349). -/
def State.filterCopy (s : State) (p : Nat) (win : Nat) : Flt × PortCfg :=
  let t := s.copyFor win
  let q := t.owner p
  match t.channel q with
  | some ch => (t.flt, (t.port q).tweed ch)
  | none => (t.flt, t.port q)

/-- A table codeword that the lookup of a key by a Tweed channel reads is uncorrectable: its direct-table entry, or one of its
elements. Where the channel's own table and elements lie is not stated (log entry 121). -/
def TableCopy.badSlots (t : TableCopy) (m : MemCtl) (ch : Nat) (k : FrameKey) : Bool :=
  if FrameKey.std k then m.badTable (0x1000 * Config.tweedTable ch + 2 * k.num)
  else (nums ((nums 32).filter fun i => (t.twd.tx (32 * ch + i)).receives true).length).any fun i =>
    m.badTable (0x20000 + 16 * (Config.tweedElem ch + i))

/-- The lookup of a frame of a window on a port. An uncorrectable pair entry leaves it unknown whose settings filter the port: the
lookup rejects (04 R102, log entry 122). -/
def State.lookupOn (s : State) (p : Nat) (win : Nat) (k : FrameKey) : Found :=
  let t := s.copyFor win
  let m := s.mem.within t.base
  let (f, c) := s.filterCopy p win
  if m.badTable (0x3E000 + 8 * (p / 2)) then { result := 0, src := 3 }
  else match t.channel (t.owner p) with
  | some ch =>
    let src := if FrameKey.std k then 0 else 1
    if t.badSlots m ch k then { result := 0, src := 3 }
    else (match t.twd.lookup ch k with
     | some i => { result := 16384 + i, src := src, elem := if src = 1 then i else 0 }
     | none => { result := 0, src := 2 })
  | none => lookup m f c k

/-- The object a KIND 1 result names: OBJ_BASE + VALUE (05 R108). -/
def resObject (c : PortCfg) (r : Nat) : Nat := bits c.fltCtrl 13 0 + resValue r

/-- FILTER_RESULT_RELEASE (05 R116): the lookup of the frame in reception is released. -/
def State.filterRelease (s : State) (p : Nat) (k : FrameKey) : State :=
  match (s.port p).stat.rx with
  | none => s
  | some rx =>
    let r := s.lookupOn p rx.sofWin k
    s.setRx p (some { rx with key := some k, result := some r.result, errored := r.src = 3, src := r.src, elem := r.elem })

def execFilterResultRelease (p : Port) (k : FrameKey) (s : State) : Answer := .next (s.filterRelease p.val k)

/-! ## The route list (10 R225, R226) -/

/-- The route entry and extension that a frame of a window sees (05 R118, 10 "Converting a frame"). -/
def State.routeCopy (s : State) (r : Nat) (win : Nat) : BitVec 64 × Word := (s.copyFor win).routes.get (0, 0) r

/-- A route matches a filter result on a port (10 R225). -/
def routeMatches (e : BitVec 64) (p : Nat) (c : PortCfg) (r : Nat) : Bool :=
  rteEn e && (if rteKeyType e = 0 then resKind r = 1 && rteKey e == resObject c r
    else (resKind r = 2 || resKind r = 3) && rteSrc e == p && rteKey e == resValue r)

/-- The match value of a route, by which the index is sorted (10 R226). -/
def routeValue (e : BitVec 64) : Nat := rteKeyType e * 2 ^ 20 + rteSrc e * 2 ^ 14 + rteKey e

/-- The match value that a frame looks up. -/
def resMatch (p : Nat) (c : PortCfg) (r : Nat) : Nat :=
  if resKind r = 1 then resObject c r else 2 ^ 20 + p * 2 ^ 14 + resValue r

/-- The sorted route index: every enabled route with its match value, by match value and then by number; ROUTE_COUNT is its length
(10 R226). -/
def TableCopy.index (t : TableCopy) : List (Nat × Nat) :=
  sortBy (fun (x : Nat × Nat) => x.1 * 4096 + x.2) ((t.routes.filter fun e => rteEn e.2.1).map fun e => (routeValue e.2.1, e.1))

def TableCopy.routeCount (t : TableCopy) : Nat := t.index.length

/-- Codewords that a lookup reads: ROUTE_COUNT, the index entries of the 12 probes and the 16 from the first match on, and the
entries and extensions of the routes named there (10 R226). Which entries the probes read is not stated (log entry 123). -/
def TableCopy.routeReads (t : TableCopy) (v : Nat) : List Nat :=
  let ix := t.index
  let first := (ix.filter fun x => decide (x.1 < v)).length
  let probes := (nums 12).map fun k => Config.routeProbe ix.length first k % 4096
  let rs := ((ix.drop first).take 16).map Prod.snd
  0x3E180 :: ((numsFrom first 16) ++ probes).map (fun i => 0x3C000 + 2 * (i % 4096)) ++
    rs.map (fun r => 0x30000 + 8 * r) ++ rs.map fun r => 0x38000 + 4 * r

/-- The routes a result matches, in ascending number (10 R225, R226); a lookup that reads an uncorrectable codeword matches none
(04 R102). -/
def State.matchingRoutes (s : State) (p : Nat) (win : Nat) (r : Nat) : List Nat :=
  let t := s.copyFor win
  let m := s.mem.within t.base
  let (_, c) := s.filterCopy p win
  let q := t.owner p
  if !m.bad.isEmpty && (t.routeReads (resMatch q c r)).any m.badTable then []
  else (t.routes.filter fun e => routeMatches e.2.1 q c r).map Prod.fst

/-- ROUTE_LIST_RELEASE (10 R226). -/
def State.routeRelease (s : State) (p : Nat) : State :=
  match (s.port p).stat.rx with
  | none => s
  | some rx =>
    match rx.result with
    | none => s
    | some r =>
      let rs := s.matchingRoutes p rx.sofWin r
      s.setRx p (some { rx with routes := rs })

def execRouteListRelease (p : Port) (s : State) : Answer := .next (s.routeRelease p.val)

/-- The counters of 05 at frame validity: ACCEPTED, REJECTED, ERRORED, DEFAULTED, CH_FLT_LAST. -/
def PortCount.filtered (n : PortCount) (rx : RxFrame) : PortCount :=
  let r := rx.result.getD 0
  { n with
    accepted := if resKind r = 0 then n.accepted else n.accepted + 1
    rejected := if resKind r = 0 then n.rejected + 1 else n.rejected
    errored := if rx.src = 3 then incSat n.errored 65535 else n.errored
    defaulted := if rx.src = 2 then incSat n.defaulted 65535 else n.defaulted
    fltLast := image [(30, rx.src), (23, if rx.src = 1 then rx.elem else 0), (0, r)] }

end Sys2Proof.Machine
end

