-- ==== Sys2Proof/Machine/Reset.lean ====
section
/-! DEFINITION. Reset of the frame die (01 R458, 15 R333, R334, 17 R394, R398, 19 R434). -/

namespace Sys2Proof.Machine

/-- The tracker when PD3 is powered: the persistent defaults of 17 R383 when DEFAULTS_VALID is 1, else its reset values;
CYCLE_COUNT 0, PHASE 0, L = PERIOD_NOM; ACQUIRE, or FREE when SRC is 0 (08 R175). -/
def State.defaultCyc (s : State) : CycCfg :=
  if (s.preg 0x3FF).getLsbD 0 then
    let w := s.preg 0x302
    let wc := bits w 6 0
    { src := s.preg 0x300 &&& 0xFFFFFF77#32, period := (s.preg 0x301).toNat, jumpTol := bits w 31 16, winCount := wc,
      starts := (nums wc).map fun i =>
        let v := s.preg (0x303 + i / 2)
        if i % 2 = 0 then bits v 15 0 else bits v 31 16 }
  else {}

/-- The tracker started with settings `c` at the instant `t` (08 R174, R175). -/
def Trk.started (c : CycCfg) (t : Int) : Trk :=
  { cfg := c, state := if bits c.src 2 0 = 0 then .free else .acquire, cycle := 0, start := t,
    len := (c.period : Int) * 65536, pEst := (c.period : Int) * 65536 }

/-- A cursor set to `n` with its mark there (17 R394, R398). -/
def Cursor.startAt (n : Word) (atEnd : Bool) : Cursor := { cursor := n, mark := n, atEnd := atEnd }

/-- The RSEQ or JSEQ after `newest`. -/
def nextOf (newest : Option Word) : Word := match newest with | none => 0 | some n => n + 1

/-- What the keep die holds of a recorder slot: merged counts not committed are lost (17 R391). -/
def RecSlot.durable (v : RecSlot) : RecSlot := { v with r := { v.r with rep := v.r.rep - v.pend }, pend := 0, live := false }

/-- A slot with what it held before. -/
def Tbl.back {α : Type} (t : Tbl α) (k : Nat) : Option α → Tbl α
  | some v => t.put k v
  | none => t.del k

/-- The ring as the keep die holds it when the line writes of a list, oldest first, never begin (17 R381). -/
def undoRecords (jobs : List KeepJob) (ring : Tbl RecSlot) : Tbl RecSlot :=
  jobs.foldr (fun (j : KeepJob) ring => match j.was with | some (.record k old) => ring.back k old | _ => ring) ring

/-- The journal likewise (17 R381). -/
def undoEntries (jobs : List KeepJob) (ring : Tbl JEntry) : Tbl JEntry :=
  jobs.foldr (fun (j : KeepJob) ring => match j.was with | some (.entry k old) => ring.back k old | _ => ring) ring

/-- The greatest entry number of a journal, compared as signed differences (17 R389, R398). -/
def newestEntry : Tbl JEntry → Option Word
  | [] => none
  | (_, e) :: t =>
    match newestEntry t with
    | none => some e.jseq
    | some m => some (if 0 < seqDiff e.jseq m then e.jseq else m)

/-- The journal as the keep die holds it at a frame-die reset, with both hosts' cursors and marks behind its newest entry (17 R381,
R398). -/
def State.journalKept (s : State) : Journal :=
  let ring := undoEntries s.keep.jobsF s.jnl.ring
  let newest := if ring = s.jnl.ring then s.jnl.newest else newestEntry ring
  { ring := ring, newest := newest, cur := .both (Cursor.startAt (nextOf newest) true) }

/-- The filtered states of DI0-DI7 as the power die holds them (19 R430). -/
def Fld.filtered (f : Fld) : BitVec 8 :=
  BitVec.ofNat 8 ((nums 8).foldl (fun v i => v + flag (f.di.get {} i).state * 2 ^ i) 0)

/-- A part after the frame die has lost its SRAM: the images that ran and stood by there are gone, and a standby image that was
verified is staged in NOR (16 R364, log entry 157). Amioc's SRAM is the power die's. -/
def Part.afterWipe (v : Part) : Part :=
  { v with running := 0, cutover := none, sram := none, copy := none, standby := if v.standby = 2 then 1 else v.standby }

/-- The frame die loses its state. The keep die, the power die and Amioc keep theirs; PD3 keeps the tracker, plant time,
the 1 us counter and the retention registers when `pd3` says so (01 R458). Every per-host register, every port, object,
table and counter of the frame die takes its reset value (02 R55, R56; 04 R80; 14 R329). -/
def State.frameWipe (s : State) (pd3 : Bool) : State :=
  { (State.reset) with
    clk := if pd3 then s.clk else { draws := s.clk.draws }
    dev := { mode := s.dev.mode, prevMode := s.dev.prevMode, resetCause := s.dev.resetCause,
             frameResets := s.dev.frameResets }
    run := { diLatch := s.run.diLatch, diDue := s.run.diDue, domains := if pd3 then [3] else [] }
    jnl := s.journalKept
    rcd := { s.rcd with ring := (undoRecords s.keep.jobsF s.rcd.ring).map (fun e => (e.1, e.2.durable)), queue := [], scanned := false, blind := false, cur := .both {} }
    keep := { s.keep with lineLost := false, lostLine := 0, jobsF := [], corrected := 0, uncorrectable := 0, remaps := 0 }
    trk := if pd3 then s.trk else {}
    trk2 := if pd3 then { runEntered := s.trk2.runEntered, acquired := s.trk2.acquired, startDue := s.trk2.startDue,
                          judged := s.trk2.judged, since := s.trk2.since, adopt := s.trk2.adopt,
                          adoptNow := s.trk2.adoptNow, jumped := s.trk2.jumped } else {}
    fw := { parts := s.fw.parts.map (fun e => (e.1, if e.1 = 2 then e.2 else e.2.afterWipe)),
            profiles := s.fw.profiles }
    canvas := s.canvas.areaLost
    pwr := s.pwr
    pwr2 := { s.pwr2 with limitEvents := 0 }
    link := { s.link with stale := true, mirror := [], mailOut := [], mailIn := [], askOut := [] }
    fld := { s.fld with frameDi := if s.link.up then s.fld.filtered else 0, sampled := 0,
                        dos := s.fld.dos.map fun e => (e.1, { e.2 with cmd := false, held := e.2.held && !s.link.up, unlatch := false }) }
    mgt := s.mgt
    kept := if pd3 then s.kept else {}
    out := s.out
    pending := s.pending }

/-- After a clock-monitor reset the tracker enters HOLDOVER with MISSING 0, or stays FREE when SRC is 0 (01 R458). -/
def Trk.afterClockReset (t : Trk) : Trk :=
  if bits t.cfg.src 2 0 = 0 then { t with state := .free } else { t with state := .holdover, missing := 0 }

/-- A frame-die reset with DEV_RESET_CAUSE `cause` (01 R458, 15 R333, R334). PREV_MODE is the mode in force before it,
which PD3 keeps; INSERT when PD3 loses its contents. -/
def State.frameReset (s : State) (cause : Nat) : State :=
  let pd3 := cause != 0
  let s' := s.frameWipe pd3
  { s' with
    dev := { s'.dev with mode := .boot, prevMode := if pd3 then s.dev.mode else .insert, resetCause := cause,
                         frameResets := incSat s.dev.frameResets 65535 }
    run := { s'.run with refFault := cause = 1 || (pd3 && s.run.refFault) }
    trk := if cause = 1 then s'.trk.afterClockReset else s'.trk }

/-- The frame-die reset wire is asserted because the hot-swap machine has left ON: INSERT or LATCHED (18 R408). -/
def State.frameDown (s : State) (m : Mode) : State :=
  let s' := s.frameWipe false
  { s' with dev := { s'.dev with mode := m, prevMode := .insert } }

/-- PGOOD is asserted in RAMP: DI0-DI2 are latched when the pins choose the profile (15 R341), and the frame-die reset
is released into BOOT with cause 0 (15 R333, 18 R407). An earlier PGOOD than 5 ms after the power die's start takes the latch
then (15 R341). -/
def State.releaseBoot (s : State) : State :=
  let s' := s.frameWipe false
  { s' with
    dev := { s'.dev with mode := .boot, prevMode := .insert, resetCause := 0, frameResets := 0 }
    run := { s'.run with diLatch := s.fld.filtered.toNat % 8, diDue := decide (s.fld.samples < 500) } }

end Sys2Proof.Machine
end

