-- ==== Sys2Proof/Machine/Port.lean ====
section
/-! DEFINITION. Ports: operating states, settings, standby groups, Silk PLLs and register images (02, 03, 01 R24). -/

namespace Sys2Proof.Machine

/-! ## Settings -/

def PortCfg.en (c : PortCfg) : Bool := bit c.pc.ctrl 0
def PortCfg.gauze (c : PortCfg) : Bool := bit c.pc.ctrl 1
def PortCfg.peEn (c : PortCfg) : Bool := bit c.pc.ctrl 2
def PortCfg.triple (c : PortCfg) : Bool := bit c.pc.ctrl 3
def PortCfg.loopInt (c : PortCfg) : Bool := bit c.pc.ctrl 4
def PortCfg.loopExt (c : PortCfg) : Bool := bit c.pc.ctrl 5
def PortCfg.physel (c : PortCfg) : Bool := bit c.pc.ctrl 8
def PortCfg.fdEn (c : PortCfg) : Bool := bit c.pc.fmt 0
def PortCfg.xlEn (c : PortCfg) : Bool := bit c.pc.fmt 1
def PortCfg.silkEn (c : PortCfg) : Bool := bit c.pc.fmt 2
def PortCfg.errsig (c : PortCfg) : Bool := bit c.pc.fmt 3

/-- Nominal bit timing (02 R40): NBRP, NTSEG1, NTSEG2, NSJW and N. -/
def nbrp (w : Word) : Nat := bits w 7 0 + 1
def ntseg1 (w : Word) : Nat := bits w 15 8 + 1
def ntseg2 (w : Word) : Nat := bits w 22 16 + 1
def nsjw (w : Word) : Nat := bits w 30 24 + 1
def nqTotal (w : Word) : Nat := 1 + ntseg1 w + ntseg2 w
/-- A nominal bit in protocol clocks of 6.25 ns. -/
def nbitClocks (w : Word) : Nat := nbrp w * nqTotal w

/-- Data-phase bit timing (02 R41). -/
def dbrp (w : Word) : Nat := bits w 4 0 + 1
def dtseg1 (w : Word) : Nat := bits w 13 8 + 1
def dtseg2 (w : Word) : Nat := bits w 20 16 + 1
def dsjw (w : Word) : Nat := bits w 28 24 + 1
def dqTotal (w : Word) : Nat := 1 + dtseg1 w + dtseg2 w
def dbitClocks (w : Word) : Nat := dbrp w * dqTotal w

/-- Triple sampling is honoured (02 R45). -/
def tripleHonoured (c : PortConfigP) : Bool :=
  bit c.ctrl 3 && decide (1280 ≤ nbitClocks c.nbt) && !bit c.fmt 0 && decide (3 ≤ ntseg1 c.nbt)

/-- TDC is in use in data phases (02 R43): the rate is above 1 Mbit/s when a bit is shorter than 160 clocks. -/
def tdcActive (c : PortConfigP) : Bool :=
  bits c.tdc 1 0 = 2 || (bits c.tdc 1 0 = 1 && decide (dbrp c.dbt ≤ 2) && decide (dbitClocks c.dbt < 160))

/-- The settings whose change needs integration: CH_NBT, CH_DBT, CH_TDC, CH_PWM, CH_FMT, PHY_SEL (02 R52). TDCV is no
setting. -/
def timingDiffers (a b : PortConfigP) : Bool :=
  a.nbt != b.nbt || a.dbt != b.dbt || bits a.tdc 14 0 != bits b.tdc 14 0 || a.pwm != b.pwm || a.fmt != b.fmt ||
    bit a.ctrl 8 != bit b.ctrl 8

/-- TRIPLE or PE_EN differ (02 R52). -/
def samplingDiffers (a b : PortConfigP) : Bool := bit a.ctrl 3 != bit b.ctrl 3 || bit a.ctrl 2 != bit b.ctrl 2

/-! ## States -/

/-- A port that is not DISABLED. -/
def PortS.enabled (v : PortS) : Bool := v.stat.state != .disabled

/-- A frame or error frame is in progress (02 R52). -/
def PortS.inFrame (v : PortS) : Bool := v.stat.rx.isSome || v.stat.tx.isSome || v.stat.phase != 0

/-- The port takes part in the bus, no frame is in progress, and the bus is not idle: intermission, or a reactive overload frame
(02 R35). -/
def PortS.between (v : PortS) : Bool :=
  (v.stat.state = .active || v.stat.state = .gauze) && !v.stat.integrating && !v.stat.busIdle && v.stat.rx.isNone &&
    v.stat.tx.isNone

/-- A reactive overload frame is in progress on the port (02 R35, log entry 117). -/
def State.overloading (s : State) (p : Nat) : Bool := (s.port p).between && Config.overload s.clk.ticks p

/-- A frame, error frame or overload frame is in progress on the port now (02 R52). -/
def State.inFrame (s : State) (p : Nat) : Bool := (s.port p).inFrame || s.overloading p

/-- The standby group of an F-port (02 R34). -/
def stbyGroup (p : Nat) : Nat := (p - 16) / 6

/-- The ports of a standby group. -/
def groupPorts (g : Nat) : List Nat := numsFrom (16 + 6 * g) 6

/-- FP_STBY follows the ports of each group (02 R34). -/
def State.refreshStby (s : State) : State :=
  { s with run := { s.run with stby := (nums 8).filter fun g => (groupPorts g).all fun p => !(s.port p).enabled } }

/-- The level of FP_STBY[g]: none while it is high-impedance (02 R33, R34). -/
def State.fpStby (s : State) (g : Nat) : Option Bool :=
  match s.dev.mode with
  | .latched | .insert | .boot | .sleep => none
  | _ => some (s.run.stby.contains g)

/-- A B-port in M-LVDS mode, which a Silk PLL serves. -/
def PortS.mlvds (v : PortS) (p : Nat) : Bool := decide (p < 16) && !v.cfg.physel

/-- The port's Silk PLL has held lock for 1 ms (01 R24). -/
def State.pllHeld (s : State) (p : Nat) : Bool := (if p < 8 then s.run.pll0 else s.run.pll1) = 2

/-- The causes that hold the port in Gauze when it is enabled (07 R161, 16 R371). -/
def State.gauzeCauses (s : State) (p : Nat) (v : PortS) : List Nat :=
  (if v.cfg.gauze then [1] else []) ++ (if v.err.quarantined then [2] else []) ++
    (if v.mlvds p && !s.pllHeld p then [3] else []) ++ (if s.dev.mode = .fault then [4] else []) ++
    (if (s.engines.get {} v.engine).failed then [5] else [])

/-- GAUZE_CAUSE: the lowest code that holds, 0 outside GAUZE (07 R161). -/
def PortS.gauzeCause (v : PortS) : Nat :=
  if v.stat.state = .gauze then v.stat.causes.foldl (fun m c => if m = 0 then c else min m c) 0 else 0

/-- A port leaves INTEGRATING or ends recovery: GAUZE while a cause holds, else ACTIVE (02 R51, 07 R157). -/
def PortS.afterIntegration (v : PortS) : PortState := if v.stat.causes.isEmpty then .active else .gauze

/-- A cause begins to hold: an ACTIVE or PE_WAIT port enters GAUZE, and on the loss of its Silk PLL or in FAULT an INTEGRATING one
too (02 R51, 07 R166); a port that recovers follows later. The integration that PE_WAIT or INTEGRATING stands for is still needed (02 R50). -/
def State.addCause (s : State) (p c : Nat) : State :=
  s.modPort p fun v =>
    let waits := v.stat.state = .peWait || (v.stat.state = .integrating && (c = 3 || c = 4))
    let st := if v.stat.state = .active || waits then .gauze else v.stat.state
    { v with stat := { v.stat with causes := insertNat c v.stat.causes, state := st,
                                   integrating := v.stat.integrating || waits } }

/-- A cause ends: a GAUZE port that no cause holds integrates, and after a Silk PLL's relock any does (02 R50, R51, 07
R161). -/
def State.dropCause (s : State) (p c : Nat) : State :=
  s.modPort p fun v =>
    let cs := v.stat.causes.filter (· != c)
    let st := if v.stat.state = .gauze && cs.isEmpty then .integrating else v.stat.state
    { v with stat := { v.stat with causes := cs, state := st,
                                   integrating := v.stat.integrating || (c = 3 && v.stat.state = .gauze) } }

/-- TS_ACTIVE and TS_IGNORED as settings take effect (02 R45). -/
def State.timingFlags (s : State) (p : Nat) : State :=
  let c := (s.port p).cfg.pc
  let s1 := s.modPort p fun v => { v with stat := { v.stat with tsActive := tripleHonoured c } }
  if bit c.ctrl 3 && !tripleHonoured c then s1.flagCh p 1 else s1

/-- TDC is in use in a data phase (02 R43): always in a CAN XL frame of a Silk port (03 R69), never in a Silk frame (03 R67). -/
def PortS.tdcUse (v : PortS) (f : Fmt) : Bool :=
  match f with
  | .silk => false
  | .xl => v.cfg.silkEn || tdcActive v.cfg.pc
  | _ => tdcActive v.cfg.pc

/-- A frame of the format, and with that BRS, has a data phase (02 R41). -/
def hasDataPhase (f : Fmt) (brs : Bool) : Bool := !(f = .classical || (f = .fd && !brs))

/-- TDC_ACTIVE after a data phase (02, CH_STAT); a frame without one leaves it. -/
def PortS.dataSeen (v : PortS) (f : Fmt) (brs : Bool) : PortS :=
  if !hasDataPhase f brs then v else { v with stat := { v.stat with tdcActive := v.tdcUse f } }

/-- SILK_EN takes effect: calibration starts, ODT is trimmed when ODT_EN is 1, PREEMPH := PE_INIT; or calibration is off
(03 R75). -/
def Silk.enabling (k : Silk) (on was odt : Bool) (peInit : Nat) : Silk :=
  if on && !was then { k with cal := .waitFirst, firstDone := false, queued := false, trimming := odt, preemph := peInit,
                              calLimit := false, next := none, ready := false }
  else if on then k
  else { k with cal := .off, queued := false, trimming := false }

/-- Settings are put in force. -/
def PortS.withSettings (v : PortS) (c : PortConfigP) : PortS :=
  let was := v.enabled && v.cfg.silkEn
  { v with cfg := { v.cfg with pc := c }
           silk := v.silk.enabling (bit c.fmt 2 && bit c.ctrl 0) was (bit v.cfg.silkCtrl 3) v.cfg.peInit
           stat := { v.stat with pend := none } }

/-- PREEMPH has changed by 2 codes or more as SILK_EN took effect: CALIBRATION_DONE (03 R75, R77). -/
def State.preemphMoved (s : State) (p old : Nat) : State :=
  let now := (s.port p).silk.preemph
  if decide (old + 2 ≤ now) || decide (now + 2 ≤ old) then s.raise 168 else s

/-- The port becomes DISABLED: RECOV_SEQ returns to 0, the hold-off time is discarded, calibration is off
(02 R53, 07 R164, 03 R75). -/
def State.disablePort (s : State) (p : Nat) : State :=
  let set := (s.port p).stat.pend.isSome
  let t := (s.modPort p fun v =>
    let w := match v.stat.pend with | some c => v.withSettings c | none => v
    { w with stat := { w.stat with state := .disabled, disable := false, rx := none, tx := none, causes := [], phase := 0,
                                   busIdle := false, stbyWait := false, integrating := false }
             silk := { w.silk with cal := .off, queued := false, trimming := false }
             err := { w.err with recovSeq := 0 }
             mis := { w.mis with suspend := false, lastSender := false } }).refreshStby
  if set then t.timingFlags p else t

/-- Recovery is permitted: RECOVERING with RECOV_SEQ 0 (07 R155). -/
def PortS.startRecovery (v : PortS) : PortS :=
  { v with stat := { v.stat with state := .recovering }, err := { v.err with recovSeq := 0 } }

/-- The policy decides whether a port in BUS_OFF may recover now (07 R154, R155). -/
def PortS.recoveryDue (v : PortS) (now : Nat) : Bool :=
  v.err.quarantined || bits v.cfg.recPolicy 1 0 = 0 ||
    (bits v.cfg.recPolicy 1 0 = 1 && decide (v.err.holdFrom + 1000 * bits v.cfg.recPolicy 31 16 ≤ now))

/-- The port is enabled: INTEGRATING, or BUS_OFF when its error state is bus-off (02 R51, 07 R164). An F-port whose group
stood in standby waits 50 us (02 R34). -/
def State.enablePort (s : State) (p : Nat) (c : PortConfigP) : State :=
  let waits := decide (16 ≤ p) && (s.run.stby.contains (stbyGroup p) ||
    (groupPorts (stbyGroup p)).any fun q => (s.port q).stat.stbyWait)
  let v := (s.port p).withSettings c
  let st : PortStat := { v.stat with state := if v.err.errState = 2 then .busOff else .integrating, stbyWait := waits,
                                     causes := s.gauzeCauses p v, phase := 0, busIdle := false, disable := false }
  let v1 := { v with stat := st, err := { v.err with holdFrom := s.us } }
  let v2 := if v.err.errState = 2 && v1.recoveryDue s.us then v1.startRecovery else v1
  (((s.setPort p v2).timingFlags p).refreshStby).preemphMoved p (s.port p).silk.preemph

/-- The causes of a port whose settings have changed: the Silk PLL holds in Gauze a port in M-LVDS mode alone (07 R161). -/
def State.pllCause (s : State) (p : Nat) (v : PortS) : List Nat :=
  if v.mlvds p && !s.pllHeld p then insertNat 3 v.stat.causes else v.stat.causes.filter (· != 3)

/-- Timing, format or PHY settings are applied: the port integrates with REINTEGRATED set; in BUS_OFF or RECOVERING its
state stays and RECOV_SEQ returns to 0 (02 R51, R52, 07 R170). -/
def State.applyTiming (s : State) (p : Nat) (c : PortConfigP) : State :=
  let w := (s.port p).withSettings c
  let v := { w with stat := { w.stat with causes := s.pllCause p w } }
  let bo := v.stat.state = .busOff || v.stat.state = .recovering
  let v1 := if bo then { v with err := { v.err with recovSeq := 0 } }
            else { v with stat := { v.stat with state := .integrating, phase := 0, busIdle := false } }
  (((s.setPort p v1).timingFlags p).flagCh p 8).preemphMoved p (s.port p).silk.preemph

/-- GAUZE of CH_CTRL takes effect. -/
def State.applyGauze (s : State) (p : Nat) (on : Bool) : State :=
  let was := (s.port p).cfg.gauze
  let s1 := s.modPort p fun v => { v with cfg := { v.cfg with pc := { v.cfg.pc with ctrl := setBit v.cfg.pc.ctrl 1 on } } }
  if on && !was then s1.addCause p 1 else if !on && was then s1.dropCause p 1 else s1

/-- A port command's settings take effect at the table switch (02 R32, R51-R53). A port whose disabling waits for bus idle becomes
DISABLED there all the same, and a PORT_EN = 1 that came meanwhile enables it from there, with a new interface when it names one
(log entry 161). -/
def State.applyPort (s : State) (p : Nat) (c : PortConfigP) : State :=
  let v := s.port p
  let en := bit c.ctrl 0
  if !v.enabled then
    (if en then s.enablePort p c else (s.setPort p (v.withSettings c)).timingFlags p)
  else if v.stat.disable then s.modPort p fun v => { v with stat := { v.stat with pend := some c } }
  else if !en then
    let s1 := s.modPort p fun v => { v with stat := { v.stat with pend := some c, disable := true } }
    if s.inFrame p && v.stat.state != .busOff && v.stat.state != .recovering then s1 else s1.disablePort p
  else
    let s0 := s.modPort p fun v => { v with stat := { v.stat with pend := none } }
    let s1 := s0.applyGauze p (bit c.ctrl 1)
    if timingDiffers v.cfg.pc c then
      (if s.inFrame p then s1.modPort p fun v => { v with stat := { v.stat with pend := some c } } else s1.applyTiming p c)
    else if samplingDiffers v.cfg.pc c && !v.stat.busIdle then
      s1.modPort p fun v => { v with stat := { v.stat with pend := some c } }
    else (s1.modPort p fun v => v.withSettings c).timingFlags p

/-- SILK_RATE or FB_RATE differ: settings that wait for bus idle as timing does (03 R74). -/
def silkTimingDiffers (a b : Word) : Bool := bits a 1 0 != bits b 1 0 || bits a 5 4 != bits b 5 4

/-- A port-silk command's settings take effect (03 R74, 02 R52); a PORT_CONFIG that waits for bus idle waits on. -/
def State.applySilk (s : State) (p : Nat) (ctrl : Word) (peInit : Nat) : State :=
  let v := s.port p
  let s1 := s.modPort p fun v => { v with cfg := { v.cfg with peInit := peInit }, stat := { v.stat with pendSilk := none } }
  if v.enabled && v.cfg.silkEn && silkTimingDiffers v.cfg.silkCtrl ctrl then
    if s.inFrame p then s1.modPort p fun v => { v with stat := { v.stat with pendSilk := some ctrl } }
    else ((s1.modPort p fun v => { v with cfg := { v.cfg with silkCtrl := ctrl } }).applyTiming p v.cfg.pc).modPort p fun w =>
      { w with stat := { w.stat with pend := v.stat.pend } }
  else s1.modPort p fun v => { v with cfg := { v.cfg with silkCtrl := ctrl } }

/-! ## Bus idle -/

/-- BUS_IDLE_SETTINGS_APPLY: settings that wait are applied (02 R52). The 11 recessive bits of an idle bus arm STUCK_DOMINANT
again (07 R168). -/
def State.idleApply (s : State) (p : Nat) : State :=
  let v := s.port p
  let s0 := s.modPort p fun v => { v with stat := { v.stat with phase := 0, busIdle := true }
                                          mis := { v.mis with stuckArmed := true } }
  let s1 := match v.stat.pendSilk with
    | some w => (s0.modPort p fun v => { v with cfg := { v.cfg with silkCtrl := w }, stat := { v.stat with pendSilk := none } })
                  |>.applyTiming p v.cfg.pc
    | none => s0
  match v.stat.pend with
  | none => s1
  | some c =>
    if v.stat.disable then s1
    else if timingDiffers v.cfg.pc c then s1.applyTiming p c
    else (s1.modPort p fun v => v.withSettings c).timingFlags p

/-- Bus idle cannot come while a frame is in progress. -/
def PortS.mayIdle (v : PortS) : Bool := v.enabled && v.stat.rx.isNone && v.stat.tx.isNone

def execBusIdleSettingsApply (p : Port) (s : State) : Answer :=
  answer (if (s.port p.val).mayIdle then s.idleApply p.val else s)

/-- STANDBY_WAKE_ELAPSED (02 R34). -/
def execStandbyWakeElapsed (p : Port) (s : State) : Answer :=
  .next (s.modPort p.val fun v => { v with stat := { v.stat with stbyWait := false } })

/-- INTEGRATION_COMPLETE: 11 recessive bits have been counted (02 R50, R51). A remap ends with it, unless the engine bound has
failed (16 R369, R371). -/
def PortS.integrated (v : PortS) (failed : Bool) : PortS :=
  let st := v.stat
  let cs := if failed then st.causes else st.causes.filter (· != 5)
  let next : PortState := if cs.isEmpty then .active else .gauze
  let st1 := { st with phase := 0, busIdle := true, integrating := false }
  let w := { v with mis := { v.mis with stuckArmed := true }, silk := { v.silk with ready := true } }
  match st.state with
  | .integrating => if st.stbyWait || v.silk.trimming then v else { w with stat := { st1 with causes := cs, state := next } }
  | .peWait => { w with stat := { st1 with causes := cs, state := next } }
  | .active => { w with stat := st1 }
  | .gauze =>
    if st.integrating && (st.stbyWait || v.silk.trimming) then v
    else if st.integrating then { w with stat := { st1 with causes := cs, state := next } }
    else { w with stat := st1 }
  | .disabled | .busOff | .recovering => v

/-- STUCK_DOMINANT: 32 dominant nominal bits (07 R168). -/
def State.stuckDominant (s : State) (p : Nat) : State :=
  let v := s.port p
  if v.enabled && v.mis.stuckArmed then
    ((s.modPort p fun v => { v with mis := { v.mis with stuckArmed := false } }).flagErr p 0x40).event 0x010A p 3 0 0
  else s

def execStuckDominant (p : Port) (s : State) : Answer := .next (s.stuckDominant p.val)

/-! ## Flag clears (02 R55) -/

/-- Clears bits of one host's copy of a flag register. -/
def State.clearFlags (s : State) (h : HostId) (p : Nat) (f : PortFlags → PortFlags) : State :=
  s.modPort p fun v => { v with flags := v.flags.set h (f (v.flags.get h)) }

def execChFlagsClr (h : HostId) (p : Port) (v : Word) (s : State) : Answer :=
  .next (s.posted h (0x10000 + 0x100 * p.val + 0x20) v (s.clearFlags h p.val fun f => { f with ch := f.ch &&& ~~~v }))
def execChSilkFlagsClr (h : HostId) (p : Port) (v : Word) (s : State) : Answer :=
  .next (s.posted h (0x10000 + 0x100 * p.val + 0x90) v (s.clearFlags h p.val fun f => { f with silk := f.silk &&& ~~~v }))
def execChTxFlagsClr (h : HostId) (p : Port) (v : Word) (s : State) : Answer :=
  .next (s.posted h (0x10000 + 0x100 * p.val + 0x68) v (s.clearFlags h p.val fun f => { f with tx := f.tx &&& ~~~v }))
def execChErrFlagsClr (h : HostId) (p : Port) (v : Word) (s : State) : Answer :=
  .next (s.posted h (0x10000 + 0x100 * p.val + 0x4C) v (s.clearFlags h p.val fun f => { f with err := f.err &&& ~~~v }))

/-! ## Silk calibration results (03 R75-R77) -/

/-- ODT_TRIM_DONE: the trim ends with a code; TERM_CODE changing raises CALIBRATION_DONE (03 R75, R77). The new code
applies from the next SOF when a frame is in progress (03 R74). -/
def State.odtDone (s : State) (p code : Nat) : State :=
  let v := s.port p
  if v.silk.trimming then
    let s1 := s.modPort p fun v => { v with silk :=
      if v.inFrame then { v.silk with trimming := false, next := some (code, v.silk.preemph) }
      else { v.silk with trimming := false, termCode := code } }
    if v.silk.termCode = code then s1 else s1.raise 168
  else s

def execOdtTrimDone (p : Port) (termCode : BitVec 6) (s : State) : Answer := answer (s.odtDone p.val termCode.toNat)

/-- CALIBRATION_MEASURED: the data phase of a calibration frame completes (03 R75-R77). `need` is the code the loss asks
for; above 15 it is held at 15 and CAL_LIMIT is set. -/
def State.calMeasured (s : State) (p loss need : Nat) : State :=
  let v := s.port p
  if v.silk.cal = .sending && (match v.stat.tx with | some t => t.src == .calibration | none => false) then
    let pe := min need 15
    let limit := decide (15 < need)
    let diff := if v.silk.preemph ≤ pe then pe - v.silk.preemph else v.silk.preemph - pe
    let s1 := s.modPort p fun v => { v with
      silk := { v.silk with cal := .waitPeriod, queued := false, firstDone := true, lossEst := loss, calLimit := limit,
                            calCycle := s.trk.cycle.toNat % 256, next := some (v.silk.termCode, pe) }
      silkCnt := { v.silkCnt with calDone := incSat v.silkCnt.calDone 65535 } }
    let s2 := if limit then s1.flagSilk p 0x10 else s1
    let flagged := bit v.flags.a.silk 4 && bit v.flags.b.silk 4
    if !v.silk.firstDone || decide (2 ≤ diff) || (limit && !flagged) then s2.raise 168 else s2
  else s

def execCalibrationMeasured (p : Port) (loss : BitVec 8) (preemph : BitVec 8) (s : State) : Answer :=
  answer (s.calMeasured p.val loss.toNat preemph.toNat)

/-- A calibration result applies from the next SOF (03 R74). -/
def PortS.takeCal (v : PortS) : PortS :=
  match v.silk.next with
  | some (c, e) => { v with silk := { v.silk with termCode := c, preemph := e, next := none } }
  | none => v

/-- A calibration frame that did not begin in its window, or ended by an error before its measurement, is skipped (03 R75). -/
def State.calSkip (s : State) (p : Nat) : State :=
  if (s.port p).silk.cal != .sending then s
  else (s.modPort p fun v => { v with
    silk := { v.silk with cal := .waitPeriod, queued := false }
    silkCnt := { v.silkCnt with calSkipped := incSat v.silkCnt.calSkipped 65535 } }).flagSilk p 8

/-! ## Register images (02, 03, 07) -/

/-- The data phase that the frame in progress can have, as CH_STAT.BUS_PHASE codes it; 0 where it has none or its format is
not known yet (02, CH_STAT). -/
def PortS.dataPhase (v : PortS) : Nat :=
  match v.stat.tx, v.stat.rx with
  | some t, _ => if t.silk then 3 else if hasDataPhase t.frame.fmt t.frame.brs then 2 else 0
  | none, some r => (match r.key with
    | some k => if k.fmt = .classical then 0 else if k.fmt = .silk then 3 else 2
    | none => 0)
  | none, none => 0

/-- BUS_PHASE as it reads: no command marks the begin of a data phase, so whether the frame in progress is in it is a free
value, `m` (log entry 31). -/
def PortS.phaseShown (v : PortS) (m : Bool) : Nat := if m && v.dataPhase != 0 then v.dataPhase else v.stat.phase

/-- The format of the frame in progress, as far as it is known. -/
def PortS.fmtNow (v : PortS) : Option Fmt :=
  match v.stat.tx, v.stat.rx with
  | some t, _ => some t.frame.fmt
  | none, some r => r.key.map FrameKey.fmt
  | none, none => none

/-- TDC_ACTIVE as it reads: of the current data phase, else of the last one. -/
def PortS.tdcShown (v : PortS) (m : Bool) : Bool :=
  match v.fmtNow with
  | some f => if m && v.dataPhase != 0 then v.tdcUse f else v.stat.tdcActive
  | none => v.stat.tdcActive

/-- TXD carries PWM symbols: in the data phase of a CAN XL frame that the port sends with CH_FMT.TMS (02 R38). -/
def PortS.pwmShown (v : PortS) (m : Bool) : Bool :=
  bit v.cfg.pc.fmt 4 && v.phaseShown m = 2 && (match v.stat.tx with | some t => t.frame.fmt != .classical && t.frame.fmt != .fd | none => false)

/-- CH_STAT (02); `o` says that an overload frame is in progress. -/
def PortS.chStat (v : PortS) (m o : Bool) : Word :=
  image [(16, v.engine), (11, flag (v.pwmShown m)), (10, flag (!v.enabled)), (8, if o then 1 else v.phaseShown m),
    (7, flag (v.tdcShown m)), (6, flag v.stat.tsActive), (5, flag v.stat.busIdle), (4, flag v.stat.rx.isSome),
    (3, flag v.stat.tx.isSome), (0, v.stat.state.code)]

/-- CH_ERR_LAST (07). -/
def PortErr.lastWord (e : PortErr) : Word :=
  image [(28, e.lastType), (27, flag e.lastTx), (25, e.lastPhase), (0, e.errors)]

/-- Bus-off entries within the last 10 s (07, CH_ERR_STATE.BO_RECENT). -/
def PortErr.recent (e : PortErr) (now : Nat) : Nat := (e.entries.filter fun t => decide (now ≤ t + 10000000)).length

/-- A word of the port's CH_ block, offsets 0x00-0xBF, as host `h` reads it (02 R54). -/
def State.chWord (s : State) (h : HostId) (p o : Nat) : Word :=
  let v := s.port p
  let f := v.flags.get h
  let k := v.silkCnt
  let m := Config.midFrame s.clk.ticks p
  match o / 4 with
  | 0 => v.cfg.pc.ctrl
  | 1 => v.cfg.pc.fmt
  | 2 => v.cfg.pc.nbt
  | 3 => v.cfg.pc.dbt
  | 4 => setBits v.cfg.pc.tdc 31 24 v.stat.tdcv
  | 5 => v.cfg.pc.pwm
  | 6 => v.chStat m.1 (s.overloading p)
  | 7 => f.ch
  | 9 => v.cnt.rxFrames
  | 10 => v.cnt.txFrames
  | 11 => BitVec.ofNat 32 v.cnt.peCount
  | 12 => image [(16, v.err.tec), (0, v.err.recv)]
  | 13 => image [(24, v.err.recovSeq), (16, v.err.quarEvents), (8, v.err.recent s.us), (7, flag v.err.quarantined),
                 (4, v.gauzeCause), (0, v.err.errState)]
  | 14 => v.err.lastWord
  | 15 => v.cfg.recPolicy
  | 16 => image [(16, v.err.busOffs), (0, v.err.dlMissed)]
  | 17 => image [(16, v.cfg.babbleMax), (0, v.err.babbleEvents)]
  | 18 => f.err
  | 20 => BitVec.ofNat 32 v.cfg.guardMax
  | 21 => image [(16, v.tx.hits), (0, v.tx.sentInWin)]
  | 22 => image [(16, v.tx.collEvents), (0, v.tx.collObj)]
  | 23 => image [(16, v.tx.mismatches), (0, v.tx.alone)]
  | 24 => image [(16, v.tx.slotMissed), (0, v.tx.exclFailed)]
  | 25 => f.tx
  | 27 => image [(16, v.tx.leadDiscards), (0, v.tx.singleAgree)]
  | 28 => v.cfg.fenceCfg
  | 29 => image [(30, match v.fence.role with | .follower => 0 | .master => 1 | .standby => 2), (27, v.fence.masterRank),
                 (26, flag v.fence.higherSeen), (25, flag v.fence.openSynth), (16, v.fence.win), (0, v.fence.openPhase)]
  | 30 => image [(16, v.fence.synth), (0, v.fence.late)]
  | 31 => image [(16, v.fence.mismatch), (0, v.fence.dup)]
  | 32 => v.cfg.silkCtrl
  | 33 => image [(24, v.silk.calCycle), (16, v.silk.termCode), (12, v.silk.preemph), (8, v.cfg.peInit), (0, v.silk.lossEst)]
  | 34 => image [(20, v.silk.loopDly), (3, flag v.silk.fallbackActive),
                 (2, flag (v.silk.cal = .sending || v.silk.trimming)),
                 (1, flag (decide (p < 16) && (if p < 8 then s.run.pll0 else s.run.pll1) != 0)), (0, flag (m.2 && v.phaseShown m.1 = 3))]
  | 35 => f.silk
  | 37 => image [(16, k.fallbacks), (0, k.trainFails)]
  | 38 => image [(16, k.intruders), (0, k.peRefusals)]
  | 39 => image [(16, k.calSkipped), (0, k.calDone)]
  | 40 => v.cfg.fltCtrl
  | 41 => v.cfg.fltElem
  | 42 => v.cfg.fltDef
  | 43 => v.cfg.fltDefStd
  | 44 => v.cnt.accepted
  | 45 => v.cnt.rejected
  | 46 => image [(16, v.cnt.errored), (0, v.cnt.defaulted)]
  | 47 => v.cnt.fltLast
  | _ => 0

end Sys2Proof.Machine
end

