-- ==== Sys2Proof/Machine/Object.lean ====
section
/-! DEFINITION. Message memory and objects: headers, buffers, requests, latching, header changes, frame updates and the
BAR2 window (04, 06 R120-R128, R138). -/

namespace Sys2Proof.Machine

/-! ## Header fields -/

def Obj.en (v : Obj) : Bool := bit v.cfg 31
def Obj.send (v : Obj) : Bool := bit v.cfg 30
def Obj.port (v : Obj) : Nat := bits v.cfg 29 24
def Obj.fmt (v : Obj) : Fmt := Fmt.ofCode (bits v.cfg 23 22)
def Obj.ide (v : Obj) : Bool := bit v.cfg 21
def Obj.rtr (v : Obj) : Bool := bit v.cfg 20
def Obj.brs (v : Obj) : Bool := bit v.cfg 19
def Obj.discard (v : Obj) : Bool := bit v.cfg 18
def Obj.single (v : Obj) : Bool := bit v.cfg 17
def Obj.policy (v : Obj) : Nat := bits v.txcfg 31 30
def Obj.collPolicy (v : Obj) : Nat := bits v.txcfg 29 28
def Obj.slotMode (v : Obj) : Nat := bits v.txcfg 27 26
def Obj.slotWin (v : Obj) : Nat := bits v.txcfg 25 20
def Obj.releasePhase (v : Obj) : Nat := bits v.sched 31 16
def Obj.releaseEn (v : Obj) : Bool := bit v.sched 15
def Obj.capacity (v : Obj) : Nat := 64 * v.granCount

/-- An object makes one attempt for each request (06 R133, R135, R142). -/
def Obj.oneShot (v : Obj) : Bool := v.single || v.slotMode = 2 || v.tx.lastTry

/-- An attempt on port `p` is not retried: also when the slot window it began in has closed there (06 R134). -/
def Obj.lastAt (v : Obj) (p : Nat) : Bool := v.oneShot || (v.slotMode = 1 && !v.tx.slot.contains p)

/-- OBJ_STAT (04); UPD lasts only inside an update. -/
def Obj.statWord (v : Obj) : Word :=
  let r := v.req
  image [(28, v.nd.toNat), (25, v.ovw.toNat), (24, flag v.truncated), (23, flag v.faulted), (21, flag r.pend.a),
    (22, flag r.pend.b), (20, flag r.latched), (19, flag r.begun), (18, flag r.done), (17, flag r.fail),
    (16, flag r.cancelled), (15, flag r.reqErr), (14, flag r.paused), (9, r.collRun)]

/-- Header bytes 0x00-0x3D (04, object header layout). -/
def Obj.headerBody (v : Obj) (n : Nat) : List Byte :=
  wordBytes (v.cfg ||| BitVec.ofNat 32 n) ++ wordBytes v.id ++ wordBytes v.xl ++ wordBytes v.af ++
    wordBytes (image [(16, v.granBase), (0, v.granCount)]) ++ wordBytes v.txcfg ++ wordBytes v.sched ++ zeros 4 ++
    wordBytes v.statWord ++ zeros 4 ++ wordBytes (image [(16, v.req.len.b), (0, v.req.len.a)]) ++
    wordBytes (image [(8, v.tx.cycle % 2 ^ 24), (0, v.tx.win)]) ++ wordBytes v.last.fid ++ wordBytes v.last.flen ++
    wordBytes v.last.ftime ++ leBytes 2 v.last.seq.toNat

/-- One bit of the header CRC (04 R82). -/
def crc16Bit (c : BitVec 16) : BitVec 16 := if c.getLsbD 15 then (c <<< 1) ^^^ 0x1021#16 else c <<< 1

def crc16Byte (c : BitVec 16) (b : Byte) : BitVec 16 :=
  crc16Bit (crc16Bit (crc16Bit (crc16Bit (crc16Bit (crc16Bit (crc16Bit (crc16Bit (c ^^^ (b.setWidth 16 <<< 8)))))))))

/-- The header CRC: CRC-16, polynomial 0x1021, initial value all ones, no reflection (04 R82). -/
def crc16 (bs : List Byte) : BitVec 16 := bs.foldl crc16Byte 0xFFFF#16

/-- The 64 header bytes with HCRC. -/
def Obj.header (v : Obj) (n : Nat) : List Byte :=
  let b := v.headerBody n
  b ++ leBytes 2 (crc16 b).toNat

/-! ## The payload pool with its zero marks (04 R79, R83, R86, R102) -/

/-- The message-memory codeword of pool address `a`. -/
def poolWordAddr (a : Nat) : Nat := (0x100000 + a) / 16 * 16

/-- The codeword is uncorrectable. -/
def MemCtl.badMsg (m : MemCtl) (addr : Nat) : Bool := m.bad.contains (.message, addr)

/-- A codeword that is uncorrectable when it is read: one of a marked granule is not read, since the granule reads as zeros
(04 R86, R102). -/
def State.wordBad (s : State) (w : Nat) : Bool :=
  s.mem.badMsg w && !(decide (0x100000 ≤ w) && decide (w < 0x500000) && s.mem.zeroMarks.contains ((w - 0x100000) / 64))

/-- ECC_UNCORRECTABLE: the count of the region, the source and the record with the region and the address (04 R102). -/
def State.eccBad (s : State) (region addr : Nat) : State :=
  let n := (s.mem.uncorrectable.getD region 0 + 1) % 65536
  let s1 := { s with mem := { s.mem with uncorrectable := s.mem.uncorrectable.set region n } }
  (s1.raise 160).event 0x0402 region 3 addr 0

/-- Uncorrectable codewords among `n` bytes of message memory from address `a` on. -/
def MemCtl.badIn (m : MemCtl) (a n : Nat) : List Nat :=
  m.bad.filterMap fun b => if b.1 = .message && decide (a / 16 * 16 ≤ b.2) && decide (b.2 < a + n) then some b.2 else none

/-- `n` bytes of message memory from address `a` on are written: uncorrectable codewords that they cover whole are replaced, and
one they cover in part stays and is reported (04 R102). -/
def State.overwrite (s : State) (a n : Nat) : State :=
  let whole (c : Nat) : Bool := decide (a ≤ c) && decide (c + 16 ≤ a + n)
  let bad := s.mem.badIn a n
  let s1 : State := { s with mem := { s.mem with bad := s.mem.bad.filter fun b => !(bad.contains b.2 && whole b.2 && b.1 == .message) } }
  forAll (fun c s => s.eccBad 0 c) (bad.filter fun c => !whole c) s1

/-- A byte of the pool; a marked granule reads as zeros (04 R86). -/
def State.poolByte (s : State) (a : Nat) : Byte := if s.mem.zeroMarks.contains (a / 64) then 0 else s.pool.read a

/-- `n` bytes of the pool from `a` on. -/
def State.poolBytes (s : State) (a n : Nat) : List Byte := (numsFrom a n).map s.poolByte

/-- The first write into a marked granule writes the whole granule and clears its mark (04 R86); the write of whole codewords
replaces uncorrectable ones (04 R102). -/
def State.unmark (s : State) (g : Nat) : State :=
  if s.mem.zeroMarks.contains g then
    { s with pool := s.pool.zeroN (64 * g) 64
             mem := { s.mem with zeroMarks := s.mem.zeroMarks.filter (· != g)
                                 bad := s.mem.bad.filter fun b => !(b.1 == .message && b.2 / 64 == 0x4000 + g) } }
  else s

/-- Writes of single bytes at pool addresses, carried out codeword by codeword: what covers an uncorrectable codeword only
in part is dropped and reported, what covers it whole replaces it (04 R102, R104). -/
def State.poolPut (s : State) (ws : List (Nat × Byte)) : State :=
  let s0 := forAll (fun w s => s.unmark (w.1 / 64)) ws s
  let whole (c : Nat) : Bool := (ws.filter fun w => poolWordAddr w.1 == c).length == 16
  let hit (b : MemRegion × Nat) : Bool := b.1 == .message && ws.any fun w => poolWordAddr w.1 == b.2
  let lost := (s0.mem.bad.filter fun b => hit b && !whole b.2).map Prod.snd
  let ok := ws.filter fun w => !lost.contains (poolWordAddr w.1)
  let s1 := { s0 with mem := { s0.mem with bad := s0.mem.bad.filter fun b => !(hit b && whole b.2) }
                      pool := ok.foldl (fun m w => m.write w.1 w.2) s0.pool }
  forAll (fun c s => s.eccBad 0 c) lost s1

/-- Bytes at consecutive addresses. -/
def atAddr : Nat → List Byte → List (Nat × Byte)
  | _, [] => []
  | a, b :: bs => (a, b) :: atAddr (a + 1) bs

/-- Some codeword of `n` pool bytes from `a` on is uncorrectable. -/
def State.poolBad (s : State) (a n : Nat) : Bool := (numsFrom a n).any fun x => s.wordBad (poolWordAddr x)

/-- The first of those codewords is reported where a read has met it (04 R102). -/
def State.poolReport (s : State) (a n : Nat) : State :=
  match (numsFrom a n).find? fun x => s.wordBad (poolWordAddr x) with
  | some x => s.eccBad 0 (poolWordAddr x)
  | none => s

/-- First byte of the transmit image, of a receive buffer, and of a host's write buffer (04 R83). -/
def Obj.imageAt (v : Obj) : Nat := 64 * v.granBase
def Obj.bufAt (v : Obj) (h : HostId) : Nat := 64 * (v.granBase + (h.num + 1) * v.granCount)

/-- The granules of an object's buffers. -/
def Obj.granules (v : Obj) : List Nat := numsFrom v.granBase (if v.send then 3 * v.granCount else v.granCount)

/-- Sets the zero marks of granules (04 R86). -/
def State.markGranules (s : State) (gs : List Nat) : State :=
  { s with mem := { s.mem with zeroMarks := gs.foldl (fun l g => insertNat g l) s.mem.zeroMarks } }

/-- BACKGROUND_ZEROING (04 R86). -/
def execBackgroundZeroing (granule : BitVec 16) (s : State) : Answer := .next (s.unmark granule.toNat)

/-! ## Ends of requests -/

/-- The transmit image is free: nothing latched, no medium copy live (06 R121, 10 R242). -/
def Obj.imageFree (v : Obj) : Bool := !v.req.latched && v.tx.media.isEmpty

/-- The request and its copies are over. -/
def Obj.over (v : Obj) : Obj :=
  { v with req := { v.req with latched := false, begun := false, cancel := false, by_host := .both false, copied := false }
           tx := { v.tx with media := [], offered := [], slot := [], lastTry := false, mediaOk := false } }

def Obj.overDone (v : Obj) : Obj := let w := v.over; { w with req := { w.req with done := true } }
def Obj.overFail (v : Obj) : Obj := let w := v.over; { w with req := { w.req with fail := true } }
def Obj.overCancel (v : Obj) : Obj := let w := v.over; { w with req := { w.req with cancelled := true } }

/-- Pending requests dropped. -/
def Obj.unpend (v : Obj) : Obj := { v with req := { v.req with pend := .both false } }

/-- A request of the object is pending or latched. -/
def Obj.busy (v : Obj) : Bool := v.req.pend.a || v.req.pend.b || v.req.latched

/-! ## Deadlines of planned requests (10 R246, R249, 07 R162) -/

/-- The planned Dense entry of an object (10 R246). -/
def State.planned (s : State) (o : Nat) : Option (BitVec 64) :=
  (s.dense.map Prod.snd).find? fun e => denEn e && !denForeign e && denObj e == o

/-- Whether the deadline of a planned request lies before phase `ph` of cycle `c`: RELEASE_PHASE and DEADLINE after the start
of the window it was latched in (10 R246). -/
def State.deadlineBefore (s : State) (o : Nat) (c : Word) (ph : Nat) : Bool :=
  let v := s.obj o
  match s.planned o with
  | some e =>
    decide (v.tx.startPh + (if v.releaseEn then v.releasePhase else 0) + denDeadline e < (c - v.tx.since).toNat * 65536 + ph)
  | none => false

/-- The port is in BUS_OFF or RECOVERING. -/
def State.offBus (s : State) (p : Nat) : Bool := (s.port p).stat.state = .busOff || (s.port p).stat.state = .recovering

/-- A deadline has passed on a port: in BUS_OFF or RECOVERING the request ends at the boundary (07 R162), otherwise it goes on
and the miss is counted (10 R249). -/
def State.missDeadline (s : State) (o p : Nat) : State :=
  if s.offBus p then s.modObj o fun v => { v with tx := { v.tx with lateOn := insertNat p v.tx.lateOn } }
  else (s.modPort p fun v => { v with cnt := { v.cnt with denseMisses := v.cnt.denseMisses + 1 } }).modObj o fun v =>
    { v with tx := { v.tx with missOn := insertNat p v.tx.missOn } }

/-- A planned request that waits on a port and whose deadline there has passed without having been seen to. -/
def State.overdue (s : State) (o p : Nat) : Bool :=
  let v := s.obj o
  s.dev.mode = .dense && v.req.latched && v.slotMode = 0 && v.tx.media.contains p && !v.tx.missOn.contains p &&
    !v.tx.lateOn.contains p && s.deadlineBefore o s.trk.cycle s.phase

def State.checkDeadline (s : State) (o p : Nat) : State := if s.overdue o p then s.missDeadline o p else s

/-- The deadlines of an object's request on its media, before the request ends (10 R249). -/
def State.checkMedia (s : State) (o : Nat) : State := forAll (fun p s => s.checkDeadline o p) (s.obj o).tx.media s

/-- Every deadline that has passed on a port is seen to, before the port enters or leaves bus-off or the request ends. -/
def State.checkDeadlines (s : State) (p : Nat) : State :=
  forAll (fun (e : Nat × Obj) (s : State) => s.checkDeadline e.1 p) s.objs s

/-! ## Header changes (04 R84, R86) -/

/-- The configuration words of a record, as the header stores them; a disabled object holds no granules. -/
def Obj.configured (v : Obj) (r : ObjRecord) (base : Nat) : Obj :=
  let en := bit r.cfg 31
  { v with cfg := r.cfg &&& 0xFFFE0000#32, id := r.id &&& 0x1FFFFFFF#32, xl := r.xl &&& 0xFFFF0001#32, af := r.af,
           txcfg := r.txcfg &&& 0xFFF00000#32, granBase := if en then base else 0,
           granCount := if en then r.granCount.toNat else 0 }

/-- A change of EN, DIR, PORT, FORMAT, IDE, GRAN_BASE or GRAN_COUNT (04 R86). -/
def headerMajor (a b : Obj) : Bool :=
  a.en != b.en || a.send != b.send || a.port != b.port || a.fmt != b.fmt || a.ide != b.ide || a.granBase != b.granBase ||
    a.granCount != b.granCount

/-- Codewords 2 and 3 return to zero; a request that stood ends with TX_CANCELLED (04 R86). -/
def Obj.zeroed (v : Obj) : Obj :=
  let r : ObjReq := {}
  { v with nd := 0, ovw := 0, truncated := false, faulted := false, req := { r with cancelled := v.busy }, tx := {}, last := {} }

/-- The first `n` codewords of an object's header are rewritten: none of them is uncorrectable any more (04 R102). -/
def State.headerWritten (s : State) (o n : Nat) : State :=
  { s with mem := { s.mem with bad := s.mem.bad.filter fun b =>
      !(b.1 == .message && decide (64 * o ≤ b.2) && decide (b.2 < 64 * o + 16 * n)) } }

/-- The held granule of a slot is one of the buffers that a header change zeroes (04 R86, 15 R349). -/
def State.dropHeld (s : State) (o : Nat) : State :=
  if slotBase ≤ o && ((s.twd.slot (o - slotBase)).held).isSome then s.modSlot (o - slotBase) fun x => { x with held := none } else s

/-- A header change is applied (04 R86): it rewrites codewords 0 and 1, and 2 and 3 when it returns them to zero. A request that
it ends and whose deadline has passed counts as missed (10 R249). -/
def State.applyHeader (s0 : State) (o : Nat) (r : ObjRecord) (base : Nat) : State :=
  let w0 := (s0.obj o).configured r base
  if headerMajor (s0.obj o) w0 then
    let s := s0.checkMedia o
    let v := s.obj o
    let w := v.configured r base
    ((((s.setObj o { w.zeroed with req := { w.zeroed.req with cancelled := v.busy } }).headerWritten o 4).markGranules
      w.granules).dropHeld o).resolveSlots
  else (s0.setObj o w0).headerWritten o 2

/-- At the table switch; with the frame begun the change waits for its end (04 R86). -/
def State.switchHeader (s : State) (o : Nat) (r : ObjRecord) (base : Nat) : State :=
  if (s.obj o).req.begun then
    { s with mem := { s.mem with staged := (s.mem.staged.filter fun x => x.1 != o) ++ [(o, r, base)] } }
  else s.applyHeader o r base

/-- The Dense planner's OBJ_SCHED at the table switch, a header change likewise (04 R86). -/
def State.switchSched (s : State) (o : Nat) (w : Word) : State :=
  if (s.obj o).req.begun then
    { s with mem := { s.mem with stagedSched := (s.mem.stagedSched.filter fun x => x.1 != o) ++ [(o, w)] } }
  else s.modObj o fun v => { v with sched := w }

/-- A change of the object's header waits for its frame. -/
def MemCtl.waits (m : MemCtl) (o : Nat) : Bool := (m.staged.any fun x => x.1 == o) || m.stagedSched.any fun x => x.1 == o

/-- The object unit holds what comes for the object meanwhile (04 R86). -/
def State.holdAct (s : State) (o : Nat) (a : HeldAct) : State :=
  { s with mem := { s.mem with held := s.mem.held ++ [(o, a)] } }

/-- The changes that wait for the object's frame are applied. -/
def State.applyStaged (s : State) (o : Nat) : State :=
  if !s.mem.waits o then s
  else
    let m := { s.mem with staged := s.mem.staged.filter fun x => x.1 != o
                          stagedSched := s.mem.stagedSched.filter fun x => x.1 != o }
    let s1 : State := { s with mem := m }
    let s2 := match s.mem.staged.find? fun x => x.1 == o with
      | some (_, r, base) => s1.applyHeader o r base
      | none => s1
    match s.mem.stagedSched.find? fun x => x.1 == o with
    | some (_, w) => s2.modObj o fun v => { v with sched := w }
    | none => s2

/-! ## Latching (06 R120-R127) -/

def State.live (s : State) (h : HostId) : Bool := (s.host h).state = .live

/-- The ports on which a request of the object gets a copy: both media of a pair that are not DISABLED (10 R242). -/
def State.mediaOf (s : State) (v : Obj) : List Nat :=
  match s.pairOf v.port with
  | none => [v.port]
  | some _ =>
    let ps := [v.port / 2 * 2, v.port / 2 * 2 + 1].filter fun p => (s.port p).enabled
    if ps.isEmpty then [v.port] else ps

/-- Outcome bits are cleared at every latching (06 R127). -/
def ObjReq.fresh (r : ObjReq) : ObjReq := { r with done := false, fail := false, cancelled := false }

/-- The bytes of a host's write buffer. -/
def State.writeBuf (s : State) (v : Obj) (h : HostId) (n : Nat) : List Byte := s.poolBytes (v.bufAt h) n

/-- The first byte at which two payloads differ; their common length when one ends first (06 R126). -/
def firstDiff : Nat → List Byte → List Byte → Nat
  | k, x :: xs, y :: ys => if x = y then firstDiff (k + 1) xs ys else k
  | k, _, _ => k

/-- The run of training NAKs of a source's frame. -/
def Silk.nakRun (k : Silk) (src : TxSrc) : NakRun := (k.naks.find? fun r => r.src == src).getD { src := src }

/-- Replaces the run of a source. -/
def Silk.putRun (k : Silk) (r : NakRun) : Silk := { k with naks := r :: k.naks.filter fun x => x.src != r.src }

/-- The source's frame is over: its run ends (03 R68). -/
def Silk.endRun (k : Silk) (src : TxSrc) : Silk := { k with naks := k.naks.filter fun x => x.src != src }

/-- The training NAKs of a source's frame start again at 0 with its next frame (03 R68). -/
def State.forgetNaks (s : State) (src : TxSrc) (ports : List Nat) : State :=
  forAll (fun p s => if (s.port p).silk.naks.any fun r => r.src == src then
      s.modPort p fun v => { v with silk := v.silk.endRun src } else s) ports s

/-- A request of host `h` is latched: its buffer is copied into the transmit image; an uncorrectable buffer ends it with
TX_FAIL (06 R125, 04 R90, R102). `by_` are the hosts that contribute; `atOnce` says that no fence is waited for. -/
def State.latch (s : State) (o : Nat) (h : HostId) (by_ : PerHost Bool) (atOnce : Bool) : State :=
  let v := s.obj o
  let n := v.req.len.get h
  let r := { v.req.fresh with pend := .both false }
  if s.poolBad (v.bufAt h) n then (s.setObj o { v with req := { r with fail := true } }).poolReport (v.bufAt h) n
  else
    let media := s.mediaOf v
    let s1 := (s.poolPut (atAddr v.imageAt (s.writeBuf v h n))).forgetNaks (.obj o) media
    s1.setObj o { v with
      req := { r with latched := true, by_host := by_, copied := false }
      tx := { v.tx with len := n, cycle := s.trk.cycle.toNat % 2 ^ 24, win := s.trk.win, media := media, slot := [],
                        n := if atOnce then 0 else s.dlv.cur, since := s.trk.cycle, startPh := s.trk.cfg.allStarts.getD s.trk.win 0,
                        missOn := [], lateOn := [],
                        offered := if atOnce then media else if s.dev.mode = .dense && v.releaseEn then []
                                   else media.filter fun p => decide (s.dlv.cur ≤ (s.port p).fence.n) } }

/-- A pending request is dropped without a trace (06 R125). -/
def State.dropPend (s : State) (o : Nat) (h : HostId) : State :=
  s.modObj o fun v => { v with req := { v.req with pend := v.req.pend.set h false } }

/-- The AGREE latching with both hosts live (06 R126). -/
def State.latchAgree (s : State) (o : Nat) : State :=
  let v := s.obj o
  if v.req.pend.a && v.req.pend.b then
    let la := v.req.len.a
    let lb := v.req.len.b
    let da := s.writeBuf v .a (min la lb)
    let db := s.writeBuf v .b (min la lb)
    if s.poolBad (v.bufAt .a) la || s.poolBad (v.bufAt .b) lb then
      ((s.setObj o { v.unpend with req := { v.unpend.req.fresh with fail := true } }).poolReport (v.bufAt .a) la).poolReport
        (v.bufAt .b) lb
    else if la = lb && da == db then s.latch o .a (.both true) false
    else
      let k := firstDiff 0 da db
      let p := v.port
      let s1 := s.setObj o { v.unpend with req := { v.unpend.req.fresh with fail := true } }
      let s2 := s1.modPort p fun x => { x with tx := { x.tx with mismatches := incSat x.tx.mismatches 65535 } }
      ((s2.flagTx p 4).portEvent p).event 0x0106 p 3 o k
  else if v.req.pend.a || v.req.pend.b then
    let s1 := s.setObj o { v.unpend with req := { v.unpend.req.fresh with fail := true } }
    (s1.modPort v.port fun x => { x with tx := { x.tx with alone := incSat x.tx.alone 65535 } }).flagTx v.port 8
  else s

/-- A latching with only host `h` live: the other host's request is discarded (06 R125). -/
def State.latchOnly (s : State) (o : Nat) (h : HostId) (atOnce : Bool) : State :=
  let s1 := s.dropPend o h.peer
  let v := s1.obj o
  if v.req.pend.get h then
    let s2 := if v.policy = 2 then s1.modPort v.port fun x => { x with tx := { x.tx with
        singleAgree := incSat x.tx.singleAgree 65535 } } else s1
    s2.latch o h ((PerHost.both false).set h true) atOnce
  else s1

/-- One latching of an object with a free transmit image (06 R125). -/
def State.latchObj (s : State) (o : Nat) (atOnce : Bool) : State :=
  let v := s.obj o
  let lead := s.dev.lead
  if !v.en || !v.send || !v.imageFree || v.faulted then s
  else if s.live .a && s.live .b then
    match v.policy with
    | 2 => s.latchAgree o
    | 1 =>
      let s1 := if v.req.pend.get lead.peer then
          (s.dropPend o lead.peer).modPort v.port fun x => { x with tx := { x.tx with
            leadDiscards := incSat x.tx.leadDiscards 65535 } }
        else s
      if v.req.pend.get lead then s1.latch o lead ((PerHost.both false).set lead true) atOnce else s1
    | _ =>
      if v.req.pend.get lead then s.latch o lead v.req.pend atOnce
      else if v.req.pend.get lead.peer then s.latch o lead.peer v.req.pend atOnce
      else s
  else if s.live .a then s.latchOnly o .a atOnce
  else if s.live .b then s.latchOnly o .b atOnce
  else s

/-- In DIRECT and SERVICE a request is latched as soon as the image is free, but for AGREE objects (06 R120, R121). -/
def State.latchNow (s : State) (o : Nat) : State :=
  if (s.dev.mode = .direct || s.dev.mode = .service) && (s.obj o).policy != 2 then s.latchObj o true else s

/-- Whether the object latches at the boundary that opens window (c, w) (06 R120, 10 R246). -/
def State.latchesAt (s : State) (o : Nat) (c : Word) (w : Nat) : Bool :=
  match s.dev.mode with
  | .grid => true
  | .dense =>
    match s.planned o with
    | some e => (c.toNat * s.trk.cfg.winCount + w) % 2 ^ denPeriod e == denOffset e
    | none => true
  | .direct | .service => (s.obj o).policy = 2
  | _ => false

/-- Requests are latched at a boundary (06 R120, R121, 08 R192 step 4). -/
def State.latchBoundary (s : State) (c : Word) (w : Nat) : State :=
  forAll (fun e s => if s.latchesAt e.1 c w then s.latchObj e.1 false else s) s.objs s

/-- LATCH_COPY_DONE (04 R90, 06 R122). -/
def execLatchCopyDone (obj : BitVec 14) (s : State) : Answer :=
  .next (s.modObj obj.toNat fun v => if v.req.latched then { v with req := { v.req with copied := true } } else v)

/-- What follows the end of a request: a Tweed slot resolves, then a staged header change, then in DIRECT the next request
(15 R352, 04 R86, 06 R121). -/
def State.afterEnd (s : State) (o : Nat) : State :=
  let s1 := s.resolveSlots
  if (s1.obj o).req.begun then s1 else (s1.applyStaged o).latchNow o

/-! ## OBJ_CMD (04 R89, R95, 06 R138) -/

/-- TX_REQ of host `h` (04 R89, 06 R128, 07 R153, 11 R265). What a request to an object that is already FAULTED does is not stated:
DESIGN CHOICE, it ends at once with TX_FAIL as one that stood when the fault was found would, and REQ_ERR is cleared (log entry
173). -/
def State.txRequest (s : State) (h : HostId) (o n : Nat) : State :=
  let v := s.obj o
  let p := s.port v.port
  let boff := v.discard && (p.stat.state = .busOff || p.stat.state = .recovering)
  if !v.en || !v.send then s.violation h 5 1 (o * 0x1000 + 0x24)
  else if s.dev.mode = .hold || !s.live h || boff || decide (v.capacity < n) || !validLen v.fmt n then
    s.setObj o { v with req := { v.req with reqErr := true } }
  else if v.faulted then s.setObj o { v with req := { v.req with reqErr := false, fail := true } }
  else
    (s.setObj o { v with req := { v.req with pend := v.req.pend.set h true, len := v.req.len.set h n,
                                             reqErr := false } }).latchNow o

/-- TX_CANCEL of host `h` (06 R138); a deadline that has passed is counted first (10 R249). -/
def State.txCancelReq (s0 : State) (h : HostId) (o : Nat) : State :=
  let s := s0.checkMedia o
  let v := s.obj o
  let had := v.req.pend.get h
  let mine := v.req.latched && v.req.by_host.get h
  let v1 := { v with req := { v.req with pend := v.req.pend.set h false } }
  if mine && !v.req.begun then (s.setObj o v1.overCancel).afterEnd o
  else if mine then
    let onBus := v.tx.media.filter fun p => match (s.port p).stat.tx with | some t => t.src == .obj o | none => false
    s.setObj o { v1 with req := { v1.req with cancel := true }, tx := { v1.tx with media := onBus } }
  else if had && !v1.busy then s.setObj o { v1 with req := { v1.req with cancelled := true } }
  else s.setObj o v1

/-- A reader's bit of ND and OVERWRITTEN: host A, host B, the processors together (04 R95). -/
def readerBit : Reader → Nat
  | .host h => h.num
  | .processors => 2

/-- A whole OBJ_CMD word written by a reader is carried out; a request is a host's (04 R89, R95). -/
def State.objCmdNow (s : State) (r : Reader) (o : Nat) (w : Word) : State :=
  let k := readerBit r
  let s1 := if bit w 31 then s.modObj o fun v => { v with nd := setBit v.nd k false } else s
  let s2 := if bit w 30 then s1.modObj o fun v => { v with ovw := setBit v.ovw k false } else s1
  match r with
  | .host h => if bit w 28 then s2.txCancelReq h o else if bit w 29 then s2.txRequest h o (bits w 11 0) else s2
  | .processors => s2

/-- A whole OBJ_CMD word written by a reader, held while a header change of the object waits (04 R86). -/
def State.objCmd (s : State) (r : Reader) (o : Nat) (w : Word) : State :=
  if s.mem.waits o then s.holdAct o (.cmd r w) else s.objCmdNow r o w

/-! ## The BAR2 window (04 R91-R93) -/

/-- A byte of a BAR2 write, by its place in the object. -/
inductive Bar2Byte where
  | cmd | payload (addr : Nat) | wrong
deriving DecidableEq, Repr

/-- What a byte of a BAR2 write reaches: OBJ_CMD, the writer's own buffer of a send object, or nothing (04 R91, R92). -/
def Obj.bar2Byte (v : Obj) (h : HostId) (i : Nat) : Bar2Byte :=
  if 0x24 ≤ i && i < 0x28 then .cmd
  else if 0x40 ≤ i && i < 0x40 + v.capacity && v.en && v.send then .payload (v.bufAt h + (i - 0x40))
  else .wrong

/-- The written bytes with their BAR2 addresses. -/
def written : Nat → List (Option Byte) → List (Nat × Byte)
  | _, [] => []
  | a, none :: bs => written (a + 1) bs
  | a, some b :: bs => (a, b) :: written (a + 1) bs

/-- A host write to BAR2 (04 R92): its bytes take effect in ascending address, a whole OBJ_CMD word and then payload bytes (11
R254); anything else counts once as cause 4. -/
def State.bar2Apply (s : State) (h : HostId) (offset : Nat) (bytes : List (Option Byte)) : State :=
  let ws := written offset bytes
  let o := offset / 0x1000
  let v := s.obj o
  let kind (a : Nat) := v.bar2Byte h (a % 0x1000)
  let pay := ws.filterMap fun w => match kind w.1 with | .payload a => some (a, w.2) | _ => none
  let cmd := ws.filter fun w => kind w.1 == .cmd
  let partCmd := !cmd.isEmpty && cmd.length != 4
  let bad := partCmd || ws.any fun w => kind w.1 == .wrong
  let s1 := if cmd.length = 4 then s.objCmd (.host h) o (BitVec.ofNat 32 (leNat (cmd.map Prod.snd))) else s
  let s2 := if pay.isEmpty then s1 else s1.poolPut pay
  if bad then s2.violation h 4 1 offset else s2

/-- A BAR2 access arrives at the endpoint and is served: initialisation is complete, and no write of the host is held before it (04
R80, R94, 11 R255). -/
def State.bar2Now (s : State) (h : HostId) : Bool := s.mem.ready && !(s.host h).writesHeld

/-- A BAR2 write is carried out or held. -/
def State.bar2Posted (s : State) (h : HostId) (offset : Nat) (bytes : List (Option Byte)) : State :=
  if s.bar2Now h then s.bar2Apply h offset bytes else s.hold h (.bar2 offset bytes)

def execBar2Write (h : HostId) (offset : BitVec 26) (bytes : List (Option Byte)) (s : State) : Answer :=
  answer (s.bar2Posted h offset.toNat bytes)

/-- A write of the whole OBJ_CMD word of object `o` by a host. -/
def State.cmdWrite (s : State) (h : HostId) (o : Nat) (w : Word) : State :=
  s.bar2Posted h (o * 0x1000 + 0x24) ((wordBytes w).map some)

/-- A write of the whole OBJ_CMD word by a reader; the processors' goes through no endpoint. -/
def State.readerWrite (s : State) (r : Reader) (o : Nat) (w : Word) : State :=
  match r with
  | .host h => s.cmdWrite h o w
  | .processors => s.objCmd .processors o w

def execNdClr (r : Reader) (obj : BitVec 14) (s : State) : Answer := answer (s.readerWrite r obj.toNat 0x80000000#32)
def execOvwClr (r : Reader) (obj : BitVec 14) (s : State) : Answer := answer (s.readerWrite r obj.toNat 0x40000000#32)
def execTxReq (h : HostId) (obj : BitVec 14) (len : BitVec 12) (s : State) : Answer :=
  answer (s.cmdWrite h obj.toNat (image [(29, 1), (0, len.toNat)]))
def execTxCancel (h : HostId) (obj : BitVec 14) (s : State) : Answer := answer (s.cmdWrite h obj.toNat 0x10000000#32)

/-- A byte that a BAR2 read returns (04 R91, R92). -/
def State.bar2Byte (s : State) (h : HostId) (o i : Nat) : Byte :=
  let v := s.obj o
  if i < 0x40 then (v.header o).getD i 0
  else if v.en && decide (i < 0x40 + v.capacity) then
    s.poolByte ((if v.send then v.bufAt h else v.imageAt) + (i - 0x40))
  else 0

/-- The message-memory codeword a BAR2 byte is read from; none for a byte that reads 0. -/
def State.bar2Word (s : State) (h : HostId) (o i : Nat) : Option Nat :=
  let v := s.obj o
  if i < 0x40 then some (o * 64 + i / 16 * 16)
  else if v.en && decide (i < 0x40 + v.capacity) then
    some (poolWordAddr ((if v.send then v.bufAt h else v.imageAt) + (i - 0x40)))
  else none

/-- An object header is unusable: FAULTED, and what has not begun ends with TX_FAIL; a begun frame is not retried
(04 R102). -/
def State.faultObj (s0 : State) (o : Nat) : State :=
  let s := s0.checkMedia o
  let v := s.obj o
  let w := { v with faulted := true }
  let waits := v.req.pend.a || v.req.pend.b
  if v.req.begun then
    s.setObj o { w.unpend with req := { w.unpend.req with fail := w.req.fail || waits }, tx := { w.tx with lastTry := true } }
  else if v.busy then (s.setObj o w.unpend.overFail).resolveSlots
  else s.setObj o w

/-- A BAR2 read: an uncorrectable codeword poisons the completion, and a header codeword faults the object (04 R102). Of
several the first is reported (log entry 119). -/
def State.bar2Serve (s : State) (h : HostId) (offset len : Nat) : State :=
  let cells := numsFrom offset len
  let bad := cells.filterMap fun a =>
    match s.bar2Word h (a / 0x1000) (a % 0x1000) with
    | some w => if s.wordBad w then some (a, w) else none
    | none => none
  match bad with
  | [] => s.emit (.bar2 h (cells.map fun a => s.bar2Byte h (a / 0x1000) (a % 0x1000)) false)
  | (a, w) :: _ =>
    let s1 := (s.emit (.bar2 h (List.replicate len 0xFF#8) true)).eccBad 0 w
    if a % 0x1000 < 0x40 then s1.faultObj (a / 0x1000) else s1

/-- BAR2_READ is served or held (04 R80, R93, R94). -/
def State.bar2Read (s : State) (h : HostId) (offset len : Nat) : State :=
  if s.bar2Now h then s.bar2Serve h offset len else s.hold h (.bar2Read offset len)

def execBar2Read (h : HostId) (offset : BitVec 26) (len : BitVec 13) (s : State) : Answer :=
  answer (s.bar2Read h offset.toNat len.toNat)

/-- Message memory as its initialisation leaves it: zero data everywhere, every header with its SELF alone (04 R80). -/
def State.initMemory (s : State) : State :=
  { s with objs := [], pool := []
           mem := { s.mem with ready := true, zeroMarks := [], staged := [], stagedSched := [], held := [], bad := s.mem.bad.filter fun b => b.1 != .message
                               lastPass := s.mem.lastPass.filter fun b => b.1 != .message } }

/-! ## Frame updates (04 R87, R88) -/

/-- OBJ_FID and OBJ_FLEN of a frame (04). -/
def fidWord (f : Frame) : Word := image [(30, f.fmt.code), (29, flag f.ide), (0, f.id.toNat)]
def flenWord (f : Frame) : Word :=
  image [(20, f.len.toNat), (19, flag f.brs), (18, flag f.esi), (17, flag f.rtr), (16, flag f.sec),
    (8, if f.fmt.isXl then f.sdt.toNat else 0), (0, if f.fmt.isXl then f.vcid.toNat else 0)]

/-- OBJ_FTIME now (04). -/
def State.ftime (s : State) : Word := image [(16, s.trk.cycle.toNat % 65536), (0, s.phase)]

/-- A receive object is updated from a frame: payload up to the capacity, the frame's description, SEQ, ND and OVERWRITTEN
(04 R87, R88). `ftime` is OBJ_FTIME at frame validity. -/
def State.updateLive (s : State) (o : Nat) (f : Frame) (ftime : Word) : State :=
  let v := s.obj o
  let d := if f.rtr then [] else f.data.take v.capacity
  let s1 := if d.isEmpty then s else s.poolPut (atAddr v.imageAt d)
  s1.setObj o { v with
    nd := 7, ovw := v.ovw ||| v.nd, truncated := !f.rtr && decide (v.capacity < f.data.length)
    last := { fid := fidWord f, flen := flenWord f, ftime := ftime, seq := v.last.seq + 1 } }

/-- RXIE of a slot's channel: the port-traffic source at each update made live (15, TWD_CCTRL). -/
def State.slotTraffic (s : State) (i : Nat) : State :=
  if (s.twd.chan (i / 32)).rxie then s.portTraffic (s.obj (slotBase + i)).port else s

/-- Some host holds the slot's lock. -/
def Slot.locked (x : Slot) : Bool := x.lock.a || x.lock.b

/-- A locked slot keeps the update in its held granule; one that replaces another sets LOST (15 R353). -/
def Slot.hold (x : Slot) (f : Frame) (ftime : Word) : Slot :=
  { x with held := some (f, ftime), lost := if x.held.isSome then .both true else x.lost }

/-- A frame update of an object; of a locked Tweed slot it waits in the held granule (04 R87, 15 R353). -/
def State.updateObj (s : State) (o : Nat) (f : Frame) (ftime : Word) : State :=
  match s.slotOf o with
  | none => s.updateLive o f ftime
  | some i =>
    if (s.twd.slot i).locked then s.modSlot i fun x => x.hold f ftime else (s.updateLive o f ftime).slotTraffic i

/-- An object that a frame of a port updates: an enabled receive object of the port, not faulted (05 R119, 04 R102). -/
def State.updatable (s : State) (o p : Nat) : Bool :=
  let v := s.obj o
  v.en && !v.send && v.port == p && !v.faulted

/-- The update of an object by a frame filtered on port `p`, where the object can be updated (05 R119). -/
def State.updateNow (s : State) (o p : Nat) (f : Frame) (ftime : Word) : State :=
  if s.updatable o p then s.updateObj o f ftime else s

/-- The update, held while a header change of the object waits (04 R86). -/
def State.frameUpdate (s : State) (o p : Nat) (f : Frame) : State :=
  if s.mem.waits o then s.holdAct o (.update p f s.ftime) else s.updateNow o p f s.ftime

end Sys2Proof.Machine
end

