-- ==== Sys2Proof/Machine/Ring.lean ====
section
/-! DEFINITION. Host memory as the part reaches it: rings, the writeback block, host states and the lead (11 R256-R268). -/

namespace Sys2Proof.Machine

/-- SIZE of a ring. -/
def Ring.size (r : Ring) : Nat := 2 ^ r.sizeLog

/-- Used and free space (09 R210). -/
def Ring.used (r : Ring) : Nat := (r.prod - r.cons).toNat
def Ring.free (r : Ring) : Nat := r.size - r.used

/-- The pieces, address and length, in which `n` bytes from address `a` on cross the link: none longer than `cap`, none across a
4 KiB boundary (11 R250, R256). The first argument bounds them. -/
def tlps (cap : Nat) : Nat → Nat → Nat → List (Nat × Nat)
  | 0, _, _ => []
  | m + 1, a, n =>
    if n = 0 then []
    else
      let k := min n (min cap (4096 - a % 4096))
      (a, k) :: tlps cap m (a + k) (n - k)

/-- A write into host memory, as the TLPs that carry it (11 R250, R256). -/
def State.dmaWrite (s : State) (h : HostId) (addr : Nat) (bytes : List Byte) : State :=
  forAll (fun (x : Nat × Nat) (s : State) => s.emit (.write h x.1 ((bytes.drop (x.1 - addr)).take x.2)))
    (tlps (s.host h).pcie.maxPayload bytes.length addr bytes.length) s

/-- A read of host memory, as the requests that ask for it (11 R250, R256). -/
def State.dmaRead (s : State) (h : HostId) (addr n : Nat) : State :=
  forAll (fun (x : Nat × Nat) (s : State) => s.emit (.fetch h x.1 x.2))
    (tlps (min (s.host h).pcie.maxRead 512) n addr n) s

/-- The place of stream position `at_` in a ring, and the bytes from there to the ring's end. -/
def ringPlace (size at_ : Nat) : Nat × Nat :=
  let o := if size = 0 then 0 else at_ % size
  (o, size - o)

/-- Bytes written into a ring from stream position `at_` on; they may span the ring's end (09 R210, R211). -/
def State.ringWrite (s : State) (h : HostId) (base size at_ : Nat) (bytes : List Byte) : State :=
  let (o, k) := ringPlace size at_
  if bytes.length ≤ k then s.dmaWrite h (base + o) bytes
  else (s.dmaWrite h (base + o) (bytes.take k)).dmaWrite h base (bytes.drop k)

/-- Bytes read from a ring from stream position `at_` on (11 R260). -/
def State.ringRead (s : State) (h : HostId) (base size at_ n : Nat) : State :=
  let (o, k) := ringPlace size at_
  if n ≤ k then s.dmaRead h (base + o) n else (s.dmaRead h (base + o) k).dmaRead h base (n - k)

/-- The four words of the writeback block now (11 R263). -/
def State.wbNow (s : State) (h : HostId) : List Word :=
  let x := s.host h
  [x.dring.prod, x.cring.head, x.rring.prod,
   image [(0, x.state.code), (8, (s.host h.peer).state.code), (16, s.dev.lead.num)]]

/-- Writes each word of the block that has changed since it was last written, or all four the first time. -/
def wbWrites (h : HostId) (base : Nat) : Nat → List Word → Option (List Word) → State → State
  | _, [], _, s => s
  | i, w :: ws, last, s =>
    let same := match last with
      | some (l :: _) => l == w
      | _ => false
    let s1 := if same then s else s.emit (.write h (base + 4 * i) (wordBytes w))
    wbWrites h base (i + 1) ws (match last with | some l => some (l.drop 1) | none => none) s1

/-- The writeback block of host `h` follows its words (11 R263). -/
def State.writeback (s : State) (h : HostId) : State :=
  let x := s.host h
  if x.wbEn && x.pcie.dma then
    let now := s.wbNow h
    (wbWrites h x.wbAddr.toNat 0 now x.wbLast s).modHost h fun y => { y with wbLast := some now }
  else s

/-- Both blocks. -/
def State.writebacks (s : State) : State := (s.writeback .a).writeback .b

/-- A batch or an entry is skipped for a host: its gap count, and RING_GAP_A or RING_GAP_B (09 R212, R222). -/
def State.ringGap (s : State) (h : HostId) (batch : Bool) : State :=
  (s.modHost h fun x => { x with gapTotal := incSat x.gapTotal 0xFFFFFFFF,
                                 gapSince := if batch then incSat x.gapSince 0xFFFFFFFF else x.gapSince }).raise
    (141 + h.num)

/-- A new CONS value is refused: not a multiple of `unit`, behind the old one or beyond PROD (09 R213, 11 R262). -/
def Ring.badCons (r : Ring) (unit : Nat) (v : Word) : Bool :=
  v.toNat % unit != 0 || decide (r.used < (v - r.cons).toNat)

/-! ## Host states (11 R264-R266) -/

/-- The ports on which object `o` is on the bus. -/
def State.onBus (s : State) (o : Nat) (media : List Nat) : List Nat :=
  media.filter fun p => match (s.port p).stat.tx with | some t => t.src == .obj o | none => false

/-- Every request of an object that has not begun ends; a begun frame is not retried (06 R128). -/
def State.holdObj (s : State) (o : Nat) (v : Obj) : Obj :=
  let w : Obj := { v with req := { v.req with pend := .both false } }
  if v.req.begun then { w with tx := { w.tx with lastTry := true, media := s.onBus o v.tx.media } }
  else if v.req.latched then
    { w with req := { w.req with latched := false, cancel := false, by_host := .both false, copied := false,
                                 cancelled := true }
             tx := { w.tx with media := [], offered := [], slot := [], lastTry := false, mediaOk := false } }
  else w

/-- Entry into HOLD (06 R128, 15 R344): `lapse` keeps the mode to return to. -/
def State.enterHold (s : State) (lapse : Bool) : State :=
  let from_ := s.dev.mode
  let s0 := forAll (fun (e : Nat × PortS) (s : State) => s.checkDeadlines e.1) s.ports s
  let s1 := ({ s0 with objs := s0.objs.map fun (e : Nat × Obj) => (e.1, s0.holdObj e.1 e.2) } : State).resolveSlots
  let s2 := s1.changeMode .hold
  { s2 with dev := { s2.dev with holdFrom := if lapse then some from_ else none } }

/-- A host becomes LAPSED: LAPSES, PEER_HOST_LOST, its record, and HOLD when its peer is not LIVE (11 R264, R266). -/
def State.lapse (s : State) (h : HostId) : State :=
  let s1 := s.modHost h fun x => { x with state := .lapsed, lapses := incSat x.lapses 255 }
  let s2 := (s1.raise 172).event 0x0302 h.num 3 (s1.host h).lapses 0
  let s3 := if s2.dev.mode.isRun && (s2.host h.peer).state != .live then s2.enterHold true else s2
  s3.writebacks

end Sys2Proof.Machine
end

