-- ==== Sys2Proof/Machine/Timing.lean ====
section
/-! DEFINITION. Lengths of frames and windows, and the budgets computed from them (03 R60, R69, 08 R179, 09 R207, 10 R248).
A duration is a number of units of 1/7200 us: a protocol clock of 6.25 ns is 45 units, 10 ns are 72, and a bit at 150, 300,
450 or 600 Mbit/s is 48, 24, 16 or 12. What the spec does not give of a frame's layout is ISO 11898-1's (log entry 8). -/

namespace Sys2Proof.Machine

/-! ## Bits -/

def nbitU (c : PortCfg) : Nat := 45 * nbitClocks c.pc.nbt
def dbitU (c : PortCfg) : Nat := 45 * dbitClocks c.pc.dbt

/-- A Silk bit (03, SILK_RATE). -/
def silkBitU (c : PortCfg) : Nat :=
  match bits c.silkCtrl 1 0 with | 0 => 48 | 1 => 24 | 2 => 16 | _ => 12

/-- A CAN XL data-phase bit: FB_RATE on a Silk port, else CH_DBT (03 R69). -/
def xlBitU (c : PortCfg) : Nat :=
  if c.silkEn then (match bits c.silkCtrl 5 4 with | 0 => 45 * 32 | 1 => 45 * 16 | _ => 45 * 8) else dbitU c

/-- The data phase of an FD frame is faster than its arbitration. -/
def PortCfg.fast (c : PortCfg) : Bool := decide (dbitClocks c.pc.dbt < nbitClocks c.pc.nbt)

/-! ## Bits of a frame, intermission included, without dynamic stuff bits -/

def classicalBits (ext : Bool) (n : Nat) : Nat := (if ext then 67 else 47) + 8 * n

/-- Arbitration and end of an FD frame. -/
def fdNominalBits (ext : Bool) : Nat := (if ext then 36 else 17) + 13

/-- ESI to CRC with its fixed stuff bits. -/
def fdDataBits (n : Nat) : Nat := if n ≤ 16 then 32 + 8 * n else 37 + 8 * n

/-- SDT to FCRC with the fixed stuff bits (03 R61). -/
def xlCounted (n : Nat) : Nat := (108 + 8 * n) + (108 + 8 * n) / 10

/-- The data phase of a CAN XL frame, and of a Silk frame (03 R60). -/
def xlDataBits (n : Nat) : Nat := xlCounted n + 8
def silkDataBits (n : Nat) : Nat := xlCounted n + 63

/-- The shortest frame of a format with `n` bytes: a base identifier; FD with BRS where its data phase is faster
(09 R207). -/
def durMin (c : PortCfg) (f : Fmt) (n : Nat) : Nat :=
  match f with
  | .classical => nbitU c * classicalBits false n
  | .fd => nbitU c * fdNominalBits false + (if c.fast then dbitU c else nbitU c) * fdDataBits n
  | .xl => nbitU c * 33 + xlBitU c * xlDataBits n
  | .silk => nbitU c * 33 + silkBitU c * silkDataBits n

/-- The longest frame of a format without dynamic stuff bits; FD at the nominal rate throughout (09 R207). -/
def durFull (c : PortCfg) (f : Fmt) : Nat :=
  match f with
  | .classical => nbitU c * classicalBits true 8
  | .fd => nbitU c * (fdNominalBits true + fdDataBits 64)
  | .xl => durMin c .xl 2048
  | .silk => durMin c .silk 2048

/-- The longest duration of a frame, intermission included, with worst-case stuffing (10 R248). -/
def durWorst (c : PortCfg) (f : Fmt) (ext brs : Bool) (n : Nat) : Nat :=
  match f with
  | .classical =>
    let g := if ext then 54 else 34
    nbitU c * (g + 8 * n + 13 + (g + 8 * n - 1) / 4)
  | .fd =>
    let a := if ext then 36 else 17
    let sd := (a + 5 + 8 * n - 1) / 4 - (a - 1) / 4
    nbitU c * (fdNominalBits ext + (a - 1) / 4) + (if brs then dbitU c else nbitU c) * (fdDataBits n + sd)
  | .xl => nbitU c * 37 + xlBitU c * xlDataBits n
  | .silk => nbitU c * 37 + silkBitU c * silkDataBits n

/-- Formats a port has enabled (02, CH_FMT). -/
def PortCfg.formats (c : PortCfg) : List Fmt :=
  [Fmt.classical] ++ (if c.fdEn then [Fmt.fd] else []) ++ (if c.xlEn then [Fmt.xl] else []) ++
    (if c.silkEn then [Fmt.silk] else [])

def PortCfg.hasFmt (c : PortCfg) (f : Fmt) : Bool := c.formats.contains f

/-- The longest fence of a port, intermission included (08 R179, R184). -/
def fenceWorst (c : PortCfg) : Nat :=
  if fenceExt c.fenceCfg then durWorst c .xl false false 16 else durWorst c .classical false false 8

/-! ## Windows at PERIOD_NOM (08 R179) -/

/-- The lengths of the windows in phase units. -/
def windowLens : List Nat → List Nat
  | [] => []
  | [a] => [65536 - a]
  | a :: b :: t => (b - a) :: windowLens (b :: t)

def CycCfg.shortest (y : CycCfg) : Nat := (windowLens y.allStarts).foldl min 65536
def CycCfg.longest (y : CycCfg) : Nat := (windowLens y.allStarts).foldl max 0

/-- A length in phase units at PERIOD_NOM, in units times 65,536. -/
def CycCfg.phaseU (y : CycCfg) (n : Nat) : Nat := n * y.period * 72

/-! ## Budgets (09 R205-R207) -/

/-- T in units times 65,536. -/
def fullT (y : CycCfg) (c : PortCfg) : Nat :=
  y.phaseU y.longest + 65536 * (c.formats.foldl (fun m f => max m (durFull c f)) 0)

/-- The shortest frame with `n` bytes that the port can carry: its duration and the size of its record. -/
def shortestWith (c : PortCfg) (n : Nat) : Option (Nat × Nat) :=
  c.formats.foldl (fun b f =>
    if validLen f n then
      let t := durMin c f n
      match b with
      | none => some (t, recSize f.isXl n)
      | some (u, _) => if t < u then some (t, recSize f.isXl n) else b
    else b) none

/-- Payload lengths to be considered. -/
def PortCfg.lengths (c : PortCfg) : List Nat := if c.xlEn then nums 2049 else if c.fdEn then fdLengths else nums 9

/-- FRAME_BUDGET and BYTE_BUDGET of a port: as given, or full load (09 R205, R207). -/
def PortCfg.budgets (c : PortCfg) (y : CycCfg) : Nat × Nat :=
  if c.budgetMode = 0 then (c.frameBudget, c.byteBudget)
  else
    let t := fullT y c
    c.lengths.foldl (fun b n =>
      match shortestWith c n with
      | none => b
      | some (d, sz) => let k := t / (65536 * d); (max b.1 k, max b.2 (k * sz))) (0, 0)

end Sys2Proof.Machine
end

