-- ==== Sys2Proof/Machine/Delivery.lean ====
section
/-! DEFINITION. Gingham batches and Direct entries (09, 10 R244, R245). -/

namespace Sys2Proof.Machine

/-! ## The windows that are open -/

/-- The delivery of a mode (09 R195). -/
def State.dlvOf (s : State) : Dlv :=
  match s.dev.mode with
  | .grid | .dense => .batch
  | .direct | .service => .direct
  | .hold => (match s.dev.prevMode with | .grid | .dense => .batch | .direct => .direct | _ => .none)
  | _ => .none

/-- The entry of window number `n`. -/
def State.winDlv (s : State) (n : Nat) : Option WinDlv := s.dlv.wins.find? fun x => x.n == n

/-- Changes the entry of window number `n`. -/
def State.modWin (s : State) (n : Nat) (f : WinDlv → WinDlv) : State :=
  { s with dlv := { s.dlv with wins := s.dlv.wins.map fun x => if x.n = n then f x else x } }

def WinDlv.port (x : WinDlv) (p : Nat) : PortWin := x.ports.get {} p
def WinDlv.modPort (x : WinDlv) (p : Nat) (f : PortWin → PortWin) : WinDlv :=
  { x with ports := x.ports.put p (f (x.port p)) }

/-- The entry of window number `n`, (c, w), exists: a port may open it before its local start. -/
def State.ensureWin (s : State) (n : Nat) (c : Word) (w : Nat) : State :=
  match s.winDlv n with
  | some _ => s
  | none =>
    let x : WinDlv := { n := n, started := false, cycle := c, win := w, dlv := s.dlv.inForce, first := false, cfg := false,
                        di := 0 }
    { s with dlv := { s.dlv with wins := s.dlv.wins ++ [x] } }

/-- An enabled send object that can carry a deadline on a port: slot-bound, or of a planned Dense entry (09 R205). -/
def State.hasDeadline (s : State) (o : Nat) : Bool :=
  let v := s.obj o
  v.en && v.send && (v.slotMode = 1 || v.slotMode = 2 || (s.planned o).isSome)

/-- The notice reserve of an enabled port (09 R205); objects of a pair count on both ports. -/
def State.noticeReserve (s : State) (p : Nat) : Nat :=
  1 + (s.objs.filter fun e => s.hasDeadline e.1 && e.2.port == s.owner p).length

/-- The configuration of a port, settings that wait for bus idle included. -/
def PortS.dueCfg (v : PortS) : PortCfg :=
  { v.cfg with pc := v.stat.pend.getD v.cfg.pc, silkCtrl := v.stat.pendSilk.getD v.cfg.silkCtrl }

/-- Settings of a port for a window that starts (09 R205, R215). -/
def State.portWin (s : State) (p : Nat) (x : PortWin) : PortWin :=
  let c := (s.port p).dueCfg
  let b := c.budgets s.trk.cfg
  { x with own := c.ownDlv = 1, frameBudget := b.1, byteBudget := b.2, reserve := s.noticeReserve p }

def State.enabledPorts (s : State) : List Nat := (nums 64).filter fun p => (s.port p).enabled

/-- Ports enabled in the configuration: one whose disabling waits for bus idle has no budget (09 R205). -/
def State.budgetPorts (s : State) : List Nat := s.enabledPorts.filter fun p => !(s.port p).stat.disable

/-- The pairs that are enabled. -/
def State.enabledPairs (s : State) : List Nat := (nums 32).filter fun k => (s.pairOf (2 * k)).isSome

/-- Window number `n`, (c, w), starts locally: the delivery in force, budgets, pairs, DI_STATE (09 R203, R215, R216). -/
def State.startWin (s : State) (n : Nat) (c : Word) (w : Nat) : State :=
  let d := s.dlvOf
  let s1 := s.ensureWin n c w
  let s2 := s1.modWin n fun x =>
    let y := { x with cycle := c, win := w, started := true, dlv := d, first := d = .batch && s.dlv.entered, cfg := s.dlv.took,
                      di := s.fld.sampled.toNat, pairs := s.enabledPairs }
    s.budgetPorts.foldl (fun y p => y.modPort p (s.portWin p)) y
  let ks := if s.dlv.inForce = d then s.dlv.kinds else (n, d) :: s.dlv.kinds
  { s2 with dlv := { s2.dlv with inForce := d, cur := n, kinds := ks, took := false, entered := false } }

/-- The delivery in force at the local start of window number `n`; none while it has not started (09 R216). -/
def State.kindOf (s : State) (n : Nat) : Option Dlv :=
  if s.dlv.cur < n then none
  else some (match s.dlv.kinds.find? fun k => decide (k.1 ≤ n) with | some k => k.2 | none => .none)

/-- A window closed by port `p`, if it comes before number `n`. -/
def WinDlv.closedBy (x : WinDlv) (p n : Nat) (synth : Bool) : WinDlv :=
  if decide (x.n < n) && !(x.port p).closed then
    let y := x.modPort p fun v => { v with closed := true, synth := v.synth || synth }
    { y with tClosed := (nums 64).all fun q => (y.port q).closed }
  else x

/-- A port closes every window before number `n` that it has not closed (09 R198). -/
def State.closeBefore (s : State) (p n : Nat) (synth : Bool) : State :=
  { s with dlv := { s.dlv with wins := s.dlv.wins.map fun (x : WinDlv) => x.closedBy p n synth } }

/-- A window without batch needs no sealing. -/
def State.sweepWins (s : State) : State :=
  { s with dlv := { s.dlv with wins := s.dlv.wins.filter fun x => !(x.tClosed && x.dlv != .batch) } }

/-! ## Copies to the hosts (09 R211, R212) -/

/-- Bytes of a batch in a ring (09 R211). -/
def Batch.span (b : Batch) : Nat := (64 + b.bytes.length + 63) / 64 * 64

/-- The ring a host's copy of a batch goes to. -/
def State.batchRing (s : State) (h : HostId) (b : Batch) : Ring := (b.oldRing.get h).getD (s.host h).dring

/-- The front batch that waits for a host. -/
def State.nextBatch (s : State) (h : HostId) : Option Batch := s.dlv.batches.find? fun b => b.waits.get h

def State.modBatch (s : State) (n : Nat) (f : Batch → Batch) : State :=
  { s with dlv := { s.dlv with batches := s.dlv.batches.map fun b => if b.n = n then f b else b } }

/-- A batch no host waits for is gone. -/
def State.sweepBatches (s : State) : State :=
  { s with dlv := { s.dlv with batches := s.dlv.batches.filter fun b => b.waits.a || b.waits.b } }

/-- A host skips the batch `n` (09 R212). -/
def State.skipBatch (s : State) (h : HostId) (n : Nat) : State :=
  ((s.modBatch n fun b => { b with waits := b.waits.set h false }).ringGap h true).sweepBatches

/-- Bytes up to the next multiple of 64, where a batch begins in a ring that Direct entries have left between (09 R211, log entry
125). -/
def Ring.padNow (r : Ring) : Nat := (64 - r.prod.toNat % 64) % 64

/-- The copies of a host that can start do: the room is checked once, at the start of the copy; what does not fit, and
everything while the link is down, is skipped (09 R211, R212). `k` bounds the batches that wait. -/
def State.startCopies (s : State) (h : HostId) : Nat → State
  | 0 => s
  | k + 1 =>
    match s.nextBatch h with
    | none => s
    | some b =>
      if b.started.get h then s
      else if (s.host h).pcie.dma && decide ((s.batchRing h b).padNow + b.span ≤ (s.batchRing h b).free) then
        s.modBatch b.n fun b => { b with started := b.started.set h true }
      else State.startCopies (s.skipBatch h b.n) h k

def State.startAll (s : State) (h : HostId) : State := s.startCopies h (s.dlv.batches.length + 1)

/-! ## Admission (09 R196, R208, R209, R212) -/

/-- Hosts that still copy the batch of window k when the first frame of window k + 2, number `n`, is admitted skip it
(09 R212); the batch behind it can start. -/
def State.abandonCopies (s : State) (n : Nat) : State :=
  let late (b : Batch) : Bool := b.n + 2 = n
  let hit (h : HostId) : Nat := (s.dlv.batches.filter fun b => late b && b.waits.get h).length
  let s1 := { s with dlv := { s.dlv with batches := s.dlv.batches.filter fun b => !late b } }
  forAll (fun h s => (forAll (fun _ s => s.ringGap h true) (nums (hit h)) s).startAll h) [HostId.a, HostId.b] s1

/-- Admission is open for one more record of `sz` bytes (09 R208, R209). -/
def PortWin.takes (v : PortWin) (sz : Nat) : Bool :=
  v.admitting && decide (v.frames < v.frameBudget) && decide (v.bytes + sz ≤ v.byteBudget)

/-- The half of the pool that a window uses (04 R79, 09 "Budgets"). -/
def halfAt (n : Nat) : Nat := if n % 2 = 0 then 0x500000 else 0x700000

/-- Where a port's region begins in a half (09 R209). -/
def WinDlv.region (x : WinDlv) (p : Nat) : Nat :=
  (x.ports.filter fun e => decide (e.1 < p)).foldl (fun n e => n + e.2.byteBudget + 16 * e.2.reserve) 0

/-- A batch that shares the half with window number `n` is not sealed (09 R209). -/
def State.halfBusy (s : State) (n : Nat) : Bool := s.dlv.wins.any fun y => y.dlv = .batch && decide (y.n + 2 ≤ n)

/-- A selected frame is dropped: admission is closed for the rest of the window on its port (09 R208). -/
def State.dropDelivery (s : State) (p n : Nat) : State :=
  s.modWin n fun y => y.modPort p fun v => { v with admitting := false, dropped := v.dropped + 1 }

/-- A selected frame of window number `n` is admitted, or dropped and closes admission (09 R208, R209). Nothing changes a window
that every port has closed (09 R198). -/
def State.admitFrame (s : State) (p n : Nat) (r : DRec) : State :=
  match s.winDlv n with
  | none => s
  | some x =>
    if x.dlv != .batch || x.tClosed then s
    else
      let v := x.port p
      if v.takes r.size && !s.halfBusy n then
        let s1 := if x.ports.all fun e => e.2.frames = 0 then s.abandonCopies n else s
        (s1.overwrite (halfAt n + x.region p + v.bytes) r.size).modWin n fun y => y.modPort p fun v =>
          { v with recs := v.recs ++ [r], frames := v.frames + 1, bytes := v.bytes + r.size }
      else s.dropDelivery p n

/-- The record of a frame of a window that has not started locally is kept (09 R216, log entry 35). -/
def State.keepEarly (s : State) (n : Nat) (e : EarlyRec) : State := s.modWin n fun x => { x with early := x.early ++ [e] }

/-- A deadline notice is put into a window (09 R202) that is not closed on every port (09 R198). -/
def State.noteDeadline (s : State) (p n o : Nat) : State :=
  s.modWin n fun y => if y.tClosed then y else y.modPort p fun v => { v with notices := insertNat o v.notices }

/-! ## Sealing (09 R198-R204, 10 R244) -/

/-- Two records match but for SEQ, PORT and FLAGS (10 R244). -/
def DRec.sameAs (a b : DRec) : Bool :=
  a.fmt == b.fmt && a.id == b.id && a.len == b.len && a.target == b.target && a.sdt == b.sdt && a.vcid == b.vcid &&
    a.af == b.af && a.data == b.data

/-- A merged record: the pair's even port, and the MEDIA bits (10 R244). -/
def DRec.merged (r : DRec) (p media : Nat) : DRec := { r with port := p, flags := r.flags + media }

/-- The merge of 10 R244, with the counts of both, even only and odd only. -/
def mergePair (p : Nat) : List DRec → List DRec → List DRec
  | [], os => os.map fun r => r.merged p 8
  | e :: es, os =>
    match os.findIdx? fun r => e.sameAs r with
    | some i => ((os.take i).map fun r => r.merged p 8) ++ e.merged p 12 :: mergePair p es (os.drop (i + 1))
    | none => e.merged p 4 :: mergePair p es os

/-- A port's notices (09 R199, R202). -/
def PortWin.noticeRecs (v : PortWin) (p : Nat) : List DRec :=
  v.notices.map (deadlineNotice p) ++ (if v.dropped = 0 then [] else [overflowNotice p v.dropped])

/-- Bytes of records numbered from `k` on (09 R199). -/
def recsBytes (k : Nat) : List DRec → List Byte
  | [] => []
  | r :: rs => r.bytes k ++ recsBytes (k + 1) rs

/-- Zeros where a byte, numbered from `i` on, is lost. -/
def zeroBad (lost : Nat → Bool) : Nat → List Byte → List Byte
  | _, [] => []
  | i, b :: bs => (if lost i then 0 else b) :: zeroBad lost (i + 1) bs

/-- A record of which the bytes that `lost` names lie in uncorrectable codewords (04 R102): a header met so keeps what the index
outside the pool holds; extension and payload codewords are zeros; MEM_ERR is set. A header that lies in two codewords of which one is
lost counts as lost (DESIGN CHOICE, log entry 168). -/
def DRec.readWith (lost : Nat → Bool) (r : DRec) : DRec :=
  if !(nums r.size).any lost then r
  else
    let r1 := if (nums 16).any lost then { r with id := 0, target := 0, sdt := 0, vcid := 0, fmt := r.fmt % 4 } else r
    let ext := if r.isXl then 8 else 0
    { r1 with flags := r1.flags ||| 2, af := if ext = 8 && lost 16 then 0 else r1.af, data := zeroBad lost (16 + ext) r.data }

/-- A record read at address `a`. -/
def DRec.readAt (m : MemCtl) (r : DRec) (a : Nat) : DRec :=
  if (m.badIn a r.size).isEmpty then r else r.readWith fun i => m.badMsg ((a + i) / 16 * 16)

/-- Records read one after another from address `a` on. -/
def readRecs (m : MemCtl) : Nat → List DRec → List DRec
  | _, [] => []
  | a, r :: rs => r.readAt m a :: readRecs m (a + r.size) rs

/-- A port's frame records as they are read out for window `x`. -/
def WinDlv.recsOf (x : WinDlv) (m : MemCtl) (p : Nat) : List DRec :=
  readRecs m (halfAt x.n + x.region p) (x.port p).recs

/-- The record bytes of a port, or of a pair at its even port (09 R199, 10 R244). -/
def State.portBytes (s : State) (x : WinDlv) (p : Nat) : List Byte :=
  let own := x.recsOf s.mem p
  if !x.pairs.contains (p / 2) then recsBytes 0 (own ++ (x.port p).noticeRecs p)
  else if p % 2 = 1 then []
  else
    recsBytes 0 (mergePair p own (x.recsOf s.mem (p + 1)) ++ (x.port p).noticeRecs p) ++
      recsBytes 0 ((x.port (p + 1)).noticeRecs (p + 1))

/-- The records of a port in the batch, counted. -/
def State.portRecords (s : State) (x : WinDlv) (p : Nat) : Nat :=
  if !x.pairs.contains (p / 2) then (x.port p).recs.length
  else if p % 2 = 1 then 0
  else (mergePair p (x.recsOf s.mem p) (x.recsOf s.mem (p + 1))).length

/-- A mask of the ports of a window. -/
def WinDlv.maskOf (x : WinDlv) (f : PortWin → Bool) : BitVec 64 :=
  x.ports.foldl (fun m e => if f e.2 then m ||| BitVec.ofNat 64 (2 ^ e.1) else m) 0

/-- Every port's part of a batch in the pool. -/
def WinDlv.spans (x : WinDlv) : List (Nat × Nat) :=
  (x.ports.filter fun e => decide (0 < e.2.bytes)).map fun e => (halfAt x.n + x.region e.1, e.2.bytes)

/-- The batch of a window (09 R203, R204). -/
def State.batchOf (s : State) (x : WinDlv) : Batch :=
  let bytes := (nums 64).foldl (fun b p => b ++ s.portBytes x p) []
  let memErr := x.spans.any fun sp => !(s.mem.badIn sp.1 sp.2).isEmpty
  let notices := x.ports.foldl (fun n e => n + (e.2.noticeRecs e.1).length) 0
  let recs := (nums 64).foldl (fun n p => n + s.portRecords x p) 0
  { n := x.n, cycle := x.cycle, win := x.win, hflags := flag memErr + 2 * flag x.cfg + 4 * flag x.first, di := x.di,
    records := recs + notices, synth := x.maskOf PortWin.synth, overflow := x.maskOf fun v => decide (0 < v.dropped),
    dropped := x.ports.foldl (fun n e => n + e.2.dropped) 0, notices := notices, bytes := bytes,
    digest := if bytes.isEmpty then 0 else crc32c bytes,
    waits := ⟨(s.host .a).dring.en, (s.host .b).dring.en⟩, spans := x.spans }

/-- The 64 header bytes of a host's copy (09 R203). -/
def Batch.header (b : Batch) (h : HostId) (gap : Nat) : List Byte :=
  let hd := leBytes 2 1 ++ leBytes 1 h.num ++ leBytes 1 b.hflags ++ leBytes 4 b.cycle.toNat ++ leBytes 1 b.win ++
    leBytes 1 b.di ++ zeros 2 ++ leBytes 4 b.records ++ leBytes 4 b.bytes.length ++ leBytes 4 gap ++
    leBytes 8 b.synth.toNat ++ leBytes 8 b.overflow.toNat ++ leBytes 4 b.dropped ++ leBytes 2 b.notices ++ zeros 2 ++
    zeros 8 ++ wordBytes b.digest
  hd ++ wordBytes (crc32c hd)

/-- Per-port consequences of dropped frames: the drop counter and the record (09 R208). -/
def State.reportDrops (s : State) (x : WinDlv) : State :=
  forAll (fun e s =>
    if e.2.dropped = 0 then s
    else (s.modPort e.1 fun v => { v with cnt := { v.cnt with dlvDrops := v.cnt.dlvDrops + BitVec.ofNat 32 e.2.dropped } }).event
      0x010D e.1 2 e.2.dropped (x.cycle.toNat % 2 ^ 24 * 256 + x.win)) x.ports s

/-- Uncorrectable codewords met at sealing are reported and their check bytes written back (04 R102). -/
def State.healSpans (s : State) (spans : List (Nat × Nat)) : State :=
  let bad := spans.foldl (fun l sp => l ++ s.mem.badIn sp.1 sp.2) []
  forAll (fun a s => ({ s with mem := { s.mem with bad := s.mem.bad.filter fun b => b != (MemRegion.message, a) } }).eccBad 0 a)
    bad s

/-- The merge counters of each pair (13, PAIR_STATUS). -/
def State.countMerges (s : State) (x : WinDlv) : State :=
  forAll (fun k s =>
    let v := s.pairs.get {} k
    let ms := mergePair (2 * k) (x.recsOf s.mem (2 * k)) (x.recsOf s.mem (2 * k + 1))
    let count (m : Nat) : Word := BitVec.ofNat 32 (ms.filter fun r => r.flags / 4 % 4 == m).length
    { s with pairs := s.pairs.put k { v with both := v.both + count 3, even := v.even + count 1, odd := v.odd + count 2 } })
    x.pairs s

/-- BATCH_SEAL: the oldest window is sealed at T_close + 20 us (09 R198). -/
def State.batchSeal (s : State) : State :=
  match s.sweepWins.dlv.wins with
  | [] => s
  | x :: rest =>
    if x.tClosed && x.started then
      let b := s.batchOf x
      let s1 := ((s.sweepWins.reportDrops x).countMerges x).healSpans x.spans
      let bs := s1.dlv.batches ++ (if b.waits.a || b.waits.b then [b] else [])
      let s2 := { s1 with dlv := { s1.dlv with wins := rest, batches := bs } }
      (s2.startAll .a).startAll .b
    else s

def execBatchSeal (s : State) : Answer := answer s.batchSeal

/-- PROD of an old ring, kept with the batches that still go to it. -/
def Batch.oldProd (b : Batch) (h : HostId) (v : Word) : Batch :=
  match b.oldRing.get h with
  | some q => { b with oldRing := b.oldRing.set h (some { q with prod := v }) }
  | none => b

/-- A host's copy is written: records, header, PROD (09 R211, 11 R257). -/
def State.writeBatch (s : State) (h : HostId) (b : Batch) : State :=
  let r := s.batchRing h b
  let gap := (s.host h).gapSince
  let at_ := r.prod.toNat + r.padNow
  let prod := BitVec.ofNat 32 (at_ + b.span)
  let s1 := s.ringWrite h r.base.toNat r.size (at_ + 64) (b.bytes ++ zeros (b.span - 64 - b.bytes.length))
  let s2 := s1.ringWrite h r.base.toNat r.size at_ (b.header h gap)
  let dn := s2.modHost h fun x => { x with gapSince := 0 }
  match b.oldRing.get h with
  | some _ =>
    { dn with dlv := { dn.dlv with batches := dn.dlv.batches.map fun y => y.oldProd h prod } }
  | none => (dn.modHost h fun x => { x with dring := { x.dring with prod := prod } }).writeback h

/-- BATCH_COPY_DONE (09 R211). -/
def State.batchCopyDone (s : State) (h : HostId) : State :=
  match s.nextBatch h with
  | none => s
  | some b =>
    if !b.started.get h then s
    else
      let bad := b.spans.foldl (fun l sp => l ++ s.mem.badIn sp.1 sp.2) []
      if !(s.host h).pcie.dma || !bad.isEmpty then ((forAll (fun a s => s.eccBad 0 a) bad s).skipBatch h b.n).startAll h
      else
      let s1 := s.writeBatch h b
      (((s1.modBatch b.n fun b => { b with waits := b.waits.set h false }).sweepBatches).raise (129 + h.num)).startAll h

def execBatchCopyDone (h : HostId) (s : State) : Answer := answer (s.batchCopyDone h)

/-- DRING_CONS (09 R213, 11 R253). -/
def State.dringCons (s : State) (h : HostId) (v : Word) : State :=
  let r := (s.host h).dring
  if !r.en then s.violation h 8 0 0x1030
  else if r.badCons 64 v then s.violation h 6 0 0x1030
  else s.modHost h fun x => { x with dring := { x.dring with cons := v } }

def execDringCons (h : HostId) (v : Word) (s : State) : Answer := .next (s.posted h 0x1030 v (s.dringCons h v))

/-! ## Direct entries (09 R220-R223) -/

/-- The bytes of an entry: prefix and record (09 R220). -/
def DEntry.bytes (e : DEntry) : List Byte := e.pre ++ e.r.bytes e.seq

/-- Bytes of the entries that wait. -/
def State.directBytes (s : State) : Nat := s.dlv.direct.foldl (fun n e => n + e.bytes.length) 0

/-- Entries that wait for no host any more leave the pool, and raise the port-traffic sources of their ports: what they bring to a
host's memory has been issued by then (09 R222, R223, 11 R257, log entry 164). -/
def State.sweepDirect (s : State) : State :=
  let gone := s.dlv.direct.filter fun (e : DEntry) => !(e.waits.a || e.waits.b)
  let s1 := { s with dlv := { s.dlv with direct := s.dlv.direct.filter fun (e : DEntry) => e.waits.a || e.waits.b } }
  forAll (fun (e : DEntry) (s : State) => s.portTraffic e.port) gone s1

/-- The oldest waiting entry is skipped for the hosts it waits for (09 R222). -/
def State.skipOldest (s : State) : State :=
  match s.dlv.direct with
  | [] => s
  | e :: es =>
    let s1 := { s with dlv := { s.dlv with direct := { e with waits := .both false } :: es } }
    forAll (fun h s => if e.waits.get h then s.ringGap h false else s) [HostId.a, HostId.b] s1.sweepDirect

/-- Room is made in the pool; `k` bounds the entries skipped. -/
def State.roomDirect (s : State) (n : Nat) : Nat → State
  | 0 => s
  | k + 1 => if s.directBytes + n ≤ 0x400000 then s else State.roomDirect s.skipOldest n k

/-- The prefix of an entry whose record has `n` bytes, with PHASE and TIME (09 R220). -/
def entryPrefix (dseq : Word) (n phase : Nat) (time : BitVec 64) : List Byte :=
  wordBytes dseq ++ leBytes 2 (16 + n) ++ leBytes 2 phase ++ leBytes 8 time.toNat

/-- Where `n` bytes from place `at_` of the queue of 4 MiB lie in message memory (09 R222). -/
def directSpans (at_ n : Nat) : List (Nat × Nat) :=
  if at_ + n ≤ 0x400000 then [(0x500000 + at_, n)]
  else [(0x500000 + at_, 0x400000 - at_), (0x500000, at_ + n - 0x400000)]

/-- A notice goes into the port's C16 chain; a full chain loses it and shows OVERRUN (09 R223, 12 R287, R289, log
entry 7). -/
def State.directNotice (s : State) (p : Nat) : State :=
  let q := s.dlv.notices.get [] p
  let w := Config.noticeWord s.clk.draws
  let s1 := { s with clk := { s.clk with draws := s.clk.draws + 1 } }
  if 8 ≤ q.length then { s1 with dlv := { s1.dlv with noticeOver := insertNat p s1.dlv.noticeOver } }
  else { s1 with dlv := { s1.dlv with notices := s1.dlv.notices.put p (q ++ [[setBits w.1 31 28 1, w.2]]) } }

/-- A Direct entry is formed and written into the pool, with the notice (09 R220-R223). One that no host takes raises its source
now. -/
def State.formDirect (s : State) (p : Nat) (r : DRec) (phase : Nat) (time : BitVec 64) : State :=
  let k := s.dlv.seqs.get 0 p
  let e : DEntry := { dseq := s.dlv.dseq, port := p, at_ := s.dlv.pos, pre := entryPrefix s.dlv.dseq r.size phase time, seq := k,
                      r := r, waits := ⟨(s.host .a).dring.en, (s.host .b).dring.en⟩ }
  let n := e.bytes.length
  let s0 := (s.roomDirect n s.dlv.direct.length).directNotice p
  let s1 := forAll (fun sp s => s.overwrite sp.1 sp.2) (directSpans e.at_ n) s0
  { s1 with dlv := { s1.dlv with
      dseq := s.dlv.dseq + 1, seqs := s1.dlv.seqs.put p ((k + 1) % 65536), pos := (s.dlv.pos + n) % 0x400000
      direct := s1.dlv.direct ++ [e] } }.sweepDirect

/-- Byte `i` of an entry lies in an uncorrectable codeword. -/
def DEntry.lost (m : MemCtl) (e : DEntry) (i : Nat) : Bool := m.badMsg ((0x500000 + (e.at_ + i) % 0x400000) / 16 * 16)

/-- A waiting entry read with codewords met uncorrectable: they are zeros, and the record is read as in a batch (04 R102,
09 R220). -/
def DEntry.readOut (m : MemCtl) (e : DEntry) : DEntry :=
  if (directSpans e.at_ e.bytes.length).all fun sp => (m.badIn sp.1 sp.2).isEmpty then e
  else { e with pre := zeroBad (e.lost m) 0 e.pre
                r := let r := e.r.readWith fun i => e.lost m (16 + i); { r with flags := r.flags ||| 2 } }

/-- The copy of a batch to the host's ring has started and is not complete: its room is not free (09 R211, 11 R256). -/
def State.copyingTo (s : State) (h : HostId) : Bool :=
  s.dlv.batches.any fun b => b.waits.get h && b.started.get h && (b.oldRing.get h).isNone

/-- DIRECT_ENTRY_DELIVER: the oldest entry that waits for the host is written, or skipped (09 R222, R223); behind a batch whose copy is
in progress it waits (11 R256, R257). It goes to the ring the host has by then: with none configured it is skipped, as one that does
not fit (DESIGN CHOICE, log entry 169). -/
def State.directDeliver (s : State) (h : HostId) : State :=
  if s.copyingTo h then s
  else match s.dlv.direct.find? fun e => e.waits.get h with
  | none => s
  | some e0 =>
    let e := e0.readOut s.mem
    let r := (s.host h).dring
    let s0 := s.healSpans (directSpans e.at_ e.bytes.length)
    let s1 := { s0 with dlv := { s0.dlv with direct := s0.dlv.direct.map fun (x : DEntry) =>
        if x.dseq = e.dseq then { e with waits := e.waits.set h false } else x } }
    let s2 := if (s.host h).pcie.dma && r.en && decide (e.bytes.length ≤ r.free) then
        ((s1.ringWrite h r.base.toNat r.size r.prod.toNat e.bytes).modHost h fun x =>
          { x with dring := { x.dring with prod := r.prod + BitVec.ofNat 32 e.bytes.length } }).writeback h
      else s1.ringGap h false
    s2.sweepDirect

def execDirectEntryDeliver (h : HostId) (s : State) : Answer := answer (s.directDeliver h)

end Sys2Proof.Machine
end

