-- ==== Sys2Proof/Machine/Route.lean ====
section
/-! DEFINITION. Gateway routes: conversion, the route queues, drops, and the copies of a head for the media of a pair
(10 R224-R242). -/

namespace Sys2Proof.Machine

/-! ## Access -/

def State.route (s : State) (r : Nat) : Route := s.routes.get {} r
def State.modRoute (s : State) (r : Nat) (f : Route → Route) : State :=
  { s with routes := s.routes.put r (f (s.route r)) }

def Route.dst (v : Route) : Nat := rteDst v.entry

/-- Cells held by a route. -/
def Route.cells (v : Route) : Nat := v.queue.foldl (fun n e => n + e.cells.length) 0

/-- Cells of a queued frame of `n` bytes (10 R233). -/
def cellsOf (n : Nat) : Nat := 1 + (n - 32 + 63) / 64

/-! ## Conversion (10 R228-R232) -/

/-- Why a frame is not queued. -/
inductive RouteDrop where
  | xlate | tooLong | hop
deriving DecidableEq, Repr

/-- The output identifier and IDE (10 R228). -/
def convertId (e : BitVec 64) (f : Frame) : Option (BitVec 29 × Bool) :=
  let xl := (rteFmt e).isXl
  match rteIdMode e with
  | 0 => if f.ide && xl then none else some (f.id, f.ide)
  | 1 => some (BitVec.ofNat 29 (rteNewId e), rteIde e)
  | _ =>
    if f.ide && xl then none
    else some (BitVec.ofNat 29 ((f.id.toNat + rteNewId e) % (if f.ide then 2 ^ 29 else 2 ^ 11)), f.ide)

/-- The AF of an XL or Silk output; none when the hop limit is reached (10 R232). -/
def convertAf (x : Word) (f : Frame) : Option Word :=
  let h := if f.fmt.isXl then bits f.af 31 29 else 0
  if extHop x = 0 then some (if f.fmt.isXl then f.af else image [(0, f.id.toNat)])
  else if extHop x ≤ h then none
  else some (image [(29, h + 1), (0, f.id.toNat)])

/-- An output payload: FD is padded to a valid length, XL and Silk carry at least one byte (10 R229). -/
def padOut (fmt : Fmt) (d : List Byte) : List Byte :=
  match fmt with
  | .classical => d
  | .fd => d ++ zeros (fdPad d.length - d.length)
  | .xl | .silk => if d.isEmpty then [0] else d

/-- An input that is too long for the route's output (10 R229). -/
def tooLong (e : BitVec 64) (x : Word) (n : Nat) : Bool :=
  match extLenMode x with
  | 0 => decide ((rteFmt e).maxLen < n)
  | 2 => decide ((rteFmt e).maxLen < 7 + n)
  | _ => false

/-- A frame of an output form with a payload. -/
def Frame.withData (f : Frame) (d : List Byte) : Frame := { f with len := BitVec.ofNat 12 d.length, data := d }

/-- The output frame of a route's fields (10 R228, R229, R232). -/
def convert (e : BitVec 64) (x : Word) (f : Frame) : Except RouteDrop Frame :=
  let fmt := rteFmt e
  match convertId e f with
  | none => .error .xlate
  | some (id, ide) =>
    if tooLong e x f.data.length then .error .tooLong
    else
      let base : Frame := { Frame.plain fmt id [] with ide := ide, brs := fmt = .fd && extBrs x }
      if fmt.isXl then
        match convertAf x f with
        | none => .error .hop
        | some af => .ok (Frame.withData { base with sdt := extSdt x, vcid := extVcid x, af := af } (padOut fmt f.data))
      else .ok (Frame.withData base (padOut fmt f.data))

/-! ## Output frames (10 R229-R231) -/

/-- Pieces of a split frame of `n` bytes. -/
def pieces (fmt : Fmt) (n : Nat) : Nat := max 1 ((n + fmt.maxLen - 2) / (fmt.maxLen - 1))

/-- Piece `k` of a split entry (10 R229, R230). -/
def REntry.piece (e : REntry) (k : Nat) : Frame :=
  let m := e.outp.fmt.maxLen - 1
  let n := pieces e.outp.fmt e.inp.data.length
  let hd : Byte := BitVec.ofNat 8 (128 * flag (k = 0) + 64 * flag (k + 1 = n) + k % 64)
  Frame.withData e.outp (padOut e.outp.fmt (hd :: (e.inp.data.drop (k * m)).take m))

/-- One entry of a packed frame (10 R231). -/
def REntry.packBytes (e : REntry) : List Byte :=
  leBytes 4 (e.inp.id.toNat + 2 ^ 29 * flag e.inp.ide + 2 ^ 30 * e.inp.fmt.code) ++ leBytes 2 e.inp.data.length ++ e.inp.data

/-- The packed frame of a group. Identifier, IDE, AF and BRS are those of the head entry's conversion: 10 R231 does not say whose
(DESIGN CHOICE, log entry 170). -/
def packFrame : List REntry → Option Frame
  | [] => none
  | e :: es =>
    let body := (e :: es).foldl (fun b x => b ++ x.packBytes) [BitVec.ofNat 8 (es.length + 1)]
    some (Frame.withData e.outp (padOut e.outp.fmt body))

/-- How many entries a group takes: candidates in queue order, at most `n`, within `room` bytes (10 R231). -/
def packCount (ok : REntry → Bool) : Nat → Nat → List REntry → Nat
  | 0, _, _ => 0
  | _, _, [] => 0
  | n + 1, room, e :: es =>
    if ok e && decide (6 + e.inp.data.length ≤ room) then 1 + packCount ok n (room - (6 + e.inp.data.length)) es else 0

/-! ## Candidacy (10 R237, R238, R242) -/

/-- The mode that decides a route entry's candidacy: HOLD counts as the mode it was entered from. -/
def State.routeMode (s : State) : Mode := if s.dev.mode = .hold then s.dev.prevMode else s.dev.mode

/-- An entry is a candidate on a port (10 R237). -/
def State.entryReady (s : State) (p : Nat) (e : REntry) : Bool :=
  match s.routeMode with
  | .grid | .dense => decide (e.win < (s.port p).fence.n)
  | .direct | .service | .tweed => true
  | .config => s.dev.mode = .hold
  | _ => false

/-- The ports on which a route's head is sent: its target, or the ports of the target's pair that are not DISABLED
(10 R242). -/
def State.routeMedia (s : State) (r : Nat) : List Nat :=
  let d := (s.route r).dst
  match s.pairOf d with
  | none => [d]
  | some _ => [d / 2 * 2, d / 2 * 2 + 1].filter fun p => (s.port p).enabled

/-- Entries of the head group on a port: the fixed group, or one formed now, by the PACK_N in force now (DESIGN CHOICE, log entry 170);
0 when the head is no candidate. -/
def State.headGroup (s : State) (p r : Nat) : Nat :=
  let v := s.route r
  match v.queue with
  | [] => 0
  | e :: _ =>
    if !s.entryReady p e then 0
    else if v.fixed ≠ 0 then v.fixed
    else if extLenMode v.ext = 2 then packCount (s.entryReady p) (extPackN v.ext) (e.outp.fmt.maxLen - 1) v.queue
    else 1

/-- The output frame that a route makes of its first entries, as queued: a piece, a packed group of `n`, or the whole (10
R229-R231). -/
def Route.outFrame (v : Route) (n : Nat) : Option Frame :=
  match v.queue with
  | [] => none
  | e :: _ =>
    match extLenMode v.ext with
    | 1 => some (e.piece v.head)
    | 2 => packFrame (v.queue.take n)
    | _ => some e.outp

/-- The frame a route offers on a port, how many entries it carries, and whether it is a copy whose entry has gone. A
route that is to be flushed offers nothing new. -/
def State.routeOffer (s : State) (p r : Nat) : Option (Frame × Nat × Bool) :=
  let v := s.route r
  match v.trail.find? fun t => t.1 == p with
  | some t => some (t.2, 0, true)
  | none =>
    if v.flushDue || !(s.routeMedia r).contains p || v.begun.contains p then none
    else
      let n := s.headGroup p r
      if n = 0 then none else (v.outFrame n).map fun f => (f, n, false)

/-- The entries of the pack group that a choice of the route forms on a port (10 R231). -/
def State.groupNow (s : State) (p r : Nat) : List REntry := (s.route r).queue.take (s.headGroup p r)

/-- What a staged route sends: the pack group formed at the choice, if its entries still head the queue; else what it offers. -/
def State.stagedOffer (s : State) (p r : Nat) : Option (Frame × Nat × Bool) :=
  match s.routeOffer p r with
  | none => none
  | some (f, n, trail) =>
    let v := s.route r
    let g := (s.port p).tx.group
    if trail || extLenMode v.ext != 2 || v.fixed != 0 then some (f, n, trail)
    else if v.queue.take g.length != g then none
    else (packFrame g).map fun x => (x, g.length, false)

/-! ## Drops and flushes -/

/-- Entries of the queue that may not be dropped: begun, in a split, or in a fixed group (10 R235). -/
def Route.held (v : Route) : Nat :=
  if v.fixed ≠ 0 then v.fixed else if v.begun.isEmpty && v.head = 0 then 0 else 1

/-- One entry of route `r` is dropped (10 R235). -/
def State.countDrop (s : State) (r : Nat) : State :=
  let d := (s.route r).dst
  let s1 := s.modRoute r fun v => { v with drops := incSat v.drops 65535 }
  let s2 := s1.modPort d fun x => { x with cnt := { x.cnt with routeDrops := x.cnt.routeDrops + 1 } }
  s2.event 0x010E d 2 r (s1.route r).drops

/-- Removes the entry at place `i`. -/
def Route.without (v : Route) (i : Nat) : Route := { v with queue := v.queue.take i ++ v.queue.drop (i + 1) }

/-- The oldest entry that may go is dropped (10 R235); with the head goes its count of training NAKs (03 R68). -/
def State.dropOldest (s : State) (r : Nat) : State :=
  let i := (s.route r).held
  let s1 := (s.modRoute r fun v => v.without i).countDrop r
  if i = 0 then s1.forgetNaks (.route r) (nums 16) else s1

/-- OTHER_DROPS (10 R233): the three causes and the flushes, summed. -/
def Route.otherDrops (v : Route) : Nat := min 65535 (v.tooLong + v.xlate + v.hop + v.flushed)

/-- The queue is flushed (10 R240); `split` says that it is split. A begun frame, whose entries head the queue, goes when it
ends. -/
def Route.flush (v : Route) (split : Bool) : Route :=
  if v.begun.isEmpty then
    { v with flushed := min 65535 (v.flushed + v.queue.length), queue := [], head := 0, fixed := 0, flushDue := false }
  else
    { v with flushed := min 65535 (v.flushed + (v.queue.length - v.held)), queue := v.queue.take v.held, flushDue := true,
             flushSplit := split }

/-- A change that flushes the queue: disabled, or another DST_PORT, DST_FMT or LEN_MODE (10 R240). -/
def flushes (a b : BitVec 64 × Word) : Bool :=
  rteEn a.1 && (!rteEn b.1 || rteDst a.1 != rteDst b.1 || rteFmt a.1 != rteFmt b.1 || extLenMode a.2 != extLenMode b.2)

/-- A route's entry and extension change at the table switch; a begun frame first completes or fails (10 R240). -/
def State.setRoute (s : State) (r : Nat) (e : BitVec 64) (x : Word) : State :=
  let was := s.route r
  let s1 := s.modRoute r fun v =>
    let w := { v with entry := e, ext := x }
    if flushes (v.entry, v.ext) (e, x) then
      (if v.flushDue then { w with flushed := min 65535 (v.flushed + (v.queue.length - v.held)), queue := v.queue.take v.held }
       else w.flush (extLenMode v.ext = 1))
    else w
  if flushes (was.entry, was.ext) (e, x) then s1.forgetNaks (.route r) (nums 16) else s1

/-- The head of a route whose first cell is uncorrectable is dropped before it is offered (04 R102). -/
def State.badHead (s : State) (r : Nat) : Bool :=
  match (s.route r).queue with
  | e :: _ => (match e.cells with | c :: _ => !(s.mem.badIn (0x912000 + 64 * c) 64).isEmpty | [] => false)
  | [] => false

/-! ## Enqueue (10 R234-R236) -/

/-- Cells in use for a target port. -/
def State.cellsInUse (s : State) (d : Nat) : Nat :=
  s.routes.foldl (fun n e => if e.2.dst = d then n + e.2.cells else n) 0

/-- Every cell held by some entry. -/
def State.usedCells (s : State) : List Nat :=
  s.routes.foldl (fun l e => e.2.queue.foldl (fun l q => l ++ q.cells) l) []

/-- `n` free cells; which of them is not stated (10 R233, log entry 6). -/
def pickCells (free : List Nat) (draw : Nat) : Nat → List Nat
  | 0 => []
  | n + 1 =>
    match free[Config.cellPick draw % free.length]? with
    | none => []
    | some c => c :: pickCells (free.filter (· != c)) (draw + 1) n

/-- The arriving entry fits its port's cell quota. -/
def State.fits (s : State) (d n : Nat) : Bool := decide (s.cellsInUse d + n ≤ (s.port d).cfg.quota)

/-- A drop-oldest route drops its oldest droppable entries until the frame fits (10 R235); `k` bounds the drops. -/
def State.dropToFit (s : State) (r n : Nat) : Nat → State
  | 0 => s
  | k + 1 =>
    let v := s.route r
    if s.fits v.dst n || v.queue.length ≤ v.held then s
    else State.dropToFit (s.dropOldest r) r n k

/-- The entry is put at the end of the queue, its cells written whole (04 R102). -/
def State.appendEntry (s : State) (r : Nat) (f out : Frame) (win : Nat) : State :=
  let n := cellsOf f.data.length
  let used := s.usedCells
  let cs := pickCells ((nums 2944).filter fun c => !used.contains c) s.clk.draws n
  let s1 : State := { s with clk := { s.clk with draws := s.clk.draws + n } }
  (forAll (fun c s => s.overwrite (0x912000 + 64 * c) 64) cs s1).modRoute r fun v => { v with queue := v.queue ++ [{ inp := f, outp := out, cells := cs, win := win }] }

/-- The drop tests of 10 R235, in order. -/
def State.admitEntry (s : State) (r : Nat) (newest : Bool) (f out : Frame) (win : Nat) : State :=
  let d := (s.route r).dst
  let n := cellsOf f.data.length
  if !(s.port d).enabled then s.countDrop r
  else
    let full := decide (16 ≤ (s.route r).queue.length)
    if full && (newest || decide ((s.route r).queue.length ≤ (s.route r).held)) then s.countDrop r
    else
      let s1 := if full then s.dropOldest r else s
      let s2 := if newest then s1 else s1.dropToFit r n 16
      if s2.fits d n then s2.appendEntry r f out win else s2.countDrop r

/-- A frame of window number `win` is converted and enqueued on one matching route (10 R234, R235, R240); `copy` is the window whose
copy has filtered it, which for a fence is the one before (05 R118). Where the port's cell quota cannot be read, the route does not
match (04 R102). -/
def State.enqueueOn (s : State) (r : Nat) (f : Frame) (win copy : Nat) : State :=
  let was := s.routeCopy r copy
  let v := s.route r
  if (copyBefore copy s.copiesPrev).isSome && flushes was (v.entry, v.ext) then s.modRoute r fun v => { v with flushed := incSat v.flushed 65535 }
  else if (s.mem.within 0).badTable (0x3E100 + 2 * v.dst) then s
  else
    match convert was.1 was.2 f with
    | .error .xlate => s.modRoute r fun v => { v with xlate := incSat v.xlate 65535 }
    | .error .tooLong => s.modRoute r fun v => { v with tooLong := incSat v.tooLong 65535 }
    | .error .hop => s.modRoute r fun v => { v with hop := incSat v.hop 65535 }
    | .ok out => s.admitEntry r (rteDropNewest was.1) f out win

/-- ROUTE_ENQUEUE: the oldest valid frame of the port that waits is enqueued on its routes in ascending number
(10 R234). -/
def State.routeEnqueue (s : State) (p : Nat) : State :=
  match (s.port p).tx.toRoute with
  | [] => s
  | rx :: rest =>
    let s1 := s.modPort p fun v => { v with tx := { v.tx with toRoute := rest } }
    match rx.frame with
    | none => s1
    | some f => forAll (fun r s => s.enqueueOn r f rx.ownWin rx.sofWin) rx.routes s1

def execRouteEnqueue (p : Port) (s : State) : Answer := .next (s.routeEnqueue p.val)

/-! ## Ends of a route's attempts (10 R238, R240, R242) -/

/-- The begun frame of a flushed queue has failed: its entries go, counted as flushed (10 R240). -/
def Route.flushIfDue (v : Route) : Route :=
  if v.flushDue && v.begun.isEmpty then
    let n := max 1 v.fixed
    { v with flushed := min 65535 (v.flushed + min n v.queue.length), queue := v.queue.drop n, head := 0, fixed := 0,
             flushDue := false }
  else v

/-- An attempt of a route begins on a port: its pack group is fixed. -/
def State.routeBegin (s : State) (p r n : Nat) (trail : Bool) : State :=
  if trail then s
  else s.modRoute r fun v => { v with begun := insertNat p v.begun, fixed := if extLenMode v.ext = 2 then n else v.fixed }

/-- An attempt ends without completing: it is retried, or goes with a flushed queue (10 R240), and its count of training NAKs with it
(03 R68). -/
def State.routeRetry (s : State) (p r : Nat) (trail : Bool) : State :=
  if trail then s
  else
    let s1 := s.modRoute r fun v => { v with begun := v.begun.filter (· != p) }.flushIfDue
    if (s.route r).flushDue && !(s1.route r).flushDue then s1.forgetNaks (.route r) (nums 16) else s1

/-- The copies of the other media that go on after a completion on port `p` (10 R242): those begun are in their own
attempts; those not begun are withdrawn on a port in BUS_OFF, RECOVERING or GAUZE. -/
def State.trailAfter (s : State) (r p : Nat) (f : Frame) : List (Nat × Frame) :=
  ((s.routeMedia r).filter fun q => q != p && (((s.route r).begun.contains q) ||
    !((s.port q).stat.state = .busOff || (s.port q).stat.state = .recovering || (s.port q).stat.state = .gauze))).map
      fun q => (q, f)

/-- The other medium's attempt in progress becomes a trailing copy. -/
def State.markTrailing (s : State) (r : Nat) (qs : List Nat) : State :=
  forAll (fun q s => match (s.port q).stat.tx with
    | some t => if t.src = .route r then s.setTx q (some { t with trail := true }) else s
    | none => s) qs s

/-- What completes of a queue whose first `n` entries were sent: they leave it, or the head goes on with its next piece; of a
flushed split the rest is not sent (10 R229, R238, R240). -/
def Route.sent (v : Route) (n : Nat) : Route :=
  let lastPiece := match v.queue with
    | e :: _ => decide (pieces e.outp.fmt e.inp.data.length ≤ v.head + 1)
    | [] => true
  let w := { v with forwarded := v.forwarded + 1, begun := [] }
  let gone : Route := { w with queue := v.queue.drop n, head := 0, fixed := 0, flushDue := false }
  if v.flushDue then { gone with flushed := if v.flushSplit && !lastPiece then incSat v.flushed 65535 else v.flushed }
  else if extLenMode v.ext = 1 && !lastPiece then { w with head := v.head + 1 }
  else gone

/-- An output frame of a route completes on a port: FORWARDED counts it once, at its first completion, and the entry or the piece is
done (10 R238, R242). The other
medium's copy is the frame as it was made, not as it may have fallen back (03 R68); of a flushed queue only a copy in progress goes
on. -/
def State.routeDone (s : State) (p r n : Nat) (f : Frame) (trail : Bool) : State :=
  if trail then s.modRoute r fun v => { v with trail := v.trail.eraseP fun t => t.1 == p }
  else
    let v := s.route r
    let tr := if v.flushDue then [] else s.trailAfter r p ((v.outFrame n).getD f)
    (s.markTrailing r (v.begun.filter (· != p))).modRoute r fun v => { v.sent n with trail := v.trail ++ tr }

/-- An attempt ended by an uncorrectable cell: the entry, or the whole pack group, is dropped and counted (04 R102). The other
medium's copy in progress ends there. -/
def State.routeBad (s : State) (p r n : Nat) (trail : Bool) : State :=
  if trail then (s.modRoute r fun v => { v with trail := v.trail.eraseP fun t => t.1 == p }).forgetNaks (.route r) [p]
  else
    let s1 := (s.markTrailing r ((s.route r).begun.filter (· != p))).modRoute r fun v =>
      { v with queue := v.queue.drop n, head := 0, fixed := 0, begun := [], flushDue := false }
    (forAll (fun _ s => s.countDrop r) (nums n) s1).forgetNaks (.route r) (nums 16)

/-- Keeps of a port's trailing copies only the first. -/
def firstTrail (p : Nat) : List (Nat × Frame) → List (Nat × Frame)
  | [] => []
  | t :: ts => if t.1 = p then t :: ts.filter (fun u => u.1 != p) else t :: firstTrail p ts

/-- The trailing copies for a port that are not on the bus are withdrawn (10 R242), and with them their counts of training NAKs
(03 R68). -/
def State.withdrawTrails (s : State) (p : Nat) : State :=
  let onBus : Option Nat := match (s.port p).stat.tx with
    | some t => (match t.src with | .route r => if t.trail then some r else none | _ => none)
    | none => none
  let gone := (s.routes.filter fun e => onBus != some e.1 && e.2.trail.any fun t => t.1 == p).map Prod.fst
  let s1 := { s with routes := s.routes.map fun e =>
      (e.1, { e.2 with trail := if onBus = some e.1 then firstTrail p e.2.trail else e.2.trail.filter fun t => t.1 != p }) }
  forAll (fun r (s : State) => s.forgetNaks (.route r) [p]) gone s1

/-! ## Images -/

/-- A split is in progress: some piece of the head has completed, or the first of several is in an attempt (10 RTE_QCB). -/
def Route.splitting (v : Route) : Bool :=
  v.head != 0 || (!v.begun.isEmpty && (if v.flushDue then v.flushSplit else extLenMode v.ext = 1) &&
    (match v.queue with | e :: _ => decide (1 < pieces e.outp.fmt e.inp.data.length) | [] => false))

/-- The 16 bytes of a route's queue control block (10 RTE_QCB). -/
def Route.qcb (v : Route) : List Byte :=
  let first (e : Option REntry) : Nat := match e with | some x => x.cells.headD 0xFFFF | none => 0xFFFF
  leBytes 2 (first v.queue.head?) ++ leBytes 2 (first v.queue.getLast?) ++ leBytes 1 v.queue.length ++
    leBytes 1 (flag (!v.begun.isEmpty) + 2 * flag v.splitting) ++ leBytes 2 v.drops ++ leBytes 4 v.forwarded ++
    leBytes 2 v.otherDrops ++ leBytes 2 v.cells

end Sys2Proof.Machine
end

