-- ==== Sys2Proof/Machine/SlotActs.lean ====
section
/-! DEFINITION. What hosts do to a Tweed slot, its locks and requests (15 R352, R353), and the release of what the object unit held
while an object's header change waited (04 R86). -/

namespace Sys2Proof.Machine

/-! ## Locks (15 R353) -/

/-- A held update becomes live: ND for both hosts (15 R353). -/
def State.releaseHeld (s : State) (i : Nat) : State :=
  match (s.twd.slot i).held with
  | none => s
  | some (f, t) => ((s.modSlot i fun x => { x with held := none }).updateLive (slotBase + i) f t).slotTraffic i

/-- A lock takes effect: the host's ND, LOST and LOCK_BROKEN clear. -/
def State.takeLock (s : State) (i : Nat) (h : HostId) : State :=
  let t := s.us
  (s.modSlot i fun x => { x with lock := x.lock.set h true, lockAt := x.lockAt.set h t, lockWait := x.lockWait.set h false,
                                 lost := x.lost.set h false, broken := x.broken.set h false }).modObj (slotBase + i)
    fun v => { v with nd := setBit v.nd h.num false }

/-- Locks that waited for the held update take effect. -/
def State.waitingLocks (s : State) (i : Nat) : State :=
  forAll (fun h s => if (s.twd.slot i).lockWait.get h then s.takeLock i h else s) [HostId.a, HostId.b] s

/-- No host holds the lock any more: the held update becomes live, once no header change of the slot's object waits (04 R86). -/
def State.settleLocks (s : State) (i : Nat) : State :=
  if (s.twd.slot i).locked || s.mem.waits (slotBase + i) then s else (s.releaseHeld i).waitingLocks i

/-- LOCK written by host `h` (15 R353). -/
def State.writeLock (s : State) (i : Nat) (h : HostId) (on : Bool) : State :=
  let x := s.twd.slot i
  if on then
    if x.lock.get h then
      (s.modSlot i fun x => { x with lost := x.lost.set h false }).modObj (slotBase + i) fun v =>
        { v with nd := setBit v.nd h.num false }
    else if x.held.isSome then s.modSlot i fun x => { x with lockWait := x.lockWait.set h true }
    else s.takeLock i h
  else if x.lock.get h then
    (s.modSlot i fun x => { x with lock := x.lock.set h false, lockWait := x.lockWait.set h false }).settleLocks i
  else s.modSlot i fun x => { x with lockWait := x.lockWait.set h false }

/-! ## Requests (15 R352) -/

/-- The slot is a send slot in force. -/
def State.sendSlot (s : State) (i : Nat) : Bool :=
  bit (s.twd.tx i).inForce 31 && bit (s.twd.tx i).inForce 30 && (s.obj (slotBase + i)).en && (s.obj (slotBase + i)).send

/-- A host's TXERR of a slot. -/
def State.slotTxErr (s : State) (i : Nat) (h : HostId) (on : Bool) : State :=
  s.modSlot i fun x => { x with txErr := x.txErr.set h on }

/-- TXRQ of host `h`: latched at once under ANY, or refused with TXERR (15 R352). With its header FAULTED it fails (04 R102). -/
def State.slotRequest (s : State) (i : Nat) (h : HostId) : State :=
  if !s.sendSlot i then s
  else
    let x := s.twd.slot i
    let o := slotBase + i
    if (s.twd.tx i).pend || decide (8 < x.dlc) || s.dev.mode = .hold || !s.live h || !(s.obj o).imageFree then
      s.slotTxErr i h true
    else
      let t := s.us
      let s1 := (s.slotTxErr i h false).modSlotTx i fun x =>
        { x with pend := true, at_us := t, timedOut := false, failCause := 0 }
      let s2 := s1.modObj o fun v => { v with req := { v.req with len := v.req.len.set h x.dlc } }
      (if (s2.obj o).faulted then s2.modObj o fun v => { v with req := { v.req.fresh with fail := true } }
       else s2.latch o h ((PerHost.both false).set h true) true).resolveSlots

/-- TXCAN acts under 06 R138. -/
def State.slotCancel (s : State) (i : Nat) (h : HostId) : State :=
  if s.sendSlot i then (s.txCancelReq h (slotBase + i)).resolveSlots else s

/-- A command of a slot is carried out. -/
def State.slotAct (s : State) (i : Nat) (h : HostId) : SlotWrite → State
  | .lock on => s.writeLock i h on
  | .txrq => s.slotRequest i h
  | .txcan => s.slotCancel i h

/-- A command of a slot, held while a header change of its object waits (04 R86). -/
def State.slotDo (s : State) (i : Nat) (h : HostId) (w : SlotWrite) : State :=
  if s.mem.waits (slotBase + i) then s.holdAct (slotBase + i) (.slot h w) else s.slotAct i h w

/-! ## After a header change (04 R86) -/

/-- What was held for the object is carried out, in its order; a slot's held update whose lock has ended meanwhile becomes live. -/
def State.releaseActs (s : State) (o : Nat) : State :=
  let acts := s.mem.held.filter fun x => x.1 == o
  let s1 := forAll (fun (x : Nat × HeldAct) (s : State) => match x.2 with
    | .cmd r w => s.objCmdNow r o w
    | .slot h w => s.slotAct (o - slotBase) h w
    | .update p f t => s.updateNow o p f t) acts { s with mem := { s.mem with held := s.mem.held.filter fun x => x.1 != o } }
  if slotBase ≤ o then s1.settleLocks (o - slotBase) else s1

/-- The header changes that waited for a frame are made once none of the object's is on the bus, and what was held for it is
carried out (04 R86, log entry 120). -/
def State.changeNow (s : State) (o : Nat) : State :=
  if s.mem.waits o && (s.obj o).req.begun then s else (s.applyStaged o).releaseActs o

end Sys2Proof.Machine
end

