-- ==== Sys2Proof/Machine/Copies.lean ====
section
/-! DEFINITION. Attempts of send objects and their copies on the media of a pair: how an attempt, a copy and a request end
(06 R132-R135, 10 R242, 07 R153, R162). -/

namespace Sys2Proof.Machine

/-- A medium's copy is gone. -/
def Obj.dropCopy (v : Obj) (p : Nat) : Obj :=
  { v with tx := { v.tx with media := v.tx.media.filter (· != p), offered := v.tx.offered.filter (· != p),
                             slot := v.tx.slot.filter (· != p) } }

/-- TX_BEGUN: an attempt of the object is in progress on some medium other than `p` (06 R132). -/
def State.begunElsewhere (s : State) (o p : Nat) : Bool := !(s.onBus o ((s.obj o).tx.media.filter (· != p))).isEmpty

/-- The copy on port `p` ends without completing. When it was the last, the request ends: as cancelled under the cancel
mark, with TX_FAIL otherwise; a request already completed on the other medium has ended (06 R132, 10 R242). -/
def State.failCopy (s0 : State) (o p : Nat) : State :=
  let s := s0.checkDeadline o p
  let v := s.obj o
  let b := s.begunElsewhere o p
  let w := v.dropCopy p
  let w1 := { w with req := { w.req with begun := b } }
  if w1.tx.media.isEmpty then
    let e := if w1.tx.mediaOk then w1.over else if w1.req.cancel then w1.overCancel else w1.overFail
    ((s.setObj o e).afterEnd o).changeNow o
  else (s.setObj o w1).changeNow o

/-- EXCL_FAILED of a port (06 R135). -/
def State.countExcl (s : State) (p : Nat) : State :=
  s.modPort p fun v => { v with tx := { v.tx with exclFailed := incSat v.tx.exclFailed 65535 } }

/-- An attempt of object `o` on port `p` ends without completing: retried, unless the object makes one attempt, the cancel
mark is set or `kill` forbids it (06 R132, R133, R135, R138, 04 R102). -/
def State.objRetry (s : State) (o p : Nat) (kill : Bool) : State :=
  let v := s.obj o
  if kill || v.lastAt p || v.req.cancel then
    let s1 := if v.slotMode = 2 && !v.req.cancel then s.countExcl p else s
    s1.failCopy o p
  else (s.setObj o { v with req := { v.req with begun := s.begunElsewhere o p } }).changeNow o

/-- A port on which a copy that has not begun is withdrawn at once (10 R242). -/
def State.mute (s : State) (p : Nat) : Bool :=
  (s.port p).stat.state = .busOff || (s.port p).stat.state = .recovering || (s.port p).stat.state = .gauze

/-- An attempt completes: TX_DONE, SEQ, OBJ_FID, OBJ_FLEN and OBJ_FTIME at the first completion; the other medium's copy
goes on (06 R132, 10 R242). -/
def State.objDone (s0 : State) (o p : Nat) (f : Frame) : State :=
  let s := s0.checkDeadline o p
  let v := s.obj o
  let b := s.begunElsewhere o p
  let last : ObjLast := { fid := fidWord f, flen := flenWord f, ftime := s.ftime, seq := v.last.seq + 1 }
  let first : Obj := if v.tx.mediaOk then v else
    { v with last := last, req := { v.req with latched := false, done := true, cancel := false },
             tx := { v.tx with mediaOk := true, lastTry := v.req.cancel || v.tx.lastTry } }
  let w := first.dropCopy p
  let onBus := s.onBus o w.tx.media
  let media := w.tx.media.filter fun q => onBus.contains q || !s.mute q
  let w1 := { w with tx := { w.tx with media := media }, req := { w.req with begun := b } }
  if media.isEmpty then ((s.setObj o w1.over).afterEnd o).changeNow o else ((s.setObj o w1).changeNow o).resolveSlots

/-- Copies of completed requests that have not begun on port `p` are withdrawn (10 R242). -/
def State.withdrawCopies (s : State) (p : Nat) : State :=
  forAll (fun e s =>
    let v := s.obj e.1
    if v.tx.mediaOk && v.tx.media.contains p && (s.onBus e.1 [p]).isEmpty then s.failCopy e.1 p else s) s.objs
      (s.withdrawTrails p)

/-- At once on a port in BUS_OFF, RECOVERING or GAUZE (10 R242). -/
def State.withdrawMute (s : State) (p : Nat) : State := if s.mute p then s.withdrawCopies p else s

/-- A request's deadline has passed in BUS_OFF or RECOVERING: its copy ends and the miss is reported in window `n` (07
R162). -/
def State.deadlineMissed (s : State) (o p n : Nat) : State :=
  (((s.modPort p fun x => { x with err := { x.err with dlMissed := incSat x.err.dlMissed 65535 } }).flagErr p 0x10).noteDeadline
    p n o).failCopy o p

/-- A slot request's copy on a port ends at the close of its window. SLOT_MISSED, and EXCL_FAILED for an exclusive slot
(06 R134, R135); in GRID and DENSE on a port in BUS_OFF or RECOVERING the missed deadline is reported in its place
(07 R162, log entry 10). -/
def State.slotMissed (s : State) (o p n : Nat) : State :=
  let v := s.obj o
  if s.offBus p && (s.dev.mode = .grid || s.dev.mode = .dense) then s.deadlineMissed o p n
  else
    let s2 := (s.modPort p fun x => { x with tx := { x.tx with slotMissed := incSat x.tx.slotMissed 65535 } }).flagTx p 0x10
    (if v.slotMode = 2 then s2.countExcl p else s2).failCopy o p

/-- The slot requests open on a port end when the next window opens; a frame in progress is not retried (06 R134). -/
def State.closeSlots (s : State) (p n : Nat) : State :=
  forAll (fun e s =>
    let v := s.obj e.1
    if v.tx.slot.contains p then
      (if (s.onBus e.1 [p]).isEmpty then s.slotMissed e.1 p n
       else s.setObj e.1 { v with tx := { v.tx with slot := v.tx.slot.filter (· != p) } })
    else s) s.objs s

/-- Objects become candidates, or their slot opens, when a port opens window `w`: those latched at the boundary of that window or
before (06 R122, R134, R142). A Dense object with RELEASE_EN waits for its release phase (10 R246). -/
def State.offerObjs (s : State) (p w : Nat) : State :=
  forAll (fun e s =>
    let v := s.obj e.1
    let u := if v.req.paused && v.port = p then
        let k := v.req.pauseLeft - 1
        { v with req := { v.req with pauseLeft := k, paused := decide (0 < k) } }
      else v
    let u1 := if u.tx.media.contains p && decide (u.tx.n ≤ (s.port p).fence.n) then
        { u with tx := { u.tx with offered := if s.dev.mode = .dense && u.releaseEn then u.tx.offered else insertNat p u.tx.offered,
                                   slot := if u.slotMode != 0 && u.slotWin = w then insertNat p u.tx.slot else u.tx.slot } }
      else u
    s.setObj e.1 u1) s.objs s

/-- DENSE_RELEASE (10 R246): PHASE has reached a planned object's release phase. -/
def execDenseRelease (obj : BitVec 14) (s : State) : Answer :=
  .next (if s.dev.mode = .dense then s.modObj obj.toNat fun v =>
      if v.req.latched && v.releaseEn then { v with tx := { v.tx with offered := v.tx.media } } else v
    else s)

/-- R153 at bus-off entry: an object with DISCARD_ON_BUSOFF, or a Tweed slot, ends its copy on the port, and its pending
requests; for a pair only when no other medium is left (07 R153, 10 R242, 15 R352). -/
def State.discardObjs (s : State) (p : Nat) : State :=
  (forAll (fun (e : Nat × Obj) s =>
    let v := s.obj e.1
    let ports := s.mediaOf v
    if v.en && v.send && (v.discard || (s.slotOf e.1).isSome) && ports.contains p then
      let alone := ports.all fun q => q = p || (s.port q).stat.state = .busOff || (s.port q).stat.state = .recovering
      let had := v.req.pend.a || v.req.pend.b
      let s1 := s.setObj e.1 (if alone then v.unpend else v)
      let s2 := if v.tx.media.contains p then s1.failCopy e.1 p else s1
      let s3 := if alone && (s2.obj e.1).req.latched then (s2.setObj e.1 (s2.obj e.1).overFail).afterEnd e.1 else s2
      if alone && had then s3.modObj e.1 fun x => { x with req := { x.req with fail := true } } else s3
    else s) s.objs s).resolveSlots

end Sys2Proof.Machine
end

