-- ==== Sys2Proof/Machine/Recorder.lean ====
section
/-! DEFINITION. The event recorder and the journal's ring and cursors (17). -/

namespace Sys2Proof.Machine

/-! ## Records -/

/-- A record's bytes; CHECK and VALID are computed (17 R388). -/
def Record.bytes (r : Record) : List Byte :=
  let b := leBytes 4 r.rseq.toNat ++ leBytes 2 r.epoch ++ leBytes 2 r.code ++ leBytes 8 r.time ++ leBytes 2 r.source ++
    leBytes 1 r.sev ++ leBytes 1 r.flags ++ leBytes 4 r.d0 ++ leBytes 4 r.d1
  b ++ leBytes 2 r.rep ++ [crc8 b, 0xC3]

/-- EPOCH: register 0x0F0 [15:0] (17 R382). -/
def State.epoch (s : State) : Nat := (s.preg 0x0F0).toNat % 65536

/-- The ring slot of a record number (17 R389). -/
def recSlot (n : Word) : Nat := n.toNat % 32768

/-- The number of a list that lies furthest back from `n`, among those at most `span` back; `n` where there is none. -/
def furthestBack (n : Word) (span : Nat) (l : List Word) : Word :=
  n - BitVec.ofNat 32 (l.foldl (fun m r => if (n - r).toNat ≤ span then max m (n - r).toNat else m) 0)

/-- A spill record waits for its number: Amioc wrote it with PROVISIONAL and RSEQ 0 (17 R396). -/
def RecSlot.provisional (v : RecSlot) : Bool := v.r.flags &&& 2 != 0 && v.r.rseq = 0

/-- The numbers of the valid records, in the ring and, while the recorder is degraded, in the spill area. -/
def Recorder.numbers (q : Recorder) : List Word :=
  (q.ring.map fun e => e.2.r.rseq) ++
    (if q.degraded = .no then [] else (q.spill.filter fun v => !v.provisional).map fun v => v.r.rseq)

/-- REC_OLDEST: the greater of CLEAR_FLOOR + 1 and newest - 32,767, and never older than the oldest valid record held
(17 R389). -/
def State.recOldest (s : State) : Word :=
  let fl := s.preg 0x0F1 + 1
  match s.rcd.newest with
  | none => 0
  | some n =>
    let lo := furthestBack n 32767 s.rcd.numbers
    if 0 < seqDiff fl lo then fl else lo

/-- A record number lies in the range from oldest to newest; others are absent (17 R389). -/
def State.inRange (s : State) (n : Word) : Bool :=
  match s.rcd.newest with
  | none => false
  | some m => decide (0 ≤ seqDiff n s.recOldest) && decide (0 ≤ seqDiff m n)

/-- The record of number `n`, if it is held in the ring (17 R389). -/
def State.heldRecord (s : State) (n : Word) : Option RecSlot :=
  if s.inRange n then (s.rcd.ring.find (recSlot n)).filter fun v => v.r.rseq = n else none

/-- The record of number `n` in the spill area, while the recorder is degraded (17 R396). -/
def State.spillRecord (s : State) (n : Word) : Option RecSlot :=
  if s.rcd.degraded = .no || !s.inRange n then none else s.rcd.spill.find? fun v => v.r.rseq == n && !v.provisional

/-- What the recorder holds under a number, in the spill area or in the ring: its bytes, and that they are from the spill area. -/
def State.recFound (s : State) (n : Word) : Option (List Byte × Bool) :=
  match s.spillRecord n with
  | some v => some (v.r.bytes, true)
  | none => (s.heldRecord n).map fun v => (v.r.bytes, false)

/-! ## Cursors (17 R393, R394, R398) -/

/-- A mark that no longer stands at a held record is overtaken; a cursor whose record has gone, overwritten, cleared or lost with
its line, reads zeros; AT_END follows the newest record (17 R393, R394). `held` tells which numbers are held. -/
def Cursor.refresh (c : Cursor) (oldest : Word) (newest : Option Word) (held : Word → Bool) : Cursor :=
  let past := decide (0 < seqDiff oldest c.mark)
  let gone := c.cursor != nextOf newest && !held c.cursor
  { c with
    markValid := c.markValid && !past
    overtaken := c.overtaken || (c.markValid && past)
    gone := c.gone || gone
    snap := if gone then zeros 32 else c.snap
    atEnd := decide (c.cursor = nextOf newest) }

/-- Both hosts' recorder cursors after a write or a clear. -/
def State.refreshRec (s : State) : State :=
  let o := s.recOldest
  { s with rcd := { s.rcd with cur := s.rcd.cur.map fun c => c.refresh o s.rcd.newest fun n => (s.recFound n).isSome } }

/-- The cursor moves to `n`: the copy into the snapshot begins; at newest + 1 AT_END is set and the data reads 0
(17 R393). -/
def Cursor.move (c : Cursor) (n : Word) (newest : Option Word) : Cursor :=
  if n = nextOf newest then { c with cursor := n, atEnd := true, gone := false, spillView := false, copying := false,
                                     snap := zeros 32 }
  else { c with cursor := n, atEnd := false, gone := false, copying := true }

/-- NEXT (17 R393). -/
def Cursor.next (c : Cursor) (oldest : Word) (newest : Option Word) : Cursor :=
  let n := c.cursor + 1
  let n1 := if 0 < seqDiff oldest n then oldest else n
  let e := nextOf newest
  c.move (if 0 < seqDiff n1 e then e else n1) newest

/-- MARK (17 R393). -/
def Cursor.setMark (c : Cursor) : Cursor :=
  { c with mark := c.cursor, markValid := true, overtaken := false, lost := none }

/-- REWIND: to the mark while it is valid, else to the oldest, freezing REC_LOST (17 R393, R394). -/
def Cursor.rewind (c : Cursor) (oldest : Word) (newest : Option Word) : Cursor :=
  if c.markValid then c.move c.mark newest
  else { c.move oldest newest with lost := some (c.lost.getD (oldest - c.mark)) }

/-- REC_LOST or JNL_LOST (17 R394). -/
def Cursor.lostCount (c : Cursor) (oldest : Word) : Word :=
  if c.overtaken then c.lost.getD (oldest - c.mark) else 0

/-- The record or entry is copied into the snapshot; none when it is no longer held (17 R393). -/
def Cursor.copy (c : Cursor) (found : Option (List Byte × Bool)) : Cursor :=
  match found with
  | some (b, spill) => { c with snap := b, spillView := spill, copying := false, gone := false }
  | none => { c with snap := zeros 32, spillView := false, copying := false, gone := true }

/-! ## Writing (17 R389-R391, R396) -/

/-- The keep-die line of ring slot `k` (17 R378). -/
def ringLine (k : Nat) : Nat := 0x8000 + k

/-- The pending counts of one record are committed to its line (17 R391). -/
def State.commitSlot (s : State) (k : Nat) : State :=
  match s.rcd.ring.find k with
  | none => s
  | some v =>
    if v.pend = 0 then s
    else { s with rcd := { s.rcd with ring := s.rcd.ring.put k { v with pend := 0 } }
                  keep := s.keep.queueRecord k (some v) }

/-- Every pending count is committed before any other record is written (17 R391). -/
def State.commitCounts (s : State) : State :=
  forAll (fun e s => if e.2.pend = 0 then s else s.commitSlot e.1) s.rcd.ring s

/-- Codes whose DATA0 must also agree for a merge (17 R390). -/
def mergesByData (code : Nat) : Bool := code = 0x010E || code = 0x0204

/-- The event merges into the record: same EPOCH, CODE and SOURCE, and either the newest with its last occurrence less
than 1 s back, or written less than 10 ms ago (17 R390). -/
def RecSlot.takes (v : RecSlot) (e : Event) (epoch : Nat) (newest : Option Word) : Bool :=
  v.live && v.r.epoch == epoch && v.r.code == e.code && v.r.source == e.source &&
    (!mergesByData e.code || v.r.d0 == e.d0) &&
    ((newest == some v.r.rseq && decide (e.at_us < v.last + 1000000)) || decide (e.at_us < v.wrote + 10000))

/-- One more occurrence; REPEAT saturates, and what it does not count has nothing to commit (17 R388, R390, R391). -/
def RecSlot.merge (v : RecSlot) (at_us : Nat) : RecSlot :=
  { v with r := { v.r with rep := incSat v.r.rep 65535 }, last := at_us, pend := v.pend + flag (decide (v.r.rep < 65535)) }

/-- The record of an event with its number (17 R388, R389). -/
def Event.record (e : Event) (n : Word) (epoch : Nat) : RecSlot :=
  { r := { rseq := n, epoch := epoch, code := e.code, time := e.time, source := e.source, sev := e.sev,
           d0 := e.d0, d1 := e.d1 }, wrote := e.at_us, last := e.at_us }

/-- A record goes into its ring slot: its line write is queued, and marks it overtakes are cleared (17 R389, R394). -/
def State.putRing (s : State) (v : RecSlot) : State :=
  let k := recSlot v.r.rseq
  { s with rcd := { s.rcd with ring := s.rcd.ring.put k v, newest := some v.r.rseq }
           keep := s.keep.queueRecord k (s.rcd.ring.find k) }.refreshRec

/-- A record goes into the spill area under its number (17 R396). -/
def State.putSpill (s : State) (v : RecSlot) : State :=
  { s with rcd := { s.rcd.pushSpill v with newest := some v.r.rseq } }.refreshRec

/-- RECORDER_DEGRADED: the failure event becomes spill record 0 (17 R396); behind `first`, a record whose line write the loss of
the keep die has cut off, which is record 0 then (17 R400, log entry 153). -/
def State.degrade (s : State) (d : Degraded) (line : Nat) (first : List RecSlot) : State :=
  if s.rcd.degraded = .no then
    let e : Event := { code := 0x0802, source := 0, sev := 4, d0 := line, d1 := s.keep.spares,
                       time := s.clk.plant.toNat, at_us := s.us }
    let v := e.record (nextOf s.rcd.newest) s.epoch
    { s with rcd := { s.rcd with degraded := d, spill := (first ++ v :: s.rcd.spill).take 64, newest := some v.r.rseq } }.raise 162
  else s

/-- The records whose line writes a list of transfers carries, oldest first. -/
def State.recordsIn (s : State) (jobs : List KeepJob) : List RecSlot :=
  jobs.filterMap fun j => match j.was with | some (.record k _) => s.rcd.ring.find k | _ => none

/-- The keep die is unreachable: the records whose lines are not written go to the spill area, that of the write in progress as
record 0; every other transfer waits until the keep die answers again (17 R396, R400, log entry 153). -/
def State.keepLost (s : State) : State :=
  let isRec (j : KeepJob) : Bool := match j.was with | some (.record _ _) => true | _ => false
  let busy := s.recordsIn s.keep.busy.toList
  let rest := s.recordsIn (s.keep.jobsF.filter isRec)
  let s1 := { s with
    keep := { s.keep with down := true, busy := none
                          jobsF := ((if s.keep.lastLink = KeepLink.f then s.keep.busy.toList else []) ++ s.keep.jobsF).filter fun j => !isRec j
                          jobsP := (if s.keep.lastLink = KeepLink.p then s.keep.busy.toList else []) ++ s.keep.jobsP }
    rcd := { s.rcd with ring := undoRecords (s.keep.busy.toList ++ s.keep.jobsF) s.rcd.ring } }
  if s.rcd.degraded = .no then
    let s2 := s1.degrade .unreachable 0xFFFFFFFF busy
    { s2 with rcd := rest.foldl Recorder.pushSpill s2.rcd }
  else { s1 with rcd := (busy ++ rest).foldl Recorder.pushSpill s1.rcd }

/-- A new record is written: to the ring, or to the spill area while the recorder is degraded (17 R389, R396). -/
def State.writeRecord (s : State) (e : Event) : State :=
  let s1 := s.commitCounts
  let s2 := if s1.keep.down then s1.degrade .unreachable 0xFFFFFFFF [] else s1
  let v := e.record (nextOf s2.rcd.newest) s2.epoch
  if s2.rcd.degraded = .no then s2.putRing v else s2.putSpill v

/-- The record of a backward step increments EPOCH and is written in the new epoch (17 R392). -/
def State.epochOf (s : State) (code : Nat) : State :=
  if code = 0x0206 then s.setPreg 0x0F0 (BitVec.ofNat 32 ((s.epoch + 1) % 65536)) none else s

/-- At every plant-time step the pending counts are committed first (17 R392). -/
def State.stepEpoch (s : State) (e : Event) : State :=
  if e.code = 0x0206 || e.code = 0x0207 then s.commitCounts.epochOf e.code else s

/-- The FRAME_RESET record sets both hosts' cursors and marks (17 R394). -/
def State.cursorsAtReset (s : State) (e : Event) : State :=
  if e.code = 0x0A02 then
    match s.rcd.newest with
    | some n => { s with rcd := { s.rcd with cur := .both { cursor := n, mark := n, copying := true } } }
    | none => s
  else s

/-- An event is recorded: merged into a record, or written as a new one (17 R390). -/
def State.recordEvent (s : State) (e : Event) : State :=
  let s1 := s.stepEpoch e
  let ep := s1.epoch
  match s1.rcd.ring.find? fun x => x.2.takes e ep s1.rcd.newest && s1.inRange x.2.r.rseq with
  | some (k, v) => { s1 with rcd := { s1.rcd with ring := s1.rcd.ring.put k (v.merge e.at_us) } }
  | none =>
    match s1.rcd.spill.findIdx? fun v => v.takes e ep s1.rcd.newest && s1.inRange v.r.rseq with
    | some i =>
      { s1 with rcd := { s1.rcd with spill := s1.rcd.spill.modify i fun v => { v.merge e.at_us with pend := 0 } } }
    | none => (s1.writeRecord e).cursorsAtReset e

/-- EVENT_RECORD: Buckram records the oldest event that waits, once its scan has ended; while Buckram is cut over, commits
wait (17 R389, R390, 16 R365). -/
def State.recordFront (s : State) : State :=
  match s.rcd.queue with
  | [] => s
  | e :: q =>
    if s.run.buckram && s.rcd.scanned && (s.fw.parts.get {} 0).cutover.isNone then { s with rcd := { s.rcd with queue := q } }.recordEvent e else s

def execEventRecord (s : State) : Answer := answer s.recordFront

/-- REPEAT_COMMIT (17 R391). -/
def execRepeatCommit (rseq : Word) (s : State) : Answer :=
  .next (match s.heldRecord rseq with | some _ => s.commitSlot (recSlot rseq) | none => s)

/-- The greatest record number of a ring, compared as signed differences (17 R389). -/
def newestOf : Tbl RecSlot → Option Word
  | [] => none
  | (_, v) :: t =>
    match newestOf t with
    | none => some v.r.rseq
    | some m => some (if 0 < seqDiff v.r.rseq m then v.r.rseq else m)

/-- Spilled records are copied into the ring with SPILLED set, a provisional one under a number assigned now
(17 R396), in the epoch that a backward step begins when it is one (17 R392). -/
def State.absorb (s : State) (v : RecSlot) : State :=
  let fl := v.r.flags ||| 1
  if !v.provisional then s.putRing { v with r := { v.r with flags := fl }, live := false }
  else
    let s1 := s.epochOf v.r.code
    s1.putRing { v with r := { v.r with flags := fl, rseq := nextOf s1.rcd.newest, epoch := s1.epoch }, live := false }

/-- The spill records oldest first: slot 0 and then, when the area is full, from the slot to be overwritten next
(17 R396). -/
def Recorder.spillOrder (q : Recorder) : List RecSlot :=
  if q.spill.length < 64 then q.spill
  else q.spill.take 1 ++ q.spill.drop q.spillNext ++ (q.spill.take q.spillNext).drop 1

/-- The spill area is emptied into the ring. -/
def State.absorbSpill (s : State) : State :=
  let s1 := forAll (fun v s => s.absorb v) s.rcd.spillOrder s
  { s1 with rcd := { s1.rcd with spill := [], spillLost := 0, spillNext := 1 }, mgt := { s1.mgt with spillAt := 0 } }

/-- The place of spill slot `i` in the spill order (17 R396). -/
def Recorder.spillAge (q : Recorder) (i : Nat) : Nat :=
  if q.spill.length < 64 || i = 0 then i else 1 + (i + 63 - q.spillNext) % 63

/-- A spill record gets the next number and stays in its slot; a backward step begins its epoch (17 R392, R396). -/
def State.numberSlot (s : State) (i : Nat) (v : RecSlot) : State :=
  let s1 := s.epochOf v.r.code
  let n := nextOf s1.rcd.newest
  { s1 with rcd := { s1.rcd with newest := some n
                                 spill := s1.rcd.spill.set i { v with r := { v.r with rseq := n, epoch := s1.epoch } } } }

/-- The spill slots that a list of them names, numbered in spill order (17 R396). -/
def State.numberSlots (s : State) (which : RecSlot → Bool) : State :=
  let order := sortBy (fun i => s.rcd.spillAge i) (nums s.rcd.spill.length)
  forAll (fun i (s : State) => match s.rcd.spill[i]? with
    | some v => if which v then s.numberSlot i v else s
    | none => s) order s

/-- Provisional records of the spill area get their numbers and stay there: the recorder is degraded (17 R396). -/
def State.numberSpill (s : State) : State := s.numberSlots RecSlot.provisional

/-- RECORDER_SCAN: the newest record is found, in the ring or numbered in the spill area, and provisional records get their numbers
(17 R389, R396). With the keep die unreachable the spill area alone is known, and the recorder is degraded (log entry 153). -/
def State.recScan (s : State) : State :=
  if !s.run.buckram || s.rcd.scanned then s
  else
    let held := (s.rcd.spill.filter fun v => !v.provisional).map fun v => (0, v)
    let ring := if s.keep.down then [] else s.rcd.ring
    let s1 := { s with rcd := { s.rcd with newest := newestOf (ring ++ held), scanned := true, blind := s.keep.down } }
    if s.keep.down then
      (if s1.rcd.degraded = .no then s1.numberSpill.degrade .unreachable 0xFFFFFFFF [] else s1.numberSpill)
    else if s1.rcd.degraded = .no then s1.absorbSpill
    else s1.numberSpill

def execRecorderScan (s : State) : Answer := answer s.recScan

/-- The ring is scanned at last: the records written while it could not be get their numbers behind its newest (log entry
153). -/
def State.scanLate (s : State) : State :=
  if !s.rcd.blind then s
  else { s with rcd := { s.rcd with blind := false, newest := newestOf s.rcd.ring } }.numberSlots fun _ => true

/-- RECORDER_RESTORED: the keep die is reachable again; a recorder degraded by the lack of spares stays so (17 R396). -/
def State.recRestored (s : State) : State :=
  let s0 := ({ s with keep := { s.keep with down := false } }).scanLate
  if s.rcd.degraded = .unreachable then
    let n := s0.rcd.spill.length
    let lost := s0.rcd.spillLost
    let s1 := { s0 with rcd := { s0.rcd with degraded := .no } }.absorbSpill
    s1.writeRecord { code := 0x0803, source := 0, sev := 1, d0 := n, d1 := lost, time := s.clk.plant.toNat, at_us := s.us }
  else s0

def execRecorderRestored (s : State) : Answer := answer s.recRestored

/-! ## The REC_ window -/

/-- Changes host `h`'s recorder cursor. -/
def State.modRec (s : State) (h : HostId) (f : Cursor → Cursor) : State :=
  { s with rcd := { s.rcd with cur := s.rcd.cur.set h (f (s.rcd.cur.get h)) } }

/-- The cursor of host `h` moves: the line of its record is read over keep link F (01 R7, 17 R393). -/
def State.seekRec (s : State) (h : HostId) (f : Cursor → Cursor) : State :=
  let s1 := s.modRec h f
  if (s1.rcd.cur.get h).copying then s1.lineReads 1 else s1

def State.recNext (s : State) (h : HostId) : State := s.seekRec h fun c => c.next s.recOldest s.rcd.newest
def State.recMark (s : State) (h : HostId) : State := s.modRec h Cursor.setMark
def State.recRewind (s : State) (h : HostId) : State := s.seekRec h fun c => c.rewind s.recOldest s.rcd.newest
def State.recMove (s : State) (h : HostId) (v : Word) : State := s.seekRec h fun c => c.move v s.rcd.newest

/-- The copy into host `h`'s snapshot completes (17 R393). -/
def State.recCopy (s : State) (h : HostId) : State :=
  if (s.rcd.cur.get h).copying then s.modRec h fun c => c.copy (s.recFound c.cursor) else s

def execRecNext (h : HostId) (s : State) : Answer := .next (s.posted h 0x5000 1 (s.recNext h))
def execRecMark (h : HostId) (s : State) : Answer := .next (s.posted h 0x5000 2 (s.recMark h))
def execRecRewind (h : HostId) (s : State) : Answer := .next (s.posted h 0x5000 4 (s.recRewind h))
def execRecCursorWrite (h : HostId) (v : Word) (s : State) : Answer := .next (s.posted h 0x5004 v (s.recMove h v))

/-! ## The journal (17 R397, R398) -/

/-- An entry's bytes (17 R397). -/
def JEntry.bytes (e : JEntry) : List Byte :=
  let host := match e.stream with | .hostA => 0 | .hostB => 1 | .mgmt => 2 | .intern => 3
  leBytes 4 e.jseq.toNat ++ leBytes 4 e.cmdSeq.toNat ++ leBytes 2 e.opcode ++ leBytes 2 e.status ++ leBytes 1 host ++
    leBytes 1 e.flags ++ leBytes 2 e.target ++ leBytes 4 e.effCycle.toNat ++ leBytes 1 e.effWin ++ [0] ++
    leBytes 2 e.plen ++ leBytes 4 e.pcrc.toNat ++ leBytes 2 e.timeMs ++ [0, 0x5A]

/-- The slot of an entry number, which is the JIDX of a reply (17 R397, 12 R276). -/
def jnlSlot (n : Word) : Nat := n.toNat % 16384

/-- JNL_OLDEST: the oldest valid entry held (17 R398). -/
def State.jnlOldest (s : State) : Word :=
  match s.jnl.newest with
  | none => 0
  | some n => furthestBack n 16383 (s.jnl.ring.map fun e => e.2.jseq)

/-- The entry of number `n`, if held. -/
def State.heldEntry (s : State) (n : Word) : Option JEntry :=
  match s.jnl.ring.find (jnlSlot n) with
  | some e => if e.jseq = n then some e else none
  | none => none

def State.modJnl (s : State) (h : HostId) (f : Cursor → Cursor) : State :=
  { s with jnl := { s.jnl with cur := s.jnl.cur.set h (f (s.jnl.cur.get h)) } }

/-- The cursor of host `h` moves: the line of its entry is read over keep link F (01 R7, 17 R393). -/
def State.seekJnl (s : State) (h : HostId) (f : Cursor → Cursor) : State :=
  let s1 := s.modJnl h f
  if (s1.jnl.cur.get h).copying then s1.lineReads 1 else s1

def State.jnlNext (s : State) (h : HostId) : State := s.seekJnl h fun c => c.next s.jnlOldest s.jnl.newest
def State.jnlMark (s : State) (h : HostId) : State := s.modJnl h Cursor.setMark
def State.jnlRewind (s : State) (h : HostId) : State := s.seekJnl h fun c => c.rewind s.jnlOldest s.jnl.newest
def State.jnlMove (s : State) (h : HostId) (v : Word) : State := s.seekJnl h fun c => c.move v s.jnl.newest

/-- Both hosts' journal cursors after a write or the loss of a line. -/
def State.refreshJnl (s : State) : State :=
  let o := s.jnlOldest
  { s with jnl := { s.jnl with cur := s.jnl.cur.map fun c => c.refresh o s.jnl.newest fun n => (s.heldEntry n).isSome } }

def State.jnlCopy (s : State) (h : HostId) : State :=
  if (s.jnl.cur.get h).copying then
    s.modJnl h fun c => c.copy ((s.heldEntry c.cursor).map fun e => (e.bytes, false))
  else s

def execJnlNext (h : HostId) (s : State) : Answer := .next (s.posted h 0x5800 1 (s.jnlNext h))
def execJnlMark (h : HostId) (s : State) : Answer := .next (s.posted h 0x5800 2 (s.jnlMark h))
def execJnlRewind (h : HostId) (s : State) : Answer := .next (s.posted h 0x5800 4 (s.jnlRewind h))
def execJnlCursorWrite (h : HostId) (v : Word) (s : State) : Answer := .next (s.posted h 0x5804 v (s.jnlMove h v))

/-- REC_SNAPSHOT_COPY: the copies in progress of the host complete, the recorder's and the journal's (17 R393, R398). -/
def execRecSnapshotCopy (h : HostId) (s : State) : Answer := .next ((s.recCopy h).jnlCopy h)

/-- JOURNAL_WRAP (17 R398). -/
def State.journalWrap (s : State) (old : Word) (who : Nat) : State := (s.raise 163).event 0x0804 0 2 old.toNat who

/-- The command of an entry has not come to its final outcome (12 R283, R284). -/
def State.unsettled (s : State) (j : Word) : Bool :=
  s.cmds.sched.any (fun c => c.jseq == j) || s.cmds.actions.any (fun c => c.jseq == j)

/-- Writes a journal entry: its number is assigned, its line write is queued, and what it overwrites is reported
(17 R397, R398). -/
def State.journal (s : State) (e : JEntry) : State :=
  let n := nextOf s.jnl.newest
  let k := jnlSlot n
  let old := n - 16384
  let lost := (s.jnl.ring.find k).isSome && s.unsettled old
  let s1 := if lost then s.journalWrap old 0xFF else s
  let s2 := { s1 with
    jnl := { s1.jnl with ring := s1.jnl.ring.put k { e with jseq := n }, newest := some n }
    keep := s1.keep.queueEntry k (s1.jnl.ring.find k) }
  let o := s2.jnlOldest
  let hit (h : HostId) := (s2.jnl.cur.get h).markValid && decide (0 < seqDiff o (s2.jnl.cur.get h).mark)
  let s3 := s2.refreshJnl
  let s4 := if hit .a then s3.journalWrap old 0 else s3
  if hit .b then s4.journalWrap old 1 else s4

end Sys2Proof.Machine
end

