-- ==== Sys2Proof/Machine/Tracker.lean ====
section
/-! DEFINITION. The phase tracker and plant time (08 R171-R183, R194). Times are in units of 2^-16 of 10 ns. -/

namespace Sys2Proof.Machine

/-! ## GRD_SRC fields -/

def srcKind (w : Word) : Nat := bits w 2 0
def srcGain (w : Word) : Nat := bits w 5 4
def srcPlant (w : Word) : Bool := bit w 6
def srcPort (w : Word) : Nat := bits w 13 8
def srcHold (w : Word) : Nat := bits w 31 24

/-! ## Ticks (08 R173, R175, R178) -/

/-- SRC_LOST is cleared by a counted tick (08 R175). -/
def State.regained (s : State) : State :=
  if s.trk.srcLost then
    ({ s with trk := { s.trk with srcLost := false } }.flagGrd 4).event 0x0203 0xFFFF 1 (srcKind s.trk.cfg.src) 0
  else s

/-- The state after a counted tick (08 R175). -/
def State.countedTick (s : State) : State :=
  match s.trk.state with
  | .holdover =>
    { s with trk := { s.trk with state := .locked, missing := 0 }, trk2 := { s.trk2 with since := s.clk.ticks } }.regained
  | .acquire =>
    let n := s.trk2.acquired + 1
    { s with trk := { s.trk with state := if 2 ≤ n then .locked else .acquire }
             trk2 := { s.trk2 with acquired := n, since := if 2 ≤ n then s.clk.ticks else s.trk2.since } }
  | .locked | .free => s

/-- EXTRA_TICKS (08 R173). -/
def State.extraTick (s : State) : State := { s with trk2 := { s.trk2 with extra := incSat s.trk2.extra 65535 } }

/-- The cycle restarts at the first tick counted in ACQUIRE (08 R175). -/
def State.restartCycle (s : State) (t : Int) : State :=
  { s with trk := { s.trk with start := t, len := s.trk.pEst, cycle := s.trk.cycle + 1, tick := some 0,
                               early := none, corr := 0 }
           trk2 := { s.trk2 with acquired := 1, startDue := true, judged := false, jumped := false, adoptNow := none }
           dev := { s.dev with cfgStarts := s.dev.cfgStarts + 1 } }

/-- A fence tick whose count does not follow the associated start's asks for an adoption at the next start (08 R178):
`k` starts lie between the associated start and the next one. -/
def State.askAdoption (s : State) (fence : Option Nat) (assoc : Word) (k : Nat) : State :=
  match fence with
  | none => s
  | some c =>
    if c = assoc.toNat % 2 ^ 24 then s
    else { s with trk2 := { s.trk2 with adopt := some (BitVec.ofNat 32 ((c + k) % 2 ^ 24)) } }

/-- A tick at time `t`, with bits [23:0] of the count its fence carries: it is associated with the nearest start, and the
first one of a start is counted (08 R173). -/
def State.trackTick (s : State) (t : Int) (fence : Option Nat) : State :=
  let k := s.trk
  if k.state = .free || !s.run.domains.contains 3 then s
  else if t < k.start + k.len / 2 then
    if k.tick.isSome then s.extraTick
    else if k.state = .acquire && s.trk2.acquired = 0 && !s.trk2.runEntered then
      (s.restartCycle t).askAdoption fence (k.cycle + 1) 1
    else ({ s with trk := { k with tick := some (t - k.start) } }.askAdoption fence k.cycle 1).countedTick
  else
    if k.early.isSome then s.extraTick
    else if k.state = .acquire && s.trk2.acquired = 0 && !s.trk2.runEntered then
      (s.restartCycle t).askAdoption fence (k.cycle + 1) 1
    else ({ s with trk := { k with early := some (t - (k.start + k.len)) } }.askAdoption fence (k.cycle + 1) 0).countedTick

/-- SOURCE_TICK: a tick of CYC_IN or of MAINS_SENSE, whose time stamp is corrected by 2.0 us (08 R172). Fence ticks come
with the fence. -/
def State.sourceTick (s : State) : State :=
  match srcKind s.trk.cfg.src with
  | 1 => s.trackTick s.now none
  | 2 => s.trackTick (s.now - 200 * 65536) none
  | _ => s

def execSourceTick (s : State) : Answer := .next s.sourceTick

/-! ## Cycle starts (08 R174, R175) -/

/-- The whole numbers of 10 ns in a time, held within what LAST_ERR shows (08, GRD_TRK). -/
def errShown (e : Int) : Int := max (-8388607) (min 8388607 (e / 65536))

/-- Both limits of a cycle's length (08 R174). -/
def clampLen (pEst l : Int) : Int :=
  let a := max (pEst / 2) (min (3 * pEst / 2) l)
  max (10000 * 65536) (min (1000000000 * 65536) a)

/-- The mean of the intervals (08 R174). -/
def meanOf (l : List Int) : Int := l.foldl (· + ·) 0 / (l.length : Int)

/-- A new SRC or PERIOD_NOM takes effect at the start that follows (08 R174, R175, R193). -/
def State.newTiming (s : State) : Bool :=
  match s.trk2.dueCyc with
  | none => false
  | some y => srcKind y.src != srcKind s.trk.cfg.src || y.period != s.trk.cfg.period

/-- What the procedure of 08 R174 leaves: p_est, the intervals, the last counted tick, corr, the length, LAST_ERR, a jump. -/
structure StartCalc where
  pEst : Int
  intervals : List Int
  lastTick : Option (Int × Bool)
  corr : Int
  len : Int
  lastErr : Int
  jump : Bool
deriving DecidableEq, Repr

/-- The procedure of 08 R174 at the start that follows `k.start`. -/
def Trk.startCalc (k : Trk) : StartCalc :=
  if k.state = .free then
    { pEst := k.pEst, intervals := k.intervals, lastTick := none, corr := 0, len := (k.cfg.period : Int) * 65536,
      lastErr := k.lastErr, jump := false }
  else
    let err := k.tick.getD 0
    let corr0 := if k.tick.isSome then k.corr else 0
    let d := err - corr0
    let tol := (k.cfg.jumpTol : Int) * k.pEst / 65536
    let within := decide (-tol ≤ d) && decide (d ≤ tol)
    let time := k.start + err
    let iv := match k.tick, k.lastTick with
      | some _, some (t0, true) => if within then some (time - t0) else none
      | _, _ => none
    let intervals := match iv with
      | some x => (x :: k.intervals).take 8
      | none => k.intervals
    let pEst := if iv.isSome then meanOf intervals else k.pEst
    let corr := if within then d / (2 ^ srcGain k.cfg.src : Nat) else d
    { pEst := pEst, intervals := intervals, lastTick := if k.tick.isSome then some (time, within) else none, corr := corr,
      len := clampLen pEst (pEst + corr), lastErr := if k.tick.isSome then errShown err else k.lastErr, jump := !within }

/-- CYCLE_START (08 R171, R174): the next cycle starts at S + L. Its window 0 starts with the boundary that follows. -/
def State.cycleStart (s : State) : State :=
  if s.trk2.startDue || !s.run.domains.contains 3 then s
  else
    let k := s.trk
    let c := k.startCalc
    let cyc := k.cycle + 1
    let s1 := { s with
      trk := { k with start := k.start + k.len, len := c.len, cycle := cyc, tick := k.early, early := none,
                      corr := c.corr, pEst := c.pEst, intervals := c.intervals, lastTick := c.lastTick, lastErr := c.lastErr }
      trk2 := { s.trk2 with startDue := true, judged := false, jumped := c.jump, adopt := none, adoptNow := s.trk2.adopt }
      dev := { s.dev with cfgStarts := s.dev.cfgStarts + 1 } }
    if c.jump && !s.newTiming then
      let n := incSat s.trk2.jumps 65535
      ({ s1 with trk2 := { s1.trk2 with jumps := n } }.flagGrd 2).event 0x0201 0xFFFF 2 (BitVec.ofInt 32 c.lastErr).toNat n
    else s1

def execCycleStart (s : State) : Answer := .next s.cycleStart

/-- A new PERIOD_NOM takes effect at the start just made: p_est is the new value, without history; a jump found at that start is
none, and its correction is 0 (08 R174, R193, log entry 124). -/
def Trk.newPeriod (k : Trk) (period : Word) (jumped : Bool) : Trk :=
  let nom : Int := (period.toNat : Int) * 65536
  let corr := if jumped then 0 else k.corr
  { k with cfg := { k.cfg with period := period.toNat }, pEst := nom, intervals := [], lastTick := none, corr := corr
           len := if k.state = .free then nom else clampLen nom (nom + corr) }

/-- A new SRC takes effect at the start just made: no error is carried, no tick counts for the start, and it is not missing
(08 R175, R193). -/
def Trk.newSource (k : Trk) (src : Word) : Trk :=
  { k with cfg := { k.cfg with src := src }, corr := 0, tick := none, early := none, lastTick := none, missing := 0
           state := if srcKind src = 0 then .free else .holdover
           len := if srcKind src = 0 then (k.cfg.period : Int) * 65536 else clampLen k.pEst k.pEst }

/-- New SRC, PERIOD_NOM and the rest of GRD_SRC take effect at the start just made (08 R174, R175, R177, R193). -/
def State.setSource (s : State) (src period : Word) : State :=
  let k := s.trk
  let k1 := if period.toNat = k.cfg.period then k else k.newPeriod period s.trk2.jumped
  if srcKind src = srcKind k.cfg.src then { s with trk := { k1 with cfg := { k1.cfg with src := src } } }
  else { s with trk := k1.newSource src, trk2 := { s.trk2 with since := s.clk.ticks, judged := true } }

/-- The source is declared lost (08 R175). -/
def State.sourceLost (s : State) : State :=
  (({ s with trk := { s.trk with srcLost := true } }.flagGrd 1).raise 135).event 0x0202 0xFFFF 3
    (srcKind s.trk.cfg.src) s.trk.missing

/-- MISSING_START (08 R173, R175): the start's midpoint has passed without a tick. -/
def State.missingStart (s : State) : State :=
  let k := s.trk
  if k.tick.isSome || s.trk2.judged || !(k.state = .locked || k.state = .holdover) then s
  else
    let n := if k.state = .locked then 1 else incSat k.missing 255
    let s1 := { s with trk := { k with state := .holdover, missing := n, lastTick := none },
                       trk2 := { s.trk2 with judged := true } }
    if srcHold k.cfg.src = n && decide (k.missing < n) || srcHold k.cfg.src ≤ n && !k.srcLost then s1.sourceLost else s1

def execMissingStart (s : State) : Answer := answer s.missingStart

/-! ## Plant time (08 R182, R183) -/

/-- A step of plant time by `d` ns: TIME_STEP, the flag, and the record with the new time (08 R182, 17 R392). -/
def State.stepPlant (s : State) (new : BitVec 64) : State :=
  if new = s.clk.plant then s
  else
    let back := decide (new.toNat < s.clk.plant.toNat)
    let s1 := (s.raise 134).flagGrd (if back then 0x10 else 8)
    let s2 := s1.event (if back then 0x0206 else 0x0207) 0xFFFF (if back then 2 else 1) (new.toNat % 2 ^ 32)
      (new.toNat / 2 ^ 32)
    { s2 with clk := { s2.clk with plant := new, plantFrac := 0, slew := 0, slewing := false, stepDue := none } }

/-- A step that a fence asked for is made at the next cycle start (08 R183). -/
def State.stepDueNow (s : State) : State :=
  match s.clk.stepDue with
  | none => s
  | some (t, sof) => s.stepPlant (BitVec.ofInt 64 (t + 10 * ((s.clk.ticks : Int) - sof)))

/-- The instant nearest `t` in the 1,024 ns from `b` on. -/
def nearestIn (t b : Nat) : Nat := max b (min t (b + 1023))

/-- A fence's full time: bits [41:10] from the fence, the others such that it lies nearest the local time (08 R183). -/
def fenceTime (t : Nat) (y : FenceSays) : Nat :=
  match y.full with
  | some u => u
  | none =>
    let here := t / 2 ^ 42 * 2 ^ 42 + y.time * 1024
    let near (a b : Nat) : Nat := if ((b : Int) - t).natAbs < ((a : Int) - t).natAbs then b else a
    let a := near (nearestIn t here) (nearestIn t (here + 2 ^ 42))
    if here < 2 ^ 42 then a else near a (nearestIn t (here - 2 ^ 42))

/-- Plant time follows a fence recognised on SRC_PORT whose SOF came at local time `local_` and tick `sof` (08 R183). -/
def State.adoptTime (s : State) (local_ : BitVec 64) (sof : Nat) (y : FenceSays) : State :=
  let t := fenceTime local_.toNat y
  let d : Int := (t : Int) - local_.toNat
  let a := d.natAbs
  let floor := if y.full.isSome then 10 else 2048
  if a ≤ floor then s
  else if a ≤ 1000000 then { s with clk := { s.clk with slewing := true, slew := 200 * d } }
  else { s with clk := { s.clk with stepDue := some (t, sof) } }

/-- SLEW_END (08 R183). -/
def execSlewEnd (s : State) : Answer :=
  .next (if s.clk.slewing && s.clk.slew = 0 then { s with clk := { s.clk with slewing := false } } else s)

/-! ## The GRD_ block -/

/-- GRD_PHASE (08). -/
def State.grdPhase (s : State) : Word :=
  image [(30, s.trk.state.code), (29, flag s.trk.srcLost), (16, s.trk.win), (0, s.phase)]

/-- GRD_PHASE_READ (08 R194). -/
def State.readPhase (s : State) (h : HostId) : State :=
  { s with trk2 := { s.trk2 with snapCycle := s.trk2.snapCycle.set h s.trk.cycle,
                                 snapTime := s.trk2.snapTime.set h s.clk.plant } }.emit (.read h s.grdPhase)

def execGrdPhaseRead (h : HostId) (s : State) : Answer := .next (s.served h .phase (s.readPhase h))

/-- GRD_FLAGS_CLR of host `h`. -/
def State.clearGrdFlags (s : State) (h : HostId) (v : Word) : State :=
  { s with trk2 := { s.trk2 with flags := s.trk2.flags.set h (s.trk2.flags.get h &&& ~~~v) } }

def execGrdFlagsClr (h : HostId) (v : Word) (s : State) : Answer := .next (s.posted h 0x4030 v (s.clearGrdFlags h v))

/-- A map of ports, 32 from port `k` on. -/
def State.portMap (s : State) (k : Nat) (f : PortS → Bool) : Word := image ((nums 32).map fun i => (i, flag (f (s.port (k + i)))))

/-- A word of the GRD_ block, offset from 0x0_4000, as host `h` reads it (08). -/
def State.grdWord (s : State) (h : HostId) (o : Nat) : Word :=
  if 0x80 ≤ o && o < 0x100 then
    let i := (o - 0x80) / 4
    image [(16, s.trk.cfg.starts.getD (2 * i + 1) 0), (0, s.trk.cfg.starts.getD (2 * i) 0)]
  else match o with
  | 0x00 => s.trk.cycle
  | 0x04 => s.grdPhase
  | 0x08 => s.trk2.snapCycle.get h
  | 0x0C => (s.trk2.snapTime.get h).setWidth 32
  | 0x10 => ((s.trk2.snapTime.get h) >>> 32).setWidth 32
  | 0x14 => s.trk.cfg.src
  | 0x18 => BitVec.ofNat 32 s.trk.cfg.period
  | 0x1C => BitVec.ofInt 32 (s.trk.pEst / 65536)
  | 0x20 => image [(24, s.trk.missing), (0, (BitVec.ofInt 24 s.trk.lastErr).toNat)]
  | 0x24 => image [(16, s.trk.cfg.jumpTol), (0, s.trk.cfg.winCount)]
  | 0x28 => image [(16, s.trk2.jumps), (0, s.trk2.extra)]
  | 0x2C => s.trk2.flags.get h
  | 0x34 => image [(31, flag s.clk.slewing), (0, if !s.clk.slewing || s.clk.slew = 0 then 0 else if 0 < s.clk.slew then 500
                   else 65036)]
  | 0x38 => s.portMap 0 fun v => v.fence.role = .master
  | 0x3C => s.portMap 32 fun v => v.fence.role = .master
  | 0x40 => s.portMap 0 fun v => v.fence.synthMap
  | 0x44 => s.portMap 32 fun v => v.fence.synthMap
  | _ => 0

end Sys2Proof.Machine
end

