-- ==== Sys2Proof/Machine/Fence.lean ====
section
/-! DEFINITION. Windows on a port and the time master (08 R184-R191). -/

namespace Sys2Proof.Machine

/-! ## Opening a window on a port -/

/-- What a port resets when it opens a window: the transmit guard's and the babble count, and a fence due that has not begun is
withdrawn (06 R139, 07 R167, 08 R190). -/
def PortS.opened (v : PortS) (n : Nat) (c : Word) (w phase : Nat) (synth : Bool) : PortS :=
  { v with
    fence := { v.fence with n := n, cyc := c, win := w, openSynth := synth, openPhase := phase, due := false,
                            backup := false, moved := false, sinceHigher := v.fence.sinceHigher + 1 }
    tx := { v.tx with sentInWin := 0, guarded := false, staged := if v.tx.staged = some .fence then none else v.tx.staged }
    mis := { v.mis with babble := 0, babbled := false } }

/-- A calibration frame begins in its window or is skipped (03 R75): its window opens, or closes. -/
def State.calWindow (s : State) (p : Nat) : State :=
  let k := (s.port p).silk
  if !k.queued then s
  else if k.calOpen then s.calSkip p
  else s.modPort p fun v => { v with silk := { v.silk with calOpen := true } }

/-- The window after the one open on a port, cycle and window (08 R187): as it was labelled when it started, the local one that
opens next, or the one that follows. -/
def State.windowAfter (s : State) (f : PortFence) : Word × Nat :=
  match s.winDlv (f.n + 1) with
  | some x => (x.cycle, x.win)
  | none => if f.n = s.dlv.cur then s.upcoming else nextWin s.trk.cfg.winCount f.cyc f.win

/-- A port opens its next window, number `n`: the window before closes on it, and its slots' misses go into that window still (08
R187, R188, 09 R198, R202, 06 R122, R134, 07 R162). -/
def State.openWindow (s : State) (p : Nat) (synth : Bool) : State :=
  let f := (s.port p).fence
  let (c, w) := s.windowAfter f
  let n := f.n + 1
  let s1 := ((s.ensureWin n c w).modPort p fun v => v.opened n c w s.phase synth).closeSlots p f.n
  let s2 := s1.closeBefore p n synth
  let s3 := if synth then s2.modWin n fun x => x.modPort p fun v => { v with synth := true } else s2
  let s4 := (s3.offerObjs p w).calWindow p
  let s5 := if s.dev.mode = .grid || s.dev.mode = .dense then s4.withdrawCopies p else s4
  s5.sweepWins

/-- A synthetic fence (08 R188). -/
def State.synthFence (s : State) (p : Nat) : State :=
  let s1 := s.openWindow p true
  let s2 := s1.modPort p fun v => { v with fence := { v.fence with synth := incSat v.fence.synth 65535, synthMap := true } }
  let f := (s2.port p).fence
  ((s2.flagGrd 0x20).raise 133).event 0x0205 p 2 (f.cyc.toNat % 2 ^ 24 * 256 + f.win) 0

/-- A DISABLED port follows the local boundaries (08 R188): it closes every window before the local one, number `n`. -/
def State.followLocal (s : State) (p n : Nat) (c : Word) (w : Nat) : State :=
  let was := (s.port p).fence.n
  let s1 := s.modPort p fun v => { v with fence := { v.fence with
      n := n, cyc := c, win := w, openSynth := false, openPhase := s.phase, due := false, backup := false } }
  let s2 := ((s1.closeSlots p was).closeBefore p n false).offerObjs p w
  if s.dev.mode = .grid || s.dev.mode = .dense then s2.withdrawCopies p else s2

/-- A port that becomes DISABLED in the middle of a window: the windows whose ending boundary has passed close on it
(08 R188, 09 R198). A PORT_EN = 1 that waits enables it again (02 R51, log entry 161). -/
def State.disableNow (s : State) (p : Nat) : State :=
  let s1 := s.disablePort p
  let s2 := if (s1.port p).fence.n < s1.dlv.cur then (s1.followLocal p s1.dlv.cur s1.trk.cycle s1.trk.win).sweepWins else s1
  match (s.port p).stat.pend with
  | some c => if bit c.ctrl 0 && !s.kept.entering then s2.enablePort p c else s2
  | none => s2

/-- PORT_DISABLE_AT_IDLE (02 R53). -/
def execPortDisableAtIdle (p : Port) (s : State) : Answer :=
  answer (if (s.port p.val).stat.disable && (s.port p.val).mayIdle then s.disableNow p.val else s)

/-! ## Recognised fences (08 R186, R187) -/

/-- The window starts that hold for window number `n` (08 R177, R187). -/
def State.startsOf (s : State) (n : Nat) : List Nat :=
  if n < s.trk2.cfgFrom then s.trk2.cfgBefore.allStarts else s.trk.cfg.allStarts

/-- The phase units since the local start of a port's open window. -/
def State.sinceStart (s : State) (f : PortFence) : Int :=
  seqDiff s.trk.cycle f.cyc * 65536 + s.phase - ((s.startsOf f.n).getD f.win 0 : Nat)

/-- The length of a port's open window in phase units. -/
def State.winLen (s : State) (f : PortFence) : Nat := (windowLens (s.startsOf f.n)).getD f.win 65536

/-- The midpoint of the port's open window has been reached. -/
def State.pastMidpoint (s : State) (f : PortFence) : Bool := decide ((s.winLen f / 2 : Nat) ≤ s.sinceStart f)

/-- A fence is ignored (08 R187): kind 1 duplicate, 2 late, 3 mismatch. -/
def State.fenceAnomaly (s : State) (p kind id : Nat) : State :=
  let s1 := s.modPort p fun v => { v with fence :=
    if kind = 1 then { v.fence with dup := incSat v.fence.dup 65535 }
    else if kind = 2 then { v.fence with late := incSat v.fence.late 65535 }
    else { v.fence with mismatch := incSat v.fence.mismatch 65535 } }
  (s1.flagGrd 0x80).event 0x0204 p 2 kind id

/-- What a recognised fence says of other masters (08 R189): a fence of a rank above MY_RANK makes a potential master
STANDBY and withdraws its due fence. -/
def PortS.heardRank (v : PortS) (r : Nat) (own : Bool) : PortS :=
  let f := { v.fence with masterRank := r }
  if !own && fenceMode v.cfg.fenceCfg = 2 && r < fenceRank v.cfg.fenceCfg then
    { v with fence := { f with role := .standby, higherSeen := true, sinceHigher := 0, due := false, backup := false }
             tx := { v.tx with staged := if v.tx.staged = some .fence then none else v.tx.staged } }
  else { v with fence := f }

/-- The table of 08 R187. -/
def State.fenceOutcome (s : State) (p : Nat) (y : FenceSays) (id : Nat) : State :=
  let f := (s.port p).fence
  let (c, w) := s.windowAfter f
  if y.cycle = c.toNat % 2 ^ 24 && y.win = w then
    (if s.pastMidpoint f then s.openWindow p false else s.fenceAnomaly p 3 id)
  else if y.cycle = f.cyc.toNat % 2 ^ 24 && y.win = f.win then s.fenceAnomaly p (if f.openSynth then 2 else 1) id
  else s.fenceAnomaly p 3 id

/-- A received fence is a tick of SRC 3 and carries plant time (08 R172, R178, R183). -/
def State.fenceSource (s : State) (p : Nat) (y : FenceSays) (rx : RxFrame) : State :=
  let src := s.trk.cfg.src
  if srcPort src != p then s
  else
    let s1 := if srcKind src = 3 && y.start then s.trackTick ((rx.sofTick : Int) * 65536) (some y.cycle) else s
    if srcPlant src && (s.port p).fence.role != .master then s1.adoptTime rx.sofPlant rx.sofTick y else s1

/-- FENCE_RECOGNISED (08 R186, R187): a frame that passes the tests opens the next window or is ignored. It is the first
frame of the window it opens; one that is ignored belongs to the window open at its SOF (09 R197). -/
def State.fenceRecognised (s : State) (p : Nat) (own : Bool) (f : Frame) : State :=
  let v := s.port p
  let ok := (v.stat.state = .active || v.stat.state = .gauze) && isFence v.cfg.fenceCfg s.trk.cfg.winCount f &&
    (if own then v.stat.tx.isSome else v.stat.rx.isSome)
  if !ok then s
  else
    let y := fenceSays f.data
    let id := bits f.id 10 0
    let s1 := (s.fenceOutcome p y id).modPort p fun v => v.heardRank (id % 8) own
    if own then s1
    else
      match v.stat.rx with
      | none => s1
      | some rx =>
        let n := (s1.port p).fence.n
        (s1.setRx p (some { rx with fence := true, ownWin := if n = v.fence.n then rx.ownWin else n })).fenceSource p y rx

def execFenceRecognised (p : Port) (own : Bool) (f : Frame) (s : State) : Answer := answer (s.fenceRecognised p.val own f)

/-- A frame whose identifier lies in the fence range is in progress (08 R188). -/
def PortS.rangeFrame (v : PortS) : Bool :=
  (match v.stat.tx with | some t => fenceIdRange v.cfg.fenceCfg t.frame | none => false) ||
    (match v.stat.rx with
     | some r => (match r.key with
        | some k => !(k.ide && !k.fmt.isXl) && inFenceRange v.cfg.fenceCfg (bits k.id 10 0)
        | none => false)
     | none => false)

/-- FENCE_DEADLINE (08 R188): a synthetic fence opens the next window; with a frame of the fence range in progress the
deadline moves, and comes again at the end of the frame. -/
def State.fenceDeadline (s : State) (p : Nat) : State :=
  let v := s.port p
  if !v.enabled || v.stat.state = .busOff || v.stat.state = .recovering then s
  else if v.rangeFrame then s.modPort p fun v => { v with fence := { v.fence with moved := true } }
  else s.synthFence p

def execFenceDeadline (p : Port) (s : State) : Answer := answer (s.fenceDeadline p.val)

/-! ## The time master (08 R189-R191) -/

/-- Modes in which fences are sent (06 R120). -/
def Mode.sendsFences : Mode → Bool
  | .grid | .direct | .dense | .tweed | .service | .hold => true
  | _ => false

/-- BACKUP_WAIT_EXPIRY: a STANDBY port whose next window is not open makes a backup fence due (08 R189). -/
def State.backupExpiry (s : State) (p : Nat) : State :=
  let v := s.port p
  if v.fence.role = .standby && v.fence.n < s.dlv.cur && s.dev.mode.sendsFences then
    s.modPort p fun v => { v with fence := { v.fence with role := .master, due := true, backup := true } }
  else s

def execBackupWaitExpiry (p : Port) (s : State) : Answer := .next (s.backupExpiry p.val)

/-- HIGHER_SEEN_TIMEOUT (08 R189). -/
def State.higherTimeout (s : State) (p : Nat) : State :=
  s.modPort p fun v => if 64 ≤ v.fence.sinceHigher then { v with fence := { v.fence with higherSeen := false } } else v

def execHigherSeenTimeout (p : Port) (s : State) : Answer := .next (s.higherTimeout p.val)

/-- The fence a port sends now (08 R184, R185, R191). -/
def State.fenceFrame (s : State) (p : Nat) : Frame :=
  let v := s.port p
  let w := v.cfg.fenceCfg
  let ext := fenceExt w
  let k := s.windowAfter v.fence
  let d := fencePayload ext (v.fence.higherSeen || v.fence.backup) k.1 k.2 s.clk.plant
  Frame.plain (if ext then .xl else .classical) (BitVec.ofNat 29 (8 * fenceHi w + fenceRank w)) d

/-- A port's fence settings take effect: FENCE_MODE 2 makes it MASTER, FENCE_MODE 1 a follower (08 R189). -/
def State.setFence (s : State) (p : Nat) (w : Word) : State :=
  s.modPort p fun v =>
    let was := fenceMode v.cfg.fenceCfg = 2
    let f := if fenceMode w = 2 then (if was then v.fence else { v.fence with role := .master })
      else { v.fence with role := .follower, due := false, backup := false }
    { v with cfg := { v.cfg with fenceCfg := w }, fence := f }

end Sys2Proof.Machine
end

