-- ==== Sys2Proof/Machine/Transmit.lean ====
section
/-! DEFINITION. The transmit arbiter, the begin of an attempt and its ends without error, and the transmit guard
(06 R129-R142, 03 R68, R75, R76, 07 R148). -/

namespace Sys2Proof.Machine

/-! ## Frames -/

/-- The frame of a latched object (04, 06 R122). An error-passive transmitter sends ESI recessive (ISO 11898-1, log entry
11). -/
def State.objFrame (s : State) (p o : Nat) : Frame :=
  let v := s.obj o
  let d := if v.rtr then [] else s.poolBytes v.imageAt v.tx.len
  let f := v.fmt
  { fmt := f, ide := v.ide, rtr := v.rtr, brs := v.brs, esi := f = .fd && (s.port p).err.errState = 1,
    sec := f.isXl && bit v.xl 0, id := BitVec.ofNat 29 (bits v.id 28 0),
    sdt := if f.isXl then BitVec.ofNat 8 (bits v.xl 31 24) else 0,
    vcid := if f.isXl then BitVec.ofNat 8 (bits v.xl 23 16) else 0,
    af := if f.isXl then v.af else 0, len := BitVec.ofNat 12 v.tx.len, data := d }

/-- One step of the PRBS-7 register, x^7 + x^6 + 1 (03, calibration). -/
def prbsStep (r : BitVec 7) : BitVec 7 := (r <<< 1) ||| (if r.getLsbD 6 != r.getLsbD 5 then 1#7 else 0#7)

/-- `n` bits of the sequence from register `r`, first bit first. -/
def prbsBits : Nat → BitVec 7 → List Bool
  | 0, _ => []
  | n + 1, r => r.getLsbD 6 :: prbsBits n (prbsStep r)

/-- Bytes of bits, the first bit in bit 7; `n` bytes. -/
def bitsBytes : Nat → List Bool → List Byte
  | 0, _ => []
  | n + 1, l => BitVec.ofNat 8 ((l.take 8).foldl (fun a b => 2 * a + flag b) 0) :: bitsBytes n (l.drop 8)

/-- The calibration frame of a port (03): 256 bytes of PRBS-7 started from all ones, in bus order. -/
def PortCfg.calFrame (c : PortCfg) : Frame :=
  Frame.plain .silk (BitVec.ofNat 29 (bits c.silkCtrl 17 7)) (bitsBytes 256 (prbsBits 2048 0x7F#7))

/-! ## Candidates (06 R122, R129, R130, R134, R135) -/

/-- The copy of object `o` on port `p` is released to the arbiter and may be sent. -/
def State.objReady (s : State) (p o : Nat) : Bool :=
  let v := s.obj o
  (v.req.latched || v.tx.mediaOk) && v.req.copied && v.tx.media.contains p && v.tx.offered.contains p && !v.req.paused &&
    !v.faulted && (v.slotMode = 0 || v.tx.slot.contains p)

/-- The object holds a slot of the open window in which it has not had its attempt. -/
def State.exclOpen (s : State) (p o : Nat) : Bool :=
  let v := s.obj o
  v.slotMode = 2 && v.tx.slot.contains p && !v.req.paused && !v.faulted

/-- A candidate with the number that orders it: key, format, objects before routes, index (06 R130). -/
def rankOf (f : Frame) (route : Bool) (i : Nat) : Nat := ((f.arbKey * 4 + f.fmt.code) * 2 + flag route) * 32768 + i

/-- The candidate that goes first. -/
def firstCand : List (Nat × TxSrc) → Option (Nat × TxSrc)
  | [] => none
  | c :: cs =>
    match firstCand cs with
    | none => some c
    | some d => if c.1 ≤ d.1 then some c else some d

/-- Candidates of step 2 of 06 R130, the calibration frame included (03 R76). Of a calibration frame and an object that tie in key and
format the object goes first (DESIGN CHOICE, log entry 167). -/
def State.exclCands (s : State) (p : Nat) : List (Nat × TxSrc) :=
  let v := s.port p
  (if v.silk.queued && v.silk.calOpen then [(rankOf v.cfg.calFrame false 16384, TxSrc.calibration)] else []) ++
    s.objs.filterMap fun e => if s.exclOpen p e.1 && s.objReady p e.1 then some (rankOf (s.objFrame p e.1) false e.1, .obj e.1)
      else none

/-- Candidates of step 3 of 06 R130. -/
def State.otherCands (s : State) (p : Nat) : List (Nat × TxSrc) :=
  (s.objs.filterMap fun e => if (s.obj e.1).slotMode != 2 && s.objReady p e.1 then
      some (rankOf (s.objFrame p e.1) false e.1, TxSrc.obj e.1) else none) ++
    s.routes.filterMap fun e => (s.routeOffer p e.1).map fun f => (rankOf f.1 true e.1, .route e.1)

/-- The arbiter's choice (06 R130, R135, R139). -/
def State.choose (s : State) (p : Nat) : Option TxSrc :=
  let v := s.port p
  if v.fence.due then some .fence
  else if v.tx.guarded || decide (v.cfg.guardMax ≤ v.tx.sentInWin) then none
  else match firstCand (s.exclCands p) with
    | some c => some c.2
    | none =>
      if s.objs.any fun e => s.exclOpen p e.1 then none else (firstCand (s.otherCands p)).map Prod.snd

/-- The port may send (06 R120, R129, 07 R151, R160). A port whose disabling waits for bus idle goes on choosing among its latched
requests until then: 02 R53 does not stop it (DESIGN CHOICE, log entry 161). -/
def State.maySend (s : State) (p : Nat) : Bool :=
  let v := s.port p
  s.dev.mode.sendsFences && v.stat.state = .active && v.err.tec < 256 && v.stat.tx.isNone && !v.stat.integrating

/-- The heads of route `r` whose first cell is uncorrectable are dropped, with the report of the codeword (04 R102), until one can be
offered; `k` bounds them. -/
def State.dropBadHead (s : State) (p r : Nat) : Nat → State
  | 0 => s
  | k + 1 =>
    if (s.routeMedia r).contains p && (s.route r).begun.isEmpty && s.badHead r then
      let cell := match (s.route r).queue with | q :: _ => q.cells.headD 0 | [] => 0
      let n := max 1 (s.route r).fixed
      State.dropBadHead ((s.eccBad 0 ((s.mem.badIn (0x912000 + 64 * cell) 64).headD 0)).routeBad p r n false) p r k
    else s

/-- Every route's bad heads go before they are offered on a port (04 R102). -/
def State.dropBadHeads (s : State) (p : Nat) : State :=
  forAll (fun (e : Nat × Route) s => s.dropBadHead p e.1 e.2.queue.length) s.routes s

/-- The words of the packet that a choice puts into the port's C8 staging chain (12 R287, R288): none for an empty choice. What it
holds but for its length is not stated (log entry 165). -/
def stagePacket (n p : Nat) : Option TxSrc → List Word
  | none => []
  | some _ => c8Packet (Config.stageLen n p) (Config.stageWord n p)

/-- The words in the port's C8 staging chain: the engine takes them when the attempt begins. -/
def PortTx.chain (t : PortTx) : List Word := if t.staged.isSome then t.words else []

/-- ARBITER_CHOICE (06 R129): at idle a choice that is staged stands. -/
def State.arbiterChoice (s : State) (p : Nat) : State :=
  let v := s.port p
  if !s.maySend p || v.stat.rx.isSome then s
  else if v.stat.busIdle && v.tx.staged.isSome then s
  else
    let s1 := s.dropBadHeads p
    let c := s1.choose p
    let g := match c with | some (.route r) => s1.groupNow p r | _ => []
    s1.modPort p fun v => { v with tx := { v.tx with staged := c, group := g, words := stagePacket s.clk.ticks p c }, stat := { v.stat with phase := 0 } }

def execArbiterChoice (p : Port) (s : State) : Answer := answer (s.arbiterChoice p.val)

/-! ## The begin of an attempt (06 R136, R139) -/

/-- The form in which a frame goes out: a Silk frame falls back to CAN XL after two training NAKs (03 R68). -/
def PortS.outForm (v : PortS) (src : TxSrc) (f : Frame) : Frame :=
  if f.fmt = .silk && decide (2 ≤ (v.silk.nakRun src).naks) && bit v.cfg.silkCtrl 6 then
    { f with fmt := .xl }
  else f

/-- The port's Silk state as an attempt begins: FALLBACK_ACTIVE is of the current or last frame, and FALLBACKS counts a frame once
(03 R68). -/
def State.silkBegin (s : State) (p : Nat) (src : TxSrc) (f out : Frame) : State :=
    let falls := f.fmt = .silk && out.fmt = .xl
    let s2 := s.modPort p fun v => { v with silk := { v.silk with fallbackActive := falls } }
    if falls && !((s2.port p).silk.nakRun src).fell then
      (s2.modPort p fun v => { v with silk := v.silk.putRun { v.silk.nakRun src with fell := true }
                                      silkCnt := { v.silkCnt with fallbacks := incSat v.silkCnt.fallbacks 65535 } }).flagSilk p 2
    else s2

/-- An attempt that counts against the guard (06 R139). -/
def State.countAttempt (s : State) (p : Nat) : State :=
  let s1 := s.modPort p fun v => { v with tx := { v.tx with sentInWin := incSat v.tx.sentInWin 65535 } }
  let v := s1.port p
  if v.tx.sentInWin = v.cfg.guardMax && !v.tx.guarded then
    ((s1.modPort p fun v => { v with tx := { v.tx with guarded := true, hits := incSat v.tx.hits 65535 } }).flagTx p 1).event 0x0108 p 2
      v.cfg.guardMax 0
  else s1

/-- A frame starts on the port (06 R136): the frame in progress, BUS_PHASE, and a calibration result that waits (03 R74). A
frame that another node starts at the same time gives the start-of-frame. With LOOP_INT the bus sees recessive (02, CH_CTRL). -/
def State.startTx (s : State) (p : Nat) (src : TxSrc) (f : Frame) (packed : Nat) (trail : Bool) : State :=
  let v := s.port p
  let out := v.outForm src f
  let (tick, plant) := match v.stat.rx with | some r => (r.sofTick, r.sofPlant) | none => (s.clk.ticks, s.clk.plant)
  let t : TxFrame := { src := src, frame := out, silk := out.fmt = .silk, sofTick := tick, sofPlant := plant,
                       win := v.fence.n, packed := packed, trail := trail,
                       own := (s.winDlv v.fence.n).map fun x => (x.port p).own }
  let s1 := (s.silkBegin p src f out).modPort p fun v => { v.takeCal with
    silk := { v.takeCal.silk with contention := false }
    stat := { v.stat with tx := some t, rx := none, phase := 1, busIdle := false }
    tx := { v.tx with staged := none }
    cnt := { v.cnt with attempts := v.cnt.attempts + 1 }
    mis := { v.mis with lastSender := false, stuckArmed := true } }
  if v.cfg.loopInt then s1 else s1.emit (.tx (Fin.ofNat 64 p) out)

/-- The choice is given up: the engine sends nothing (06 R136). -/
def State.unstage (s : State) (p : Nat) : State := s.modPort p fun v => { v with tx := { v.tx with staged := none } }

/-- A frame in reception of which only the start has been seen, and which the port may still join as a sender (07 R148). -/
def RxFrame.young (r : RxFrame) : Bool := r.key.isNone && r.frame.isNone && !r.bound

/-- FRAME_BEGIN (06 R136): the staged choice begins if it still stands. -/
def State.frameBegin (s : State) (p : Nat) : State :=
  let v := s.port p
  let free := match v.stat.rx with | some r => r.young | none => true
  if !s.maySend p || v.mis.suspend || !free then s
  else match v.tx.staged with
    | none => s
    | some .fence => if v.fence.due then s.startTx p .fence (s.fenceFrame p) 1 false else s.unstage p
    | some .calibration =>
      if v.silk.queued then
        (s.startTx p .calibration v.cfg.calFrame 1 false).modPort p fun v => { v with silk := { v.silk with queued := false } }
      else s.unstage p
    | some (.obj o) =>
      if s.objReady p o then
        ((s.startTx p (.obj o) (s.objFrame p o) 1 false).modObj o fun x => { x with req := { x.req with begun := true } }).countAttempt p
      else s.unstage p
    | some (.route r) =>
      match s.stagedOffer p r with
      | none => s.unstage p
      | some (f, n, trail) => ((s.startTx p (.route r) f n trail).routeBegin p r n trail).countAttempt p

def execFrameBegin (p : Port) (s : State) : Answer := .next (s.frameBegin p.val)

/-! ## Arbitration loss (06 R132, 08 R189, R190) -/

/-- The attempt leaves its source as an arbitration loss leaves it. A calibration frame is never retransmitted
(03 R76). -/
def State.lostAttempt (s : State) (p : Nat) (t : TxFrame) (rank : Option (Fin 8)) : State :=
  match t.src with
  | .obj o => s.objRetry o p false
  | .route r => s.routeRetry p r t.trail
  | .calibration => s.calSkip p
  | .fence =>
    match rank with
    | some r => if r.val < fenceRank (s.port p).cfg.fenceCfg then s.modPort p fun v => v.heardRank r.val false else s
    | none => s

/-- ARBITRATION_LOST: the port becomes receiver of the frame that won. -/
def State.arbitrationLost (s : State) (p : Nat) (rank : Option (Fin 8)) : State :=
  match (s.port p).stat.tx with
  | none => s
  | some t =>
    let rx : RxFrame := { sofTick := t.sofTick, sofPlant := t.sofPlant, sofWin := t.win, ownWin := t.win }
    ((s.modPort p fun v => { v with stat := { v.stat with tx := none, rx := some rx } }).lostAttempt p t rank)

def execArbitrationLost (p : Port) (winnerRank : Option (Fin 8)) (s : State) : Answer :=
  answer (s.arbitrationLost p.val winnerRank)

/-! ## Error states (07 R147) -/

/-- ERR_STATE follows the counters, with the reports of each change. TEC above 255 leads to bus-off through BUS_OFF_ENTRY. -/
def State.errFollow (s : State) (p : Nat) : State :=
  let e := (s.port p).err
  if e.errState = 2 then s
  else
    let passive := decide (127 < e.tec) || decide (127 < e.recv)
    if passive && e.errState = 0 then
      (((s.modPort p fun v => { v with err := { v.err with errState := 1 } }).flagErr p 1).portEvent p).event 0x0101 p 2 e.tec e.recv
    else if !passive && e.errState = 1 then
      ((s.modPort p fun v => { v with err := { v.err with errState := 0 } }).portEvent p).event 0x0102 p 1 e.tec e.recv
    else s

/-- A port that was the transmitter suspends when it is error-passive (07 R148). -/
def State.afterOwn (s : State) (p : Nat) : State :=
  s.modPort p fun v => { v with mis := { v.mis with lastSender := true, suspend := v.err.errState = 1 } }

/-! ## Delivery of a frame (09 R195-R197, R216, R220) -/

/-- The MEDIA bits of a Direct entry's record (10 R245). -/
def State.mediaFlags (s : State) (p win : Nat) : Nat :=
  if ((s.copyFor win).pairOf p).isSome then (if p % 2 = 0 then 4 else 8) else 0

/-- OWN_DLV for a frame of window number `n`: the setting in force for the window; of one that is no longer held, that which it had
at the frame's SOF (09 R215). -/
def State.ownDlvOf (s : State) (p n : Nat) (seen : Option Bool) : Bool :=
  match s.winDlv n with
  | some x => (x.port p).own
  | none => seen.getD ((s.port p).cfg.ownDlv = 1)

/-- A frame the port has sent is delivered (09 R196, R200). -/
def State.deliverOwn (s : State) (p : Nat) (t : TxFrame) (target : Nat) : State :=
  let n := t.win
  let f := t.frame
  let r := f.record p target 1
  match s.kindOf n with
  | none => s.keepEarly n { rec_ := r, own := true, late := s.halfBusy n, phase := s.phase, time := s.clk.plant }
  | some d =>
    if !s.ownDlvOf p n t.own then s
    else match d with
      | .batch => s.admitFrame p n r
      | .direct => s.formDirect p { r with flags := r.flags + s.mediaFlags p n } s.phase s.clk.plant
      | .none => s

/-- A second copy that gives no Direct entry is counted (10 R245). -/
def State.countDup (s : State) (p : Nat) : State :=
  let v := s.pairs.get {} (p / 2)
  { s with pairs := s.pairs.put (p / 2) { v with dup := v.dup + 1 } }

/-- A kept record is delivered as its window asks, which has started (09 R216). -/
def State.settleRec (s : State) (n : Nat) (x : WinDlv) (e : EarlyRec) : State :=
  let p := e.rec_.port
  if e.own && !(x.port p).own then s
  else match x.dlv with
    | .batch => if e.late then s.dropDelivery p n else s.admitFrame p n e.rec_
    | .direct =>
      if e.own || e.first then s.formDirect p { e.rec_ with flags := e.rec_.flags + s.mediaFlags p n } e.phase e.time
      else s.countDup p
    | .none => s

/-- The records kept for window number `n` at its local start, in the order in which they came. -/
def State.settleEarly (s : State) (n : Nat) : State :=
  match s.winDlv n with
  | none => s
  | some x => forAll (fun e s => s.settleRec n x e) x.early (s.modWin n fun y => { y with early := [] })

/-! ## Completion (06 R132, 07 R145) -/

/-- TDCO of the frame's data phase while TDC is in use: 03 R69 gives it for CAN XL frames of a Silk port. -/
def PortS.tdco (v : PortS) (f : Frame) : Option Nat :=
  if f.fmt = .xl && v.cfg.silkEn then
    some (match bits v.cfg.silkCtrl 5 4 with | 0 => 24 | 1 => 12 | _ => 6)
  else if tdcActive v.cfg.pc && (f.fmt = .xl || (f.fmt = .fd && f.brs)) then some (bits v.cfg.pc.tdc 14 8)
  else none

/-- The loop delay of the frame: LOOP_DLY of a Silk frame, TDCV of a frame with TDC in use (02 R44, 03 R67, R69). -/
def State.noteDelay (s : State) (p : Nat) (t : TxFrame) (delay : Nat) : State :=
  if t.silk then s.modPort p fun v => { v with silk := { v.silk with loopDly := delay } }
  else match (s.port p).tdco t.frame with
    | none => s
    | some o =>
      let d := min delay 255
      let s1 := s.modPort p fun v => { v with stat := { v.stat with tdcv := d } }
      if 255 < d + o then s1.flagCh p 2 else s1

/-- What the source of a completed attempt keeps of it. -/
def State.sourceDone (s : State) (p : Nat) (t : TxFrame) : State :=
  match t.src with
  | .obj o =>
    ((s.modObj o fun v => { v with req := { v.req with collRun := 0 } }).objDone o p t.frame).deliverOwn p t o
  | .route r => (s.routeDone p r t.packed t.frame t.trail).deliverOwn p t (16384 + r)
  | .fence => s.modPort p fun v => { v with fence := { v.fence with due := false, backup := false } }
  | .calibration => s

/-- ATTEMPT_COMPLETED: no error up to the end of end-of-frame. A frame in which the contention detector has fired is failed, and
cannot complete (03 R71). -/
def State.attemptDone (s : State) (p delay : Nat) : State :=
  let v := s.port p
  match v.stat.tx with
  | none => s
  | some t =>
    if v.silk.contention then s
    else
    let s1 := s.modPort p fun v => { (v.dataSeen t.frame.fmt t.frame.brs) with
      stat := { (v.dataSeen t.frame.fmt t.frame.brs).stat with tx := none, phase := 0 }
      cnt := { v.cnt with txFrames := v.cnt.txFrames + 1 }
      silk := v.silk.endRun t.src
      err := { v.err with tec := if v.stat.state = .active then v.err.tec - 1 else v.err.tec } }
    (((s1.noteDelay p t delay).errFollow p).sourceDone p t).afterOwn p

/-- SUSPEND_TRANSMISSION_END (07 R148). -/
def execSuspendTransmissionEnd (p : Port) (s : State) : Answer :=
  .next (s.modPort p.val fun v => { v with mis := { v.mis with suspend := false } })

/-! ## Identifier collision (06 R141, R142) -/

/-- COLL_POLICY is applied: 1 pauses the object for the rest of this window and the next, 2 leaves a latched request one
further attempt. The policy touches no later request: with none latched any more, policy 2 does nothing (06 R143, DESIGN CHOICE, log
entry 166). -/
def Obj.collided (v : Obj) : Obj :=
  let w := { v with req := { v.req with collRun := 0 } }
  match v.collPolicy with
  | 1 => { w with req := { w.req with paused := true, pauseLeft := 2 } }
  | 2 => if v.req.latched then { w with tx := { w.tx with lastTry := true } } else w
  | _ => w

/-- An object of the port whose COLL_RUN has reached 16. -/
def State.colliding (s : State) (p : Nat) : Option Nat :=
  (s.objs.find? fun e => e.2.req.collRun = 16 && (e.2.port = p || s.owner p = e.2.port)).map Prod.fst

/-- ID_COLLISION (06 R142). -/
def State.idCollision (s : State) (p : Nat) : State :=
  match s.colliding p with
  | none => s
  | some o =>
    let s1 := s.modPort p fun v => { v with tx := { v.tx with collEvents := incSat v.tx.collEvents 65535, collObj := o } }
    ((((s1.modObj o Obj.collided).raise 174).portEvent p).flagTx p 2).event 0x0107 p 2 o 0

def execIdCollision (p : Port) (s : State) : Answer := answer (s.idCollision p.val)

end Sys2Proof.Machine
end

