-- ==== Sys2Proof/Machine/Errors.lean ====
section
/-! DEFINITION. Error confinement: counters, error flags, bus-off, recovery and quarantine, and the detections on a Silk
data phase (07 R144-R161, 03 R65-R72). -/

namespace Sys2Proof.Machine

/-- CH_ERR_LAST.TYPE and PHASE (07). -/
def ErrKind.code : ErrKind → Nat
  | .bit => 1 | .stuff => 2 | .form => 3 | .ack => 4 | .crc => 5 | .trainingNak => 6 | .contention => 7 | .dominant => 8

def ErrPhase.code : ErrPhase → Nat
  | .nominal => 0 | .data => 1 | .silk => 2 | .flag => 3

/-- The port was the transmitter of the frame in which the event occurs. -/
def PortS.isSender (v : PortS) : Bool := v.stat.tx.isSome || (v.stat.rx.isNone && v.mis.lastSender)

/-- What an error adds to TEC and to REC: the first row of the table of 07 R145 that matches, for a port that counts. -/
def errAdds (e : BusError) (sender passive : Bool) : Nat × Nat :=
  match e.place with
  | .ackNoDominant => if sender && passive && e.kind = .ack then (0, 0) else if sender then (8, 0) else (0, 1)
  | .arbStuff => if sender && e.kind = .stuff then (0, 0) else if sender then (8, 0) else (0, 1)
  | .inFlag => if sender then (8, 0) else (0, 8)
  | .firstAfterFlag => if sender then (0, 0) else (0, 8)
  | .dominantRun => if sender then (8, 0) else (0, 8)
  | .plain | .peRefusal | .xlNoErrsig | .afterAck | .payload => if sender then (8, 0) else (0, 1)

/-- The event lies after the frame, in an error or overload flag. -/
def afterFrame : ErrPlace → Bool
  | .inFlag | .firstAfterFlag | .dominantRun => true
  | _ => false

/-- The contention detector fired in the frame: a dominant AH2 is the intruder's, and the error is a contention
(03 R66, R71). -/
def PortS.contended (v : PortS) (e : BusError) : Bool :=
  v.silk.contention && (e.kind = .trainingNak || e.kind = .contention)

/-- CH_ERR_LAST (07): the error is noted and counted in ERRORS. 03 R66 gives TYPE 7 for the transmitter of a frame in which the
contention detector fired; a receiver whose own detector fired records it too (DESIGN CHOICE, log entry 163). -/
def PortS.noteError (v : PortS) (e : BusError) : PortS :=
  { v with err := { v.err with
      lastType := if v.contended e then 7 else ErrKind.code e.kind
      lastTx := v.isSender
      lastPhase := if e.place = .xlNoErrsig then 1 else ErrPhase.code e.phase
      errors := incSat v.err.errors 65535 } }

/-- REC of an ACTIVE receiver that has acknowledged (07 R145). -/
def recAfterGood (n : Nat) : Nat := if 127 < n then 120 else n - 1

/-- The counters change (07 R144, R145); TEC above 255 stands at 256 until bus-off entry. A receiver that has sent its ACK has
counted that before the error that follows. -/
def PortS.countError (v : PortS) (e : BusError) : PortS :=
  let a := errAdds e v.isSender (v.err.errState = 1)
  let rec_ := if e.place = .afterAck && !v.isSender then recAfterGood v.err.recv else v.err.recv
  { v with err := { v.err with tec := min 256 (v.err.tec + a.1), recv := min 255 (rec_ + a.2) } }

/-- A training failure: TRAIN_FAILS, TRAIN_FAIL, its record, and towards the fallback of the frame being sent (03 R68). -/
def State.trainFail (s : State) (p : Nat) : State :=
  let s1 := s.modPort p fun v => { v with
    silkCnt := { v.silkCnt with trainFails := incSat v.silkCnt.trainFails 65535 }
    silk := match v.stat.tx with
      | some t => if t.src = .calibration then v.silk
                  else v.silk.putRun { v.silk.nakRun t.src with naks := (v.silk.nakRun t.src).naks + 1 }
      | none => v.silk }
  (s1.flagSilk p 1).event 0x010B p 2 (s1.port p).silkCnt.trainFails 0

/-- An error flag began in resXL or ADH of a Silk frame (03 R72). -/
def State.peRefused (s : State) (p : Nat) : State :=
  (s.modPort p fun v => { v with silkCnt := { v.silkCnt with peRefusals := incSat v.silkCnt.peRefusals 65535 } }).flagSilk p 0x20

/-- The place lies between the end of the arbitration field and the CRC delimiter: in the payload, in the data phase of a CAN XL
frame, or in the resXL or ADH bit (06 R141). -/
def afterArbitration : ErrPlace → Bool
  | .payload | .xlNoErrsig | .peRefusal => true
  | _ => false

/-- COLL_RUN after an attempt that an error ended (06 R141). -/
def collAfter (e : BusError) (contended : Bool) (n : Nat) : Nat :=
  if !e.memory && (contended || (e.kind = .bit && afterArbitration e.place) || e.kind = .contention) then incSat n 16 else 0

/-- The address of the codeword that the engine could not read: the first one known to be uncorrectable, else the first of
the payload (04 R102, log entry 12). -/
def State.stalledAt (s : State) (t : TxFrame) : Nat :=
  match t.src with
  | .obj o =>
    let v := s.obj o
    ((s.mem.badIn (poolWordAddr v.imageAt) (max 1 v.tx.len)).head?).getD (poolWordAddr v.imageAt)
  | .route r =>
    let cs := match (s.route r).queue with | q :: _ => q.cells | [] => []
    let bad := cs.filterMap fun c => (s.mem.badIn (0x912000 + 64 * c) 64).head?
    bad.headD (0x912000 + 64 * cs.headD 0)
  | _ => 0x100000

/-- The error lies in the frame's data phase or behind one (02, CH_STAT). -/
def dataBegun (e : BusError) : Bool := e.behind || e.phase = .data || e.phase = .silk

/-- What a frame in which an error is found has shown of its data phase: TDC_ACTIVE, and the loop delay it had measured (02 R43,
R44, 03 R67). -/
def State.noteFailed (s : State) (p : Nat) (e : BusError) : State :=
  let v := s.port p
  let s1 := match v.fmtNow with
    | some f => if dataBegun e then s.modPort p fun v => v.dataSeen f true else s
    | none => s
  match v.stat.tx, e.delay with
  | some t, some d => s1.noteDelay p t d.toNat
  | _, _ => s1

/-- The attempt in progress ends by an error (06 R132, R141, 03 R75, 08 R190); one whose payload could not be read is not
retried (01 R15, 04 R102). -/
def State.failedAttempt (s : State) (p : Nat) (t : TxFrame) (e : BusError) (contended : Bool) : State :=
  match t.src with
  | .obj o =>
    let s1 := s.modObj o fun v => { v with req := { v.req with collRun := collAfter e contended v.req.collRun } }
    if e.memory then (s1.eccBad 0 (s.stalledAt t)).objRetry o p true else s1.objRetry o p false
  | .route r =>
    if e.memory then (s.eccBad 0 (s.stalledAt t)).routeBad p r t.packed t.trail else s.routeRetry p r t.trail
  | .calibration => s.calSkip p
  | .fence => s

/-- The frame in progress is gone. -/
def State.endFrame (s : State) (p : Nat) (integrates : Bool) : State :=
  s.modPort p fun v => { v with
    stat := { v.stat with rx := none, tx := none, phase := 1, integrating := v.stat.integrating || integrates, busIdle := false }
    silk := { v.silk with contention := false } }

/-- The flag a port sends for an error, by its state before the increment (07 R145, R146). With LOOP_INT the bus sees recessive
(02, CH_CTRL). -/
def State.sendFlag (s : State) (p : Nat) (e : BusError) : State :=
  if e.place = .xlNoErrsig || afterFrame e.place || (s.port p).cfg.loopInt then s else s.emit (.errFlag (Fin.ofNat 64 p) ((s.port p).err.errState = 0))

/-- What an error counts on a Silk port (03 R68, R72): the training failure of the transmitter's frame, unless it is the
intruder's, or of the receiver itself. -/
def State.silkCounts (s : State) (p : Nat) (e : BusError) : State :=
  let v := s.port p
  let s1 := if e.kind = .trainingNak && !(v.contended e && v.stat.tx.isSome) then s.trainFail p else s
  if e.place = .peRefusal then s1.peRefused p else s1

/-- What an error on an ACTIVE port does to its counters, its Silk counts and its state. -/
def State.errorCounts (s : State) (p : Nat) (e : BusError) : State :=
  ((s.silkCounts p e).modPort p fun v => (v.noteError e).countError e).errFollow p

/-- An error on an ACTIVE port (07 R145-R148). -/
def State.activeError (s : State) (p : Nat) (e : BusError) : State :=
  let v := s.port p
  let s1 := ((s.sendFlag p e).noteFailed p e).errorCounts p e
  if afterFrame e.place && v.stat.tx.isNone && v.stat.rx.isNone then
    s1.modPort p fun x => { x with mis := { x.mis with suspend := v.mis.lastSender && x.err.errState = 1 } }
  else
    let s2 := s1.endFrame p (e.place = .xlNoErrsig)
    let s3 := match v.stat.tx with | some t => s2.failedAttempt p t e (v.contended e) | none => s2
    s3.modPort p fun x => { x with mis := { x.mis with lastSender := v.isSender, suspend := v.isSender && x.err.errState = 1 } }

/-- An error on a port in GAUZE (07 R160): the frame is dropped and the port integrates; no counter changes. A frame of its own that
was on the bus as the port entered GAUZE has failed. -/
def State.gauzeError (s : State) (p : Nat) (e : BusError) : State :=
  let v := s.port p
  let s1 := ((((s.noteFailed p e).silkCounts p e).modPort p fun v => v.noteError e).endFrame p true).flagErr p 0x80
  match v.stat.tx with
  | some t => s1.failedAttempt p t e (v.contended e)
  | none => s1

/-- Where the error lies, as CH_FMT.XL_ERRSIG has it: the port of a CAN XL data phase signals no error there with XL_ERRSIG 0, and
signals it as any other with XL_ERRSIG 1 (02 R35, 07 R145). -/
def PortS.placed (v : PortS) (e : BusError) : BusError :=
  if v.cfg.errsig then (if e.place = .xlNoErrsig then { e with place := .payload } else e)
  else if v.fmtNow = some .xl && e.phase = .data && (e.place = .plain || e.place = .payload) then { e with place := .xlNoErrsig }
  else e

/-- A looped port takes its own frame without an acknowledgement (02, CH_CTRL, log entry 118). -/
def PortS.selfAcked (v : PortS) (e : BusError) : Bool :=
  e.kind = .ack && v.stat.tx.isSome && (v.cfg.loopInt || v.cfg.loopExt)

/-- ERROR_DETECTED. -/
def State.errorDetected (s : State) (p : Nat) (x : BusError) : State :=
  let v := s.port p
  let e := v.placed x
  if v.selfAcked e then s
  else if v.stat.state = .active then
    (if v.stat.rx.isSome || v.stat.tx.isSome || afterFrame e.place then s.activeError p e else s)
  else if v.stat.state = .gauze && (v.stat.rx.isSome || v.stat.tx.isSome) then s.gauzeError p e
  else s

def execErrorDetected (p : Port) (e : BusError) (s : State) : Answer := answer (s.errorDetected p.val e)

/-- The frame in progress can be in a Silk data phase: the port sends a Silk frame, or receives one whose format is Silk or not
known yet (03 R59). -/
def PortS.inSilk (v : PortS) : Bool :=
  match v.stat.tx, v.stat.rx with
  | some t, _ => t.silk
  | none, some r => (match r.key with | some k => k.fmt = .silk | none => true)
  | none, none => false

/-- SILK_CONTENTION (03 R59, R71): the intruder is reported once for the frame; the error that fails the frame follows. -/
def State.silkContention (s : State) (p : Nat) : State :=
  let v := s.port p
  if !v.cfg.silkEn || !v.inSilk || v.silk.contention then s
  else
    let s1 := s.modPort p fun v => { v with silk := { v.silk with contention := true }
                                            silkCnt := { v.silkCnt with intruders := incSat v.silkCnt.intruders 65535 } }
    ((s1.flagSilk p 4).portEvent p).event 0x010C p 3 (s1.port p).silkCnt.intruders 0

def execSilkContention (p : Port) (s : State) : Answer := answer (s.silkContention p.val)

/-! ## Bus-off (07 R151-R158) -/

/-- The entry lies no more than 10 s after the seventh entry before it (07 R158). -/
def PortErr.quarantineTest (e : PortErr) (now : Nat) : Bool :=
  match e.entries[6]? with
  | some t => decide (now ≤ t + 10000000)
  | none => false

/-- Quarantine (07 R158). -/
def State.quarantine (s : State) (p : Nat) : State :=
  let s1 := s.modPort p fun v => { v with
    err := { v.err with quarantined := true, quarEvents := incSat v.err.quarEvents 255 }
    stat := { v.stat with causes := insertNat 2 v.stat.causes } }
  ((s1.flagErr p 8).portEvent p).event 0x0105 p 3 (s1.port p).err.quarEvents 0

/-- Recovery is permitted at once where the policy or a quarantine says so (07 R154, R155). -/
def State.policyNow (s : State) (p : Nat) : State :=
  s.modPort p fun v => if v.stat.state = .busOff && v.recoveryDue s.us then v.startRecovery else v

/-- BUS_OFF_ENTRY (07 R152). -/
def State.busOffEntry (s0 : State) (p : Nat) : State :=
  let v := s0.port p
  if v.err.tec ≤ 255 || v.err.errState = 2 || v.stat.state != .active then s0
  else
    let s := s0.checkDeadlines p
    let now := s.us
    let q := v.err.quarantineTest now
    let s1 := s.modPort p fun v => { v with
      err := { v.err with tec := 256, errState := 2, recovSeq := 0, busOffs := incSat v.err.busOffs 65535, holdFrom := now,
                          entries := (now :: v.err.entries).take 8 }
      stat := { v.stat with state := .busOff, rx := none, tx := none, phase := 0, busIdle := false }
      tx := { v.tx with staged := none }
      mis := { v.mis with suspend := false, lastSender := false } }
    let e := (s1.port p).err
    let s2 := ((s1.flagErr p 2).portEvent p).event 0x0103 p 3 (e.tec * 65536 + e.recv) e.lastWord.toNat
    let s3 := (s2.discardObjs p).withdrawCopies p
    (if q then s3.quarantine p else s3).policyNow p

def execBusOffEntry (p : Port) (s : State) : Answer := answer (s.busOffEntry p.val)

/-- HOLDOFF_EXPIRY (07 R154). -/
def State.holdoffExpiry (s : State) (p : Nat) : State :=
  s.modPort p fun v => if v.stat.state = .busOff && bits v.cfg.recPolicy 1 0 = 1 then v.startRecovery else v

def execHoldoffExpiry (p : Port) (s : State) : Answer := .next (s.holdoffExpiry p.val)

/-- The port's Silk PLL is locked, or it has none (01 R24). -/
def State.pllLocked (s : State) (p : Nat) : Bool :=
  !(s.port p).mlvds p || (if p < 8 then s.run.pll0 else s.run.pll1) != 0

/-- RECOVERY_SEQUENCE (07 R156); counting pauses while the port's Silk PLL is unlocked (07 R170). Its 11 recessive bits arm
STUCK_DOMINANT again (07 R168). -/
def State.recoverySequence (s : State) (p : Nat) : State :=
  if (s.port p).stat.state = .recovering && s.pllLocked p then
    s.modPort p fun v => { v with err := { v.err with recovSeq := incSat v.err.recovSeq 128 }
                                  mis := { v.mis with stuckArmed := true } }
  else s

def execRecoverySequence (p : Port) (s : State) : Answer := .next (s.recoverySequence p.val)

/-- RECOVERY_COMPLETE: the 128th sequence, which stands for bus integration (07 R157, 03 R75). -/
def State.recoveryComplete (s : State) (p : Nat) : State :=
  let v := s.port p
  if v.stat.state = .recovering && v.err.recovSeq = 128 then
    let s1 := (s.checkDeadlines p).modPort p fun v => { v with
      err := { v.err with tec := 0, recv := 0, errState := 0 }
      stat := { v.stat with state := v.afterIntegration, busIdle := true, phase := 0, integrating := false }
      silk := { v.silk with ready := true }
      mis := { v.mis with stuckArmed := true } }
    ((s1.flagErr p 4).portEvent p).event 0x0104 p 1 v.err.busOffs 0
  else s

def execRecoveryComplete (p : Port) (s : State) : Answer := answer (s.recoveryComplete p.val)

/-- INTEGRATION_COMPLETE: 11 recessive bits have been counted; a port that a cause holds then enters GAUZE (02 R50, R51, 07 R161,
10 R242). -/
def State.integrationDone (s : State) (p : Nat) : State :=
  let failed := (s.engines.get {} (s.port p).engine).failed
  (s.modPort p fun v => v.integrated failed).withdrawMute p

def execIntegrationComplete (p : Port) (s : State) : Answer := answer (s.integrationDone p.val)

/-! ## Protocol exceptions (02 R37) -/

/-- PROTOCOL_EXCEPTION: the port stops receiving; an ACTIVE port enters PE_WAIT, one in GAUZE integrates. A port with SILK_EN
takes every format (02 R36). -/
def State.protocolException (s : State) (p : Nat) : State :=
  let v := s.port p
  if v.stat.rx.isNone || !v.cfg.peEn || v.cfg.silkEn then s
  else
    let s1 := s.modPort p fun v => { v with
      cnt := { v.cnt with peCount := incSat v.cnt.peCount 65535 }
      stat := { v.stat with rx := none, phase := 0, busIdle := false
                            state := if v.stat.state = .active then .peWait else v.stat.state
                            integrating := v.stat.integrating || v.stat.state = .gauze }
      silk := { v.silk with contention := false } }
    (s1.flagCh p 4).portEvent p

def execProtocolException (p : Port) (s : State) : Answer := answer (s.protocolException p.val)

end Sys2Proof.Machine
end

