-- ==== Sys2Proof/Machine/KeySet.lean ====
section
/-! DEFINITION. Exact sets of filter keys, the graph of the routes and its loop check (10 R239). A set of numbers is a list
of cubes: a value and the mask of the bits that are fixed. -/

namespace Sys2Proof.Machine

/-- The numbers `x` with `x &&& mask = value`. -/
structure Cube where
  value : Nat
  mask  : Nat
deriving DecidableEq, Repr

/-- The numbers in both. -/
def Cube.meet (a b : Cube) : Option Cube :=
  if (a.value ^^^ b.value) &&& (a.mask &&& b.mask) = 0 then some ⟨a.value ||| b.value, a.mask ||| b.mask⟩ else none

/-- The numbers of `a` outside `b`: for each bit that only `b` fixes, those that first differ from `b` there. -/
def Cube.minus (a b : Cube) : List Cube :=
  match a.meet b with
  | none => [a]
  | some _ =>
    ((nums 29).foldl (fun (r : List Cube × Cube) i =>
      if b.mask.testBit i && !a.mask.testBit i then
        let v := b.value &&& 2 ^ i
        let c := r.2
        (⟨c.value ||| (2 ^ i - v), c.mask ||| 2 ^ i⟩ :: r.1, ⟨c.value ||| v, c.mask ||| 2 ^ i⟩)
      else r) ([], a)).1

/-- The numbers of a list of cubes that lie in a cube, and outside it. -/
def meetAll (cs : List Cube) (b : Cube) : List Cube := cs.filterMap fun (a : Cube) => a.meet b
def minusAll (cs : List Cube) (b : Cube) : List Cube := cs.flatMap fun (a : Cube) => a.minus b

/-- The greatest k, at most `k`, with 2^k dividing `lo` and lo + 2^k - 1 at most `hi`. -/
def blockLog (lo hi : Nat) : Nat → Nat
  | 0 => 0
  | k + 1 => if lo % 2 ^ (k + 1) = 0 && decide (lo + 2 ^ (k + 1) - 1 ≤ hi) then k + 1 else blockLog lo hi k

/-- The numbers from `lo` to `hi` as cubes. -/
def rangeCubes : Nat → Nat → Nat → List Cube
  | 0, _, _ => []
  | n + 1, lo, hi =>
    if hi < lo then []
    else
      let k := blockLog lo hi 29
      ⟨lo, 2 ^ 29 - 2 ^ k⟩ :: rangeCubes n (lo + 2 ^ k) hi

/-- The cubes of an element's keys (05 R111). -/
def elemCubes (e : Elem) : List Cube :=
  match elemType e with
  | 0 => if elemA e &&& (2 ^ 29 - 1 - elemB e) = 0 then [⟨elemA e, elemB e⟩] else []
  | 1 => rangeCubes 64 (elemA e) (elemB e)
  | 2 => [⟨elemA e, 2 ^ 29 - 1⟩, ⟨elemB e, 2 ^ 29 - 1⟩]
  | _ => []

/-- The sums of a cube's numbers and `c` modulo 2^w: bits from `i` on with a carry, the sum so far in `acc`. -/
def addCube (a : Cube) (c : Nat) : Nat → Nat → Bool → Cube → List Cube
  | 0, _, _, acc => [acc]
  | n + 1, i, carry, acc =>
    let ci := c.testBit i
    let fix (x : Bool) (k : Bool) : List Cube :=
      let s := (x != ci) != k
      addCube a c n (i + 1) ((x && ci) || (x && k) || (ci && k)) ⟨acc.value ||| (if s then 2 ^ i else 0), acc.mask ||| 2 ^ i⟩
    if a.mask.testBit i then fix (a.value.testBit i) carry
    else if ci = carry then addCube a c n (i + 1) carry acc
    else fix false carry ++ fix true carry

/-- Keys of one format and identifier form. -/
structure KeySet where
  fmt   : Fmt
  ide   : Bool
  cubes : List Cube
deriving DecidableEq, Repr

/-- Splits the keys of a port's element list by the test `f` of their results: those that pass, and those no element
takes. -/
def elemKeys (f : Flt) (base : Nat) (fmt : Fmt) (ok : Nat → Bool) : List Nat → List Cube → List Cube × List Cube
  | [], rest => ([], rest)
  | i :: is, rest =>
    let e := f.elems.get ⟨0, 0, 0, 0⟩ (base + i)
    if elemEn e && (elemFmts e).testBit fmt.code then
      let cs := elemCubes e
      let hit := if ok (elemResult e) then cs.flatMap fun c => meetAll rest c else []
      let r := elemKeys f base fmt ok is (cs.foldl minusAll rest)
      (hit ++ r.1, r.2)
    else elemKeys f base fmt ok is rest

/-- The keys that a filter maps to a result that passes `ok`, for the formats of a port (05 R110-R112). -/
def keysTo (f : Flt) (c : PortCfg) (fmts : List Fmt) (ok : Nat → Bool) : List KeySet :=
  let std : List Cube :=
    if bit c.fltCtrl 31 then
      ((nums 2048).filter fun i => ok (f.dtable.get 0 (bits c.fltCtrl 28 24 * 2048 + i))).map fun i => ⟨i, 2 ^ 29 - 1⟩
    else if ok (bits c.fltDefStd 15 0) then [⟨0, 2 ^ 29 - 2 ^ 11⟩] else []
  let walk (fmt : Fmt) : List Cube :=
    let r := elemKeys f (bits c.fltElem 11 0) fmt ok (nums (bits c.fltElem 31 24)) [⟨0, if fmt.isXl then 3 * 2 ^ 27 else 0⟩]
    r.1 ++ (if ok (if fmt.isXl then bits c.fltDef 31 16 else bits c.fltDef 15 0) then r.2 else [])
  fmts.flatMap fun (fmt : Fmt) =>
    if fmt.isXl then [⟨fmt, false, walk fmt⟩] else [⟨fmt, false, std⟩, ⟨fmt, true, walk fmt⟩]

/-- The identifiers of a key set. -/
def KeySet.ids (k : KeySet) : List Cube :=
  if k.fmt.isXl then k.cubes.map fun c => ⟨c.value % 2 ^ 11, (c.mask % 2 ^ 11) ||| (2 ^ 29 - 2 ^ 11)⟩ else k.cubes

/-- The output keys of a route for a set of input keys (10 R228, R239). -/
def convertKeys (e : BitVec 64) (x : Word) (k : KeySet) : List KeySet :=
  let fmt := rteFmt e
  let full : Nat := 2 ^ 29 - 1
  let top (ide : Bool) : Nat := if ide then 0 else 2 ^ 29 - 2 ^ 11
  let ids : Option (Bool × List Cube) :=
    match rteIdMode e with
    | 0 => if k.ide && fmt.isXl then none else some (k.ide, k.ids)
    | 1 => some (rteIde e, if k.cubes.isEmpty then [] else [⟨rteNewId e, full⟩])
    | _ =>
      if k.ide && fmt.isXl then none
      else some (k.ide, k.ids.flatMap fun c => addCube c (rteNewId e) (if k.ide then 29 else 11) 0 false ⟨0, top k.ide⟩)
  match ids with
  | none => []
  | some (ide, cs) =>
    if fmt.isXl then
      let hi := (extSdt x).toNat * 2 ^ 19 + (extVcid x).toNat * 2 ^ 11
      [⟨fmt, false, cs.map fun c => ⟨hi + c.value % 2 ^ 11, c.mask ||| (2 ^ 29 - 2 ^ 11)⟩⟩]
    else [⟨fmt, ide, cs⟩]

/-- Some key is in both sets. -/
def KeySet.meets (a b : KeySet) : Bool :=
  a.fmt = b.fmt && a.ide == b.ide && a.cubes.any fun x => b.cubes.any fun y => (x.meet y).isSome

/-- The smallest arbitration key of a set (06 R131): its smallest identifier, as a data frame. -/
def KeySet.least (k : KeySet) : Option Nat :=
  k.ids.foldl (fun m c =>
    let a := Frame.arbKey { Frame.plain k.fmt (BitVec.ofNat 29 c.value) [] with ide := k.ide }
    match m with | none => some a | some b => some (min a b)) none

/-- The port on which a route's frames arrive: its source port, or that of the object it is keyed on (10 R224). -/
def State.routeSource (s : State) (e : BitVec 64) : Nat :=
  if rteKeyType e = 1 then rteSrc e else bits (s.obj (rteKey e)).cfg 29 24

/-- The output keys a route can produce (10 R239). -/
def State.routeKeys (s : State) (r : Nat) : List KeySet :=
  let v := s.route r
  let p := s.owner (s.routeSource v.entry)
  let c := (s.port p).cfg
  (keysTo s.flt c c.formats fun res => routeMatches v.entry p c res).flatMap fun (k : KeySet) => convertKeys v.entry v.ext k

/-- There is an edge from route `r`, whose output keys are `out`, to route `q` (10 R239). -/
def State.routeEdge (s : State) (r : Nat) (out : List KeySet) (q : Nat) : Bool :=
  let d := s.owner (s.route r).dst
  let e := (s.route q).entry
  if !rteEn e || s.owner (s.routeSource e) != d then false
  else
    let c := (s.port d).cfg
    (keysTo s.flt c c.formats fun res => routeMatches e d c res).any fun (k : KeySet) => out.any k.meets

/-- The routes in use. -/
def State.liveRoutes (s : State) : List Nat := (s.routes.filter fun e => rteEn e.2.entry).map Prod.fst

/-- The edges of the graph. -/
def State.routeGraph (s : State) : List (Nat × List Nat) :=
  s.liveRoutes.map fun r => let out := s.routeKeys r; (r, s.liveRoutes.filter fun q => s.routeEdge r out q)

/-- What can be reached from a set in `n` more steps. -/
def reach (g : List (Nat × List Nat)) : Nat → List Nat → List Nat
  | 0, l => l
  | n + 1, l => reach g n (l.foldl (fun m r => ((g.find? fun x => x.1 == r).map Prod.snd).getD [] |>.foldl (fun m q => insertNat q m) m) l)

/-- Every route in every cycle counts hops (10 R239): no route without a hop limit can reach itself. -/
def State.loopFree (s : State) : Bool :=
  let g := s.routeGraph
  g.all fun x => extHop (s.route x.1).ext != 0 || !(reach g g.length x.2).contains x.1

end Sys2Proof.Machine
end

