-- ==== Sys2Proof/Machine/Dense.lean ====
section
/-! DEFINITION. The Dense planner and its admission analysis (10 R246-R248, 13 R305, R306). Times are in units of 1/7200 us
times 65,536, so that phase units at PERIOD_NOM are whole numbers. -/

namespace Sys2Proof.Machine

/-- A frame of the plan: object, arbitration key, C, PERIOD_LOG, WIN_OFFSET, release and deadline in phase units. -/
structure Plan where
  obj      : Nat
  key      : Nat
  c        : Nat
  foreign  : Bool
  log      : Nat
  offset   : Nat
  release  : Nat
  deadline : Nat
deriving DecidableEq, Repr

/-- The arbitration key of an object's frame (06 R131). -/
def Obj.arbKey (v : Obj) : Nat :=
  Frame.arbKey { Frame.plain v.fmt (BitVec.ofNat 29 (bits v.id 28 0)) [] with ide := v.ide, rtr := v.rtr }

/-- The longest payload of an object's frames: its capacity, limited by its format (10 R248). -/
def Obj.longest (v : Obj) : Nat :=
  if v.rtr then 0
  else
    let n := min v.capacity v.fmt.maxLen
    if v.fmt = .fd then fdLengths.foldl (fun m k => if k ≤ n then max m k else m) 0 else n

/-- C of an object's frame (10 R248). -/
def State.worstOf (s : State) (o : Nat) : Nat :=
  let v := s.obj o
  65536 * durWorst (s.port v.port).cfg v.fmt v.ide v.brs v.longest

/-- The Dense entries of a port: those its last DENSE_SET gave (10, 13 R305). -/
def State.denseOf (s : State) (p : Nat) : List (BitVec 64) := (s.dense.filter fun e => e.1 == p).map Prod.snd

/-- The plan that entries give, with the releases the objects hold. -/
def State.planOf (s : State) (es : List (BitVec 64)) : List Plan :=
  (es.filter denEn).map fun e =>
    let o := denObj e
    let v := s.obj o
    { obj := o, key := v.arbKey, c := s.worstOf o, foreign := denForeign e, log := denPeriod e, offset := denOffset e,
      release := if denForeign e then 0 else v.releasePhase, deadline := denDeadline e }

/-- What the analysis of a port needs besides its plan. -/
structure PortLoad where
  unit   : Nat
  limit  : Nat
  fence  : Nat
  block  : Nat
  bit31  : Nat
  allow  : Nat
deriving DecidableEq, Repr

/-- L, F, B, 31 bit times and ERR_ALLOW of a port (10 R248). -/
def State.portLoad (s : State) (p allow : Nat) : PortLoad :=
  let c := (s.port p).cfg
  let y := s.trk.cfg
  { unit := y.phaseU 1, limit := y.phaseU y.shortest * (65536 - y.jumpTol) / 65536, fence := 65536 * fenceWorst c,
    block := 65536 * c.formats.foldl (fun m f => max m (durWorst c f (!f.isXl) false f.maxLen)) 0,
    bit31 := 65536 * (31 * nbitU c), allow := allow }

/-- Phase units as time. -/
def PortLoad.time (x : PortLoad) (n : Nat) : Nat := n * x.unit

/-- 20 us, the longest latching copy (04 R90). -/
def jitter : Nat := 65536 * 144000

/-- The frame latches in window `g` of the hyperperiod; FOREIGN ones count in every window (10 R246, R248). -/
def Plan.inWindow (k : Plan) (g : Nat) : Bool := k.foreign || g % 2 ^ k.log = k.offset

/-- hp(m) in window `g`. -/
def higher (l : List Plan) (m : Plan) (g : Nat) : List Plan :=
  l.filter fun k => decide (k.key < m.key) && k.inWindow g && k.obj != m.obj

/-- What the analysis finds: the finish, and whether the object is admitted. -/
structure Finish where
  at_ : Nat
  ok  : Bool
deriving DecidableEq, Repr

def sumC (l : List Plan) (f : Plan → Bool) : Nat := l.foldl (fun n k => if f k then n + k.c else n) 0

/-- The passes of the analysis (10 R248). Each pass but the last takes in one more frame, so `n` bounds them. -/
def passes (x : PortLoad) (m : Plan) (hp : List Plan) (e : Nat) : Nat → Nat → Finish
  | 0, s => { at_ := s + m.c, ok := false }
  | n + 1, prev =>
    let o (k : Plan) : Nat := x.time k.release
    let a := x.block + x.fence + e + sumC hp fun k => decide (o k < prev)
    let b := o m + jitter + x.block + e + sumC hp fun k => decide (o m ≤ o k + jitter) && decide (o k < prev)
    let s := max a b
    if x.limit < s then { at_ := s + m.c, ok := false }
    else if s = prev then
      let f := s + m.c
      { at_ := f, ok := decide (f ≤ o m + x.time m.deadline) && decide (f ≤ x.limit) }
    else passes x m hp e n s

/-- The analysis of object `m` in window `g` (10 R248). -/
def analyse (x : PortLoad) (l : List Plan) (m : Plan) (g : Nat) : Finish :=
  let hp := higher l m g
  let e := x.allow * (x.bit31 + hp.foldl (fun n k => max n k.c) m.c)
  passes x m hp e (2 * hp.length + 3) (x.block + x.fence + e)

/-- The windows in which an object latches, over the 64-window hyperperiod. -/
def Plan.windows (m : Plan) : List Nat := (nums 64).filter fun g => g % 2 ^ m.log = m.offset

/-- The worst finish of an object over its windows: the first refusal, else the greatest. -/
def worstFinish (x : PortLoad) (l : List Plan) (m : Plan) : Finish × Nat :=
  m.windows.foldl (fun (r : Finish × Nat) g =>
    if !r.1.ok then r
    else
      let f := analyse x l m g
      if !f.ok || r.1.at_ < f.at_ then (f, g) else r) ({ at_ := 0, ok := true }, 0)

/-- Step 1 of the planner: the offset with the lowest maximum load for one object (10 R247). -/
def bestOffset (l : List Plan) (m : Plan) : Nat :=
  let load (off g : Nat) : Nat := sumC l (fun k => !k.foreign && k.inWindow g) + (if g % 2 ^ m.log = off then m.c else 0)
  let worst (off : Nat) : Nat := (nums 64).foldl (fun n g => max n (load off g)) 0
  ((nums (2 ^ m.log)).foldl (fun (b : Nat × Nat) off => if off = 0 || worst off < b.2 then (off, worst off) else b) (0, 0)).1

/-- Offsets for every planned object in ascending PERIOD_LOG, then key; every release is 0 (10 R247 steps 1 and 2). -/
def placeAll (l : List Plan) : List Plan :=
  let own := sortBy (fun (k : Plan) => k.log * 2 ^ 40 + k.key) (l.filter fun k => !k.foreign)
  own.foldl (fun r m => let m1 := { m with release := 0 }; r ++ [{ m1 with offset := bestOffset r m1 }])
    ((l.filter fun k => k.foreign).map fun k => { k with release := 0 })

def setRelease (l : List Plan) (o rel : Nat) : List Plan := l.map fun (k : Plan) => if k.obj = o then { k with release := rel } else k

/-- Phase units, rounded up. -/
def PortLoad.unitsUp (x : PortLoad) (t : Nat) : Nat := if x.unit = 0 then 0 else (t + x.unit - 1) / x.unit

/-- The moves that make `m` pass in window `g`: candidates in turn; a moved object that no longer passes returns (10 R247
step 3). -/
def moves (x : PortLoad) (m : Plan) (g : Nat) : List Plan → List Plan → List Plan
  | [], l => l
  | k :: ks, l =>
    let w := analyse x l m g
    if w.ok then l
    else
      let rel := x.unitsUp w.at_
      let l1 := setRelease l k.obj rel
      if decide (rel < 65536) && (worstFinish x l1 { k with release := rel }).1.ok then moves x m g ks l1 else moves x m g ks l

/-- Slack of an object: its deadline less its worst finish. -/
def slackOf (x : PortLoad) (l : List Plan) (k : Plan) : Int :=
  (x.time (k.release + k.deadline) : Int) - (worstFinish x l k).1.at_

/-- A failing object is mended in one window after another, if moves can do it; `n` bounds the windows. -/
def mend (x : PortLoad) (m : Plan) : Nat → List Plan → List Plan
  | 0, l => l
  | n + 1, l =>
    let w := worstFinish x l m
    if w.1.ok then l
    else
      let cand := (higher l m w.2).filter fun k => !k.foreign
      let top : Int := cand.foldl (fun t k => max t (slackOf x l k)) 0
      let l1 := moves x m w.2 (sortBy (fun (k : Plan) => (top - slackOf x l k).toNat) cand) l
      if (analyse x l1 m w.2).ok then mend x m n l1 else l1

/-- The first failing object in ascending DEADLINE, then key (13 R305). -/
def firstFailing (x : PortLoad) (l : List Plan) : Option (Plan × Finish) :=
  (sortBy (fun (k : Plan) => k.deadline * 2 ^ 40 + k.key) (l.filter fun k => !k.foreign)).findSome? fun m =>
    let w := (worstFinish x l m).1
    if w.ok then none else some (m, w)

/-- Step 3 over the objects in order, up to the first that no move makes pass, which refuses the configuration. -/
def mendAll (x : PortLoad) : List Plan → List Plan → List Plan × Option Plan
  | [], l => (l, none)
  | m :: ms, l =>
    let k := (l.find? fun k => k.obj == m.obj && !k.foreign).getD m
    let l1 := mend x k 64 l
    if (worstFinish x l1 k).1.ok then mendAll x ms l1 else (l, some k)

/-- The planner, and the object at which it refuses (10 R247). -/
def planRun (x : PortLoad) (l : List Plan) : List Plan × Option Plan :=
  mendAll x (sortBy (fun (k : Plan) => k.deadline * 2 ^ 40 + k.key) ((placeAll l).filter fun k => !k.foreign)) (placeAll l)

def planAll (x : PortLoad) (l : List Plan) : List Plan := (planRun x l).1

/-- The object that refuses a plan: where the plan is the planner's own, the one at which the planner stopped; else the first that
fails (10 R247, R248, 13 R305). -/
def refusing (x : PortLoad) (l : List Plan) : Option (Plan × Finish) :=
  let r := planRun x l
  match firstFailing x l, r.2 with
  | none, _ => none
  | some f, none => some f
  | some f, some m => if l.all fun k => k.foreign || r.1.contains k then some (m, (worstFinish x l m).1) else some f

/-- Time in 10 ns, rounded up. -/
def up10ns (t : Nat) : Nat := (t + 65536 * 72 - 1) / (65536 * 72)

/-- The result of ADMISSION_REFUSED (13 R305). -/
def admissionResult (p cause n fin dead lim : Nat) : List Byte :=
  leBytes 1 p ++ leBytes 1 cause ++ leBytes 2 n ++ leBytes 4 fin ++ leBytes 4 dead ++ leBytes 4 lim

/-- Why a port's plan is refused, as the result to answer; none when it is admitted (10 R248, 13 R305). -/
def State.admission (s : State) (p : Nat) (x : PortLoad) (l : List Plan) : Option (List Byte) :=
  let own := l.filter fun (k : Plan) => !k.foreign
  if own.isEmpty then none
  else
    let top := own.foldl (fun n k => max n k.key) 0
    let planned (o : Nat) : Bool := own.any fun k => k.obj == o
    match refusing x l with
    | some (m, w) =>
      some (admissionResult p 1 m.obj (up10ns w.at_) (up10ns (x.time (m.release + m.deadline))) (up10ns x.limit))
    | none =>
      match s.objs.find? fun e => e.2.en && e.2.send && e.2.port = p && !planned e.1 && decide (e.2.arbKey < top) with
      | some e => some (admissionResult p 2 e.1 0 0 0)
      | none =>
        match s.liveRoutes.find? fun r => s.owner (s.route r).dst = p &&
            (s.routeKeys r).any fun (k : KeySet) => match k.least with | some a => decide (a < top) | none => false with
        | some r => some (admissionResult p 3 r 0 0 0)
        | none => none

/-- The analysis of a port as it stands (13 R306). -/
def State.admitPort (s : State) (p : Nat) : Option (List Byte) :=
  s.admission p (s.portLoad p (s.port p).cfg.errAllow) (s.planOf (s.denseOf p))

/-- The first port of a list that is not admitted. -/
def State.admitPorts (s : State) (ps : List Nat) : Option (List Byte) := ps.findSome? s.admitPort

/-! ## DENSE_SET (13 R305) -/

/-- The plan that DENSE_SET gives a port. -/
def State.newPlan (s : State) (p allow : Nat) (es : List (BitVec 64)) : List Plan :=
  planAll (s.portLoad p allow) (s.planOf es)

/-- An entry with the offset the plan gives its object. -/
def withOffset (l : List Plan) (e : BitVec 64) : BitVec 64 :=
  match l.find? fun k => k.obj == denObj e && !k.foreign with
  | some k => if denEn e && !denForeign e then setBits e 44 39 k.offset else e
  | none => e

/-- DENSE_SET takes effect: the port's entries, WIN_OFFSET, and the releases of planned objects (13 R305). -/
def State.setDense (s : State) (p allow : Nat) (es : List (BitVec 64)) : State :=
  let l := s.newPlan p allow es
  let left := (s.denseOf p).map denObj
  let s1 := forAll (fun o s => s.modObj o fun v => { v with sched := v.sched &&& 0xFFFF7FFF#32 }) left s
  let s2 := { s1 with dense := (s.dense.filter fun e => e.1 != p) ++ es.map fun e => (p, withOffset l e) }
  let s3 := forAll (fun (k : Plan) s => if k.foreign then s
    else s.modObj k.obj fun v => { v with sched := image [(16, k.release), (15, 1)] }) l s2
  s3.modPort p fun v => { v with cfg := { v.cfg with errAllow := allow } }

/-- The entries part of the results of DENSE_SET and DENSE_READ: OBJ, WIN_OFFSET, RELEASE_PHASE, FINISH (13). -/
def State.denseResult (s : State) (p : Nat) : List Byte :=
  let es := s.denseOf p
  let x := s.portLoad p (s.port p).cfg.errAllow
  let l := s.planOf es
  leBytes 2 es.length ++ zeros 2 ++ es.flatMap fun e =>
    let fin := match l.find? fun k => k.obj == denObj e && !k.foreign with
      | some k => if denForeign e then 0 else x.unitsUp (worstFinish x l k).1.at_
      | none => 0
    leBytes 2 (denObj e) ++ leBytes 1 (denOffset e) ++ zeros 1 ++
      leBytes 2 (if denForeign e then 0 else (s.obj (denObj e)).releasePhase) ++ leBytes 2 fin

end Sys2Proof.Machine
end

