-- ==== Sys2Proof/Machine/Power.lean ====
section
/-! DEFINITION. The power die: feeds, ORing, hot-swap machine, e-fuse and Felt (18). -/

namespace Sys2Proof.Machine

/-- The number of a feed in records (18 R422). -/
def feedNum : Feed → Nat
  | .a => 0
  | .b => 1

/-- A feed of the power die. -/
def Pwr.feed (w : Pwr) : Feed → FeedS
  | .a => w.feedA
  | .b => w.feedB

/-- Changes a feed. -/
def State.modFeed (s : State) (f : Feed) (g : FeedS → FeedS) : State :=
  match f with
  | .a => { s with pwr := { s.pwr with feedA := g s.pwr.feedA } }
  | .b => { s with pwr := { s.pwr with feedB := g s.pwr.feedB } }

/-- Raises a power or field source: only while the frame die runs (or in SLEEP, `State.raise`) and the power link is up
(18 R422, R423, 01 R8). -/
def State.powerRaise (s : State) (n : Nat) : State :=
  if s.dev.mode = .insert || s.dev.mode = .latched || !s.link.up then s else s.raise n

/-- An event of the power die. With the power link down Amioc writes it into the spill area, for the frame die
(01 R9, 17 R396). -/
def State.powerEvent (s : State) (code source sev d0 d1 : Nat) : State :=
  if s.link.up then s.event code source sev d0 d1
  else
    let r : Record := { rseq := 0, epoch := 0, code := code, time := 0, source := source, sev := sev, flags := 6,
                        d0 := d0, d1 := d1 }
    { s with rcd := s.rcd.pushSpill { r := r, wrote := s.us, last := s.us, live := false } }

/-- Sets bits of PWR_FLAGS (18). -/
def State.flagPwr (s : State) (m : Word) : State := { s with pwr2 := { s.pwr2 with flags := s.pwr2.flags ||| m } }

/-- The machine is in RAMP or ON and the module is in place: after removal the gates stay pulled and nothing is a trip, until
the power die is unpowered (18 R407, R421). -/
def Pwr.isIn (w : Pwr) (h : Hs) : Bool := w.present && w.hs == h

/-- Setting `i`, of persistent registers 0x101 to 0x107, as in force (18 R426, R428). -/
def Pwr.setting (w : Pwr) (i : Nat) : Word := w.settings.getD (i - 0x101) (factoryReg i)

/-- The sources held while the frame die was unpowered are raised at its first start, once Buckram runs and the power link is up
(18 R423). -/
def State.raiseHeld (s : State) : State :=
  if s.run.buckram && s.link.up then
    { forAll (fun n (s : State) => s.powerRaise n) s.pwr2.unreported s with pwr2 := { s.pwr2 with unreported := [] } }
  else s

/-- RETRIES, TRIP_Q and ILIM of the settings in force (18 R426). -/
def Pwr.retries (w : Pwr) : Nat := bits w.limits 26 24
def Pwr.tripQ (w : Pwr) : Nat := bits w.limits 20 16
def Pwr.ilim (w : Pwr) : Nat := bits w.limits 10 0

/-- The fast-trip threshold in mA: TRIP_Q / 4 x ILIM (18 R412). -/
def Pwr.fastMa (w : Pwr) : Nat := w.tripQ * w.ilim * 10 / 4

/-- TS_MODE is 1: an NTC is fitted (18 R425, R426). -/
def State.tsMode (s : State) : Bool := bits (s.pwr.setting 0x103) 29 28 = 1

/-- TS_TRIP, FELT_WARN, FELT_TRIP, T_AMB and FELT_COOL in 0.1 degree (18 R426). -/
def State.tsTrip (s : State) : Int := bits (s.pwr.setting 0x103) 27 16
def State.feltWarn (s : State) : Int := bits (s.pwr.setting 0x106) 31 16
def State.feltTrip (s : State) : Int := bits (s.pwr.setting 0x106) 15 0
def State.tAmb (s : State) : Int := bits (s.pwr.setting 0x107) 31 16
def State.feltCool (s : State) : Int := bits (s.pwr.setting 0x107) 15 0

/-- t_ref of Felt (18 R413). -/
def State.tRef (s : State) : Int :=
  if s.tsMode && !s.pwr.tsFault then max s.tAmb s.pwr2.tsense else s.tAmb

/-- The 32 bytes of the state line (18 R427). -/
def StateLine.bytes (l : StateLine) : List Byte :=
  let b := leBytes 1 l.count ++ leBytes 1 l.cause ++ leBytes 1 (flag l.latched) ++ [0] ++
    leBytes 2 (BitVec.ofInt 16 l.tj).toNat ++ [0, 0] ++ leBytes 4 l.trips ++ leBytes 4 l.latches ++ zeros 12 ++
    leBytes 2 l.seq.toNat
  b ++ [crc8 b, 0xA5]

/-- What a state line says; none when it is not valid: its CRC-8 or its VALID byte does not match (18 R427). -/
def stateLineOf (b : List Byte) : Option StateLine :=
  if b.length = 32 && b.getD 31 0 = 0xA5 && b.getD 30 0 = crc8 (b.take 30) then
    some { count := u8At b 0, cause := u8At b 1, latched := (b.getD 2 0).getLsbD 0,
           tj := (BitVec.ofNat 16 (u16At b 4)).toInt, trips := u32At b 8, latches := u32At b 12,
           seq := BitVec.ofNat 16 (u16At b 0x1C) }
  else none

/-- The valid state line of the keep-die area with the greater SEQ (18 R427). -/
def Keep.stateLine (k : Keep) : Option StateLine :=
  match stateLineOf (k.area.get [] 0), stateLineOf (k.area.get [] 1) with
  | some x, some y => some (if 0 < (x.seq - y.seq).toInt then x else y)
  | some x, none => some x
  | none, y => y

/-- Writes the state line: SEQ counts up, the two lines in turn (18 R416, R427). -/
def State.writeStateLine (s : State) : State :=
  let w := s.pwr
  let sq := w.line.seq + 1
  let l : StateLine := { w.line with count := w.count, cause := w.cause, latched := w.hs == .latched, seq := sq }
  { s with pwr := { w with line := l }
           keep := s.keep.queue .p { line := 0x240 + sq.toNat % 2, area := some l.bytes } }

/-- The count clears: RFC is discharged and the state line written (18 R407, R416, R418). -/
def State.clearCount (s : State) : State :=
  let s' := { s with pwr := { s.pwr with count := 0, rfcArmed := false } }
  if s.pwr.count = 0 then s' else s'.writeStateLine

/-- The release of LATCHED and COOL: the count clears, RFC is discharged, and the machine stands in COOL with the
interval elapsed (18 R407, R417). A release in RAMP or ON has nothing to release but a trip of the same tick (18 R421). -/
def State.hsRelease (s : State) : State :=
  if s.pwr.hs == .latched || s.pwr.hs == .cool then
    let s1 := { s with pwr := { s.pwr with hs := .cool, elapsed := true } }.clearCount
    { s1 with dev := { s1.dev with mode := .insert } }
  else { s with pwr2 := { s.pwr2 with released := some s.pwr2.osc } }

/-- The instant lies in the present tick of the power die's 1 MHz oscillator (18 R421). -/
def Pwr2.thisTick (w : Pwr2) (t : Nat) : Bool := t / 100 == w.osc / 100

/-- An event the power die holds until the frame die runs again (18 R423). -/
def State.holdUnreported (s : State) (n : Nat) : State :=
  { s with pwr2 := { s.pwr2 with unreported := insertNat n s.pwr2.unreported, alert := true } }

/-- A trip in RAMP or ON: gates pulled, cause and T_J recorded, RFC charged, COOL or LATCHED; the frame die is held in
reset (18 R407, R416, R418, R421, R423). -/
def State.tripNow (s : State) (cause d0 d1 : Nat) : State :=
  let w := s.pwr
  let latch := !decide (w.count < w.retries)
  let l : StateLine := { w.line with tj := s.pwr2.tj, trips := incSat w.line.trips 0xFFFFFFFF,
                                     latches := if latch then incSat w.line.latches 0xFFFFFFFF else w.line.latches }
  let s1 := { s with
    pwr := { w with hs := if latch then .latched else .cool, cause := cause, rfcArmed := true, pgood := false,
                    limiting := false, elapsed := false, line := l }
    pwr2 := { s.pwr2 with tripAt := some s.pwr2.osc } }
  let s2 := ((s1.writeStateLine).frameDown (if latch then .latched else .insert)).holdUnreported 145
  let s3 := s2.powerEvent 0x0502 2 4 d0 d1
  if latch then (s3.holdUnreported 148).powerEvent 0x0505 2 4 w.count w.retries else s3

/-- The count that a clear in this tick has cleared stands again: the trip comes first (18 R421). -/
def State.unclear (s : State) : State :=
  match s.pwr2.cleared with
  | some (t, n, armed) => if s.pwr2.thisTick t then { s with pwr := { s.pwr with count := n, rfcArmed := armed } } else s
  | none => s

/-- A trip in RAMP or ON, ahead of a count-clear and of a release of the same tick (18 R421). -/
def State.trip (s : State) (cause d0 d1 : Nat) : State :=
  let s1 := s.unclear.tripNow cause d0 d1
  match s.pwr2.released with
  | some t => if s.pwr2.thisTick t then s1.hsRelease else s1
  | none => s1

/-- The newest EFUSE_TRIP record of the spill area with the cause's measured value and threshold. -/
def Recorder.amendTrip (q : Recorder) (d0 d1 : Nat) : Recorder :=
  let trips := (nums q.spill.length).filter fun i => match q.spill[i]? with | some v => v.r.code == 0x0502 | none => false
  match (sortBy (fun i => q.spillAge i) trips).reverse with
  | i :: _ => { q with spill := q.spill.modify i fun v => { v with r := { v.r with d0 := d0, d1 := d1 } } }
  | [] => q

/-- A second cause in the tick of a trip: the one with the lower code is recorded, in the state line as well (18 R421). -/
def State.recause (s : State) (cause d0 d1 : Nat) : State :=
  let w := s.pwr
  if (w.hs == .cool || w.hs == .latched) && w.present && decide (cause < w.cause) && s.pwr2.tripAt.any s.pwr2.thisTick then
    let l : StateLine := { w.line with cause := cause }
    let fix (j : KeepJob) : KeepJob := if j.area = some w.line.bytes then { j with area := some l.bytes } else j
    { s with pwr := { w with cause := cause, line := l }, rcd := s.rcd.amendTrip d0 d1
             keep := { s.keep with jobsP := s.keep.jobsP.map fix, busy := s.keep.busy.map fix } }
  else s

/-- A trip cause arises: a trip where the state allows it, else a second cause of the tick's trip (18 R407, R421). -/
def State.tripIf (s : State) (cond : Bool) (cause d0 d1 : Nat) : State :=
  if cond then s.trip cause d0 d1 else s.recause cause d0 d1

/-- The pass FET is taken to be shorted: both ORing pairs are opened and held, FET_FAULT (18 R412, R420). Where no fast trip has gone
before it (`anew`), it is a trip of its own: counted, with its T_J, record and charged RFC (18 R418, R421, log entry 152). -/
def State.fetFault (s : State) (anew : Bool) (d0 d1 : Nat) : State :=
  let w := s.pwr
  let l : StateLine := if anew then { w.line with tj := s.pwr2.tj, trips := incSat w.line.trips 0xFFFFFFFF } else w.line
  let s1 := { s with pwr := { w with hs := .fetFault, cause := 1, feedA := { w.feedA with on := false },
                                     feedB := { w.feedB with on := false }, pgood := false,
                                     rfcArmed := w.rfcArmed || anew, line := l } }
  let s2 := (((s1.writeStateLine).frameDown .latched).holdUnreported 145).holdUnreported 146
  let s3 := if anew then s2.powerEvent 0x0502 2 4 d0 d1 else s2
  s3.powerEvent 0x0503 2 4 d0 d1

/-- FEED_WARN_N is driven low: a feed named in FEED_USE is in the warning state (18 R405). -/
def State.feedWarnLow (s : State) : Bool :=
  let u := bits (s.pwr.setting 0x103) 31 30
  (u % 2 = 1 && s.pwr.feedA.warn) || (u / 2 = 1 && s.pwr.feedB.warn)

/-! ## Feeds and ORing -/

/-- START is entered: the settings' line and the two state lines are read over keep link P (18 R407, R426, R427, 01 R7). -/
def State.enterStart (s : State) : State :=
  { s with pwr := { s.pwr with hs := .start, ready := false }
           keep := { s.keep with feedsLost := false }.queueMove .p .lineRead 1 3 }

/-- FEED_STATE_CHANGE (18 R402, R406). -/
def State.feedState (s : State) (f : Feed) (ok : Bool) : State :=
  let s1 := s.modFeed f fun v => { v with ok := ok }
  if ok && s.keep.feedsLost && s.pwr2.powered && s.pwr.present && s.pwr.hs == .off then s1.enterStart else s1

def execFeedStateChange (f : Feed) (ok : Bool) (s : State) : Answer := .next (s.feedState f ok)

/-- Amioc stops, and its SRAM is lost: DEV_FW_MGMT reads 0 (11). -/
def Fw.amiocOff (f : Fw) : Fw :=
  { f with parts := f.parts.map fun e => (e.1, if e.1 = 2 then { e.2 with running := 0, sram := none, cutover := none } else e.2) }

/-- An ORing pair closes, unless the module is removed or both pairs are held open; a machine in START whose reads are complete goes
to RAMP (18 R403, R407, R420). -/
def State.closePair (s : State) (f : Feed) : State :=
  if s.pwr.present && s.pwr.hs != .off && s.pwr.hs != .fetFault then
    let s1 := s.modFeed f fun v => { v with on := true }
    if s.pwr.hs == .start && s.pwr.ready then { s1 with pwr := { s1.pwr with hs := .ramp, ready := false } } else s1
  else s

/-- ORING_CLOSE (18 R403). -/
def State.oringClose (s : State) (f : Feed) : State :=
  let v := s.pwr.feed f
  if v.ok && !v.ov then s.closePair f else s

def execOringClose (f : Feed) (s : State) : Answer := .next (s.oringClose f)

/-- REVERSE_TURN_OFF: the pair blocks, the event is counted, REVERSE_CURRENT (18 R403). -/
def State.reverseOff (s : State) (f : Feed) (mv : Nat) : State :=
  if (s.pwr.feed f).on then
    let s1 := s.modFeed f fun v => { v with on := false, revs := incSat v.revs 65535 }
    ((s1.flagPwr 4).powerRaise 150).powerEvent 0x0506 (feedNum f) 3 mv 10
  else s

def execReverseTurnOff (f : Feed) (mv : BitVec 16) (s : State) : Answer := answer (s.reverseOff f mv.toNat)

/-- FEED_OVERVOLTAGE: the pair opens, OV is set (18 R404). -/
def State.overvoltage (s : State) (f : Feed) : State := s.modFeed f fun v => { v with on := false, ov := true }

def execFeedOvervoltage (f : Feed) (s : State) : Answer := .next (s.overvoltage f)

/-- OVERVOLTAGE_RECLOSE: the pair closes again (18 R404); in FET_FAULT both pairs are held open (18 R420). -/
def State.reclose (s : State) (f : Feed) : State :=
  if (s.pwr.feed f).ov then (s.modFeed f fun v => { v with ov := false }).closePair f else s

def execOvervoltageReclose (f : Feed) (s : State) : Answer := .next (s.reclose f)

/-- FEED_WARN: the raw comparator of a feed (18 R405, R423). -/
def State.feedWarn (s : State) (f : Feed) (warning : Bool) (mv : Nat) : State :=
  let was := (s.pwr.feed f).warn
  let s1 := s.modFeed f fun v => { v with warn := warning }
  if warning && !was then
    let n := feedNum f
    ((s1.flagPwr (BitVec.ofNat 32 (2 ^ n))).powerRaise (143 + n)).powerEvent 0x0501 n 3 mv
      (if mv < 17000 then 17000 else 36000)
  else s1

def execFeedWarn (f : Feed) (warning : Bool) (mv : BitVec 16) (s : State) : Answer :=
  answer (s.feedWarn f warning mv.toNat)

/-- BOTH_FEEDS_LOST: every gate is pulled, the frame die is reset, the keep die begins no further line write (18 R406,
17 R381), the spill area is lost (17 R396). Not a trip: count and RFC keep their state. -/
def State.feedsLost (s : State) : State :=
  if !s.pwr.feedA.ok && !s.pwr.feedB.ok && s.pwr.hs != .off then
    let w := s.pwr
    let s1 := { s with
      pwr := { w with hs := if w.hs == Hs.fetFault then Hs.fetFault else Hs.off, feedA := { w.feedA with on := false },
                      feedB := { w.feedB with on := false }, pgood := false, limiting := false }
      keep := { s.keep with feedsLost := true }
      mgt := { s.mgt with spillAt := 0 }
      rcd := { s.rcd with spill := [], spillLost := 0, spillNext := 1 } }
    s1.frameDown (if w.hs == Hs.fetFault then Mode.latched else Mode.insert)
  else s

def execBothFeedsLost (s : State) : Answer := .next s.feedsLost

/-! ## The hot-swap machine -/

/-- Persistent register `i` as the keep die holds it, which a read over keep link P returns (18 R426). -/
def Keep.reg (k : Keep) (i : Nat) : Word := k.regs.get (factoryReg i) i

/-- HS_START_READS_DONE (18 R407, R418, R419, R426). An area without a valid line cannot be read (log entry 154). -/
def State.startReads (s : State) (configOk areaOk rfcSeen : Bool) : State :=
  if s.pwr.hs == .start then
    let read := if areaOk then s.keep.stateLine else none
    let l := read.getD {}
    let s1 := { s with pwr := { s.pwr with
      limits := if configOk then s.keep.reg 0x100 else factoryReg 0x100
      settings := if configOk then (numsFrom 0x101 7).map s.keep.reg else []
      rfcSeen := rfcSeen, line := l } }
    if rfcSeen then
      let n := if read.isSome then l.count else s1.pwr.retries
      let latch := !decide (n < s1.pwr.retries) || l.latched
      let s2 := { s1 with
        pwr := { s1.pwr with count := n, cause := if read.isSome then l.cause else s1.pwr.cause, rfcArmed := n != 0,
                             hs := if latch then .latched else .cool, elapsed := true }
        pwr2 := { s1.pwr2 with dt1 := 0, dt2 := (s1.feltTrip - s1.tRef) * 2 ^ 32, tj := s1.feltTrip } }
      { s2 with dev := { s2.dev with mode := if latch then .latched else .insert } }
    else
      let s2 := s1.clearCount
      { s2 with pwr := { s2.pwr with hs := if s2.pwr.feedA.on || s2.pwr.feedB.on then .ramp else .start,
                                     ready := !(s2.pwr.feedA.on || s2.pwr.feedB.on) } }
  else s

def execHsStartReadsDone (configOk areaOk rfcSeen : Bool) (s : State) : Answer :=
  .next (s.startReads configOk areaOk rfcSeen)

/-- PGOOD_ASSERT: in RAMP the machine goes ON and the frame die is released into BOOT; in ON a reassertion raises
PGOOD_CHANGE (18 R407, R410). -/
def State.pgoodOn (s : State) (mv : Nat) : State :=
  if s.pwr.isIn .ramp then { s with pwr := { s.pwr with hs := .on, pgood := true } }.releaseBoot
  else if s.pwr.isIn .on && !s.pwr.pgood then
    ({ s with pwr := { s.pwr with pgood := true } }.powerRaise 149).powerEvent 0x0507 2 1 mv 100
  else s

def execPgoodAssert (mv : BitVec 16) (s : State) : Answer := answer (s.pgoodOn mv.toNat)

/-- PGOOD_DEASSERT in ON (18 R410). -/
def State.pgoodOff (s : State) (vds : Bool) (mv : Nat) : State :=
  if s.pwr.isIn .on && s.pwr.pgood then
    (({ s with pwr := { s.pwr with pgood := false } }.flagPwr 0x20).powerRaise 149).powerEvent 0x0507 2 1 mv
      (if vds then 1000 else 8000)
  else s

def execPgoodDeassert (vds : Bool) (mv : BitVec 16) (s : State) : Answer := answer (s.pgoodOff vds mv.toNat)

/-- PG_LOST: PGOOD stayed low for 2 ms in ON (18 R410). -/
def State.pgLost (s : State) (mv : Nat) : State :=
  s.tripIf (s.pwr.isIn .on && !s.pwr.pgood) 5 mv 1000

def execPgLost (mv : BitVec 16) (s : State) : Answer := answer (s.pgLost mv.toNat)

/-- RAMP_TIMEOUT (18 R409, R422). -/
def State.rampTimeout (s : State) (vout vbus : Nat) : State :=
  s.tripIf (s.pwr.isIn .ramp) 6 vout vbus

def execRampTimeout (vout vbus : BitVec 16) (s : State) : Answer := answer (s.rampTimeout vout.toNat vbus.toNat)

/-- PGOOD_HELD_60S: the count clears, RFC is discharged (18 R407). -/
def State.held60 (s : State) : State :=
  if s.pwr.isIn .on && s.pwr.pgood then
    { s with pwr2 := { s.pwr2 with cleared := some (s.pwr2.osc, s.pwr.count, s.pwr.rfcArmed) } }.clearCount
  else s

def execPgoodHeld60s (s : State) : Answer := .next s.held60

/-- CURRENT_LIMIT_ENGAGE (18 R411). -/
def State.limitOn (s : State) : State :=
  if s.pwr.isIn .on && !s.pwr.limiting then
    { s with pwr := { s.pwr with limiting := true }
             pwr2 := { s.pwr2 with limitEvents := incSat s.pwr2.limitEvents 65535 } }.flagPwr 0x10
  else s

def execCurrentLimitEngage (s : State) : Answer := .next s.limitOn

/-- CURRENT_LIMIT_END (18 R411). -/
def execCurrentLimitEnd (s : State) : Answer := .next { s with pwr := { s.pwr with limiting := false } }

/-- FAST_TRIP (18 R412). -/
def State.fastTrip (s : State) (ma : Nat) : State :=
  s.tripIf (s.pwr.isIn .ramp || s.pwr.isIn .on) 2 ma s.pwr.fastMa

def execFastTrip (ma : BitVec 16) (s : State) : Answer := answer (s.fastTrip ma.toNat)

/-- BACKUP_TRIP: the current still flows 5 us after a fast trip (18 R412). -/
def State.backupTrip (s : State) (ma : Nat) : State :=
  if (s.pwr.hs == .cool || s.pwr.hs == .latched) && s.pwr.cause = 2 then s.fetFault false ma s.pwr.fastMa else s

def execBackupTrip (ma : BitVec 16) (s : State) : Answer := answer (s.backupTrip ma.toNat)

/-- FET_SHORT: HS_OUT above 2.0 V for 20 ms with the gate off (18 R420). -/
def State.fetShort (s : State) (mv : Nat) : State :=
  if s.pwr.hs == .cool || s.pwr.hs == .latched || s.pwr.hs == .start then s.fetFault true mv 2000 else s

def execFetShort (mv : BitVec 16) (s : State) : Answer := answer (s.fetShort mv.toNat)

/-- Felt's update of one pole: `p` in mW, `r` in 0.01 degree per watt, `n` ticks of 10 us to the time constant
(18 R413). -/
def feltPole (dt : Int) (p r n : Nat) : Int :=
  let target : Int := (p * r : Nat) * 2 ^ 32 / 10000
  dt + (target - dt) / (n : Int)

/-- FELT_UPDATE (18 R413, R414): with the gate off P is 0. -/
def State.feltUpdate (s : State) (power tsense : Nat) (openShort : Bool) : State :=
  let gate := s.pwr.isIn .ramp || s.pwr.isIn .on
  let p := if gate then power else 0
  let p1 := s.pwr.setting 0x104
  let p2 := s.pwr.setting 0x105
  let ts : Int := if tsense < 32768 then (tsense : Int) else (tsense : Int) - 65536
  let s0 := { s with pwr := { s.pwr with tsFault := openShort }
                     pwr2 := { s.pwr2 with tsense := ts
                                           dt1 := feltPole s.pwr2.dt1 p (bits p1 15 0) (bits p1 31 16)
                                           dt2 := feltPole s.pwr2.dt2 p (bits p2 15 0) (1000 * bits p2 31 16) } }
  let s1 := if openShort && !s.pwr.tsFault then s0.flagPwr 0x40 else s0
  let tj := s1.tRef + (s1.pwr2.dt1 + s1.pwr2.dt2) / 2 ^ 32
  let above := decide (s1.feltWarn ≤ tj)
  let s2 := { s1 with pwr2 := { s1.pwr2 with tj := tj, hot := above } }
  let s3 := if above && !s.pwr2.hot then
      ((s2.flagPwr 8).powerRaise 147).powerEvent 0x0504 2 3 (tj.toNat) s1.feltWarn.toNat
    else s2
  if s3.tsMode && !openShort && decide (s3.tsTrip ≤ ts) then s3.tripIf gate 3 tsense s3.tsTrip.toNat
  else if s3.feltTrip ≤ tj then s3.tripIf gate 4 tj.toNat s3.feltTrip.toNat
  else s3

def execFeltUpdate (power : BitVec 32) (tsense : BitVec 16) (openShort : Bool) (s : State) : Answer :=
  answer (s.feltUpdate power.toNat tsense.toNat openShort)

/-- The cool-down of 18 R416. -/
def State.cooledDown (s : State) : Bool :=
  decide (s.pwr2.tj ≤ s.feltCool) &&
    (!s.tsMode || s.pwr.tsFault || decide (s.pwr2.tsense ≤ s.tsTrip - 100))

/-- The retry interval is over: 2 x 2^n s since the trip, or it counts as elapsed (18 R416, R417, R419). -/
def State.intervalOver (s : State) : Bool :=
  s.pwr.elapsed || s.pwr2.tripAt.any fun t => decide (t + 200000000 * 2 ^ s.pwr.count ≤ s.pwr2.osc)

/-- RETRY_START: the count rises, and RFC is charged while it is not 0 (18 R407, R416, R418). -/
def State.retryStart (s : State) : State :=
  if s.pwr.hs == .cool && s.pwr.present && s.cooledDown && s.intervalOver then
    { s with pwr := { s.pwr with hs := .ramp, count := s.pwr.count + 1, elapsed := false, rfcArmed := true } }.writeStateLine
  else s

def execRetryStart (s : State) : Answer := .next s.retryStart

/-- MODULE_REMOVAL: every gate is pulled, the frame die is reset; not a trip (18 R407, R421). -/
def State.removal (s : State) : State :=
  let w := s.pwr
  let s1 := { s with pwr := { w with present := false, feedA := { w.feedA with on := false },
                                     feedB := { w.feedB with on := false }, pgood := false, limiting := false } }
  s1.frameDown (if w.hs == .latched || w.hs == .fetFault then .latched else .insert)

def execModuleRemoval (s : State) : Answer := .next s.removal

/-- POWER_DIE_POWER_LOSS: the always-on rail is exhausted. What PD0 to PD2 hold without power is lost; the keep die's
lines stay (18 R406, R418, R420). -/
def State.powerLoss (s : State) : State :=
  let s1 := s.frameDown .insert
  { s1 with
    pwr := { hs := .off, pgood := false, present := s.pwr.present, feedA := { ok := s.pwr.feedA.ok },
             feedB := { ok := s.pwr.feedB.ok }, rfcArmed := false }
    pwr2 := { powered := false }
    rcd := { s1.rcd with spill := [], spillLost := 0, spillNext := 1 }
    keep := { s1.keep with jobsP := [], wearLow := [] }
    fld := {}
    fw := s1.fw.amiocOff
    link := {}
    mgt := {} }

def execPowerDiePowerLoss (s : State) : Answer := .next s.powerLoss

/-- PWR_FLAGS_CLR: a clear by either host clears the flag for both, in the power die and in its mirror (18 R428). -/
def State.clearPwrFlags (s : State) (v : Word) : State :=
  { s with pwr2 := { s.pwr2 with flags := s.pwr2.flags &&& ~~~v }
           link := { s.link with mirror := s.link.mirror.put 0x14 (s.link.mirror.get 0 0x14 &&& ~~~v) } }

def execPwrFlagsClr (h : HostId) (v : Word) (s : State) : Answer := .next (s.posted h 0x6018 v (s.clearPwrFlags v))

end Sys2Proof.Machine
end

