-- ==== Sys2Proof/Machine/Field.lean ====
section
/-! DEFINITION. Field inputs, field outputs, the field supply and Amioc's sensors (19). -/

namespace Sys2Proof.Machine

/-- Sets bits of MGT_FLAGS (19). -/
def State.flagMgt (s : State) (m : Word) : State := { s with fld := { s.fld with flags := s.fld.flags ||| m } }

/-- Input `i`. -/
def Fld.input (f : Fld) (i : Nat) : DiFilt := f.di.get {} i

/-- Output `o`. -/
def Fld.output (f : Fld) (o : Nat) : DoS := f.dos.get {} o

/-- Changes output `o`. -/
def State.modOut (s : State) (o : Nat) (g : DoS → DoS) : State :=
  { s with fld := { s.fld with dos := s.fld.dos.put o (g (s.fld.output o)) } }

/-! ## Inputs -/

/-- One raw sample of a counter filter (19 R430). -/
def DiFilt.sample (v : DiFilt) (high : Bool) : DiFilt :=
  if v.filter = 0 then { v with raw := high, state := high }
  else
    let n := if high then min v.filter (v.count + 1) else v.count - 1
    { v with raw := high, count := n, state := if n = v.filter then true else if n = 0 then false else v.state }

/-- The filtered states reach the frame die over the power link; each change raises DI_CHANGE (19 R432). -/
def State.sendDi (s : State) : State :=
  let v := s.fld.filtered
  if s.link.up then
    let s1 := { s with fld := { s.fld with frameDi := v } }
    if v = s.fld.frameDi then s1 else s1.powerRaise 151
  else s

/-- The latch of DI0-DI2 that PGOOD could not take yet: at the 500th sample, 5 ms after the power die started (15 R341). -/
def State.latchDi (s : State) : State :=
  if s.run.diDue && s.fld.samples = 500 then
    { s with run := { s.run with diLatch := s.fld.filtered.toNat % 8, diDue := false } }
  else s

/-- DI_SAMPLE (15 R341, 19 R430-R432). -/
def State.diSample (s : State) (raw : BitVec 8) : State :=
  { s with fld := { s.fld with
      di := (nums 8).foldl (fun t i => t.put i ((s.fld.input i).sample (raw.getLsbD i))) s.fld.di
      samples := min 500 (s.fld.samples + 1) } }.latchDi.sendDi

def execDiSample (raw : BitVec 8) (s : State) : Answer := answer (s.diSample raw)

/-- FLD_CONFIG's filters: the counter is clamped, the filtered state kept (19 R431). -/
def DiFilt.setFilter (v : DiFilt) (n : Nat) : DiFilt := { v with filter := n, count := min v.count n }

/-! ## Outputs -/

/-- The power die takes the commanded state, and the latch clears where a DO_SET has named the output (19 R434, R435). -/
def DoS.take (v : DoS) : DoS :=
  { v with held := v.cmd, fault := v.fault && !v.unlatch, cause := if v.unlatch then 0 else v.cause, unlatch := false }

/-- DO_SET at its boundary: the commanded states of the outputs in MASK, which the power die takes over the power link while
it is up (19 R434, R435, 01 R8). -/
def State.doSet (s : State) (mask value : BitVec 8) : State :=
  forAll (fun o s => if mask.getLsbD o then
      s.modOut o fun v =>
        let u := { v with cmd := value.getLsbD o, unlatch := true }
        if s.link.up then u.take else u
    else s) (nums 4) s

/-- The output's switch conducts: commanded on, not latched, the supply not in UV (19 R435, R437). -/
def State.outOn (s : State) (o : Nat) : Bool :=
  (s.fld.output o).held && !(s.fld.output o).fault && s.fld.state != .uv

/-- An output is latched off (19 R435): cause 1 current limit, 2 thermal, 3 reverse. -/
def State.latchOut (s : State) (o cause measured : Nat) : State :=
  (((s.modOut o fun v => { v with fault := true, cause := cause }).flagMgt 1).powerRaise 152).powerEvent 0x0601 o 3
    measured 0

/-- DO_LIMIT_TIMEOUT (19 R435). -/
def State.doLimit (s : State) (o ma : Nat) : State := if s.outOn o then s.latchOut o 1 ma else s

def execDoLimitTimeout (o : Fin 4) (ma : BitVec 16) (s : State) : Answer := answer (s.doLimit o.val ma.toNat)

/-- DO_FAULT_LATCH (19 R435). -/
def State.doFault (s : State) (o : Nat) (why : DoFault) (measured : Nat) : State :=
  if (s.fld.output o).held && !(s.fld.output o).fault then
    s.latchOut o (match why with | .thermal => 2 | .reverse => 3) measured
  else s

def execDoFaultLatch (o : Fin 4) (why : DoFault) (measured : BitVec 16) (s : State) : Answer :=
  answer (s.doFault o.val why measured.toNat)

/-- EXT_DRIVE_DETECT (19 R436). -/
def State.extDrive (s : State) (o mv : Nat) : State :=
  if !(s.fld.output o).held && !(s.fld.output o).ext then
    (((s.modOut o fun v => { v with ext := true }).flagMgt 2).powerRaise 155).powerEvent 0x0602 o 3 mv 0
  else s

def execExtDriveDetect (o : Fin 4) (mv : BitVec 16) (s : State) : Answer := answer (s.extDrive o.val mv.toNat)

/-- EXT_DRIVE_CLEAR (19 R436). -/
def execExtDriveClear (o : Fin 4) (s : State) : Answer := .next (s.modOut o.val fun v => { v with ext := false })

/-! ## Field supply (19 R437) -/

def State.setFld (s : State) (st : FldState) : State := { s with fld := { s.fld with state := st } }

/-- FLD_24V as measured, from mV (19 R437). -/
def State.fldVolts (s : State) (mv : Nat) : State := { s with fld := { s.fld with volts := mv / 10 } }

/-- FLD_LOW: the supply is below 19.2 V. -/
def State.setLow (s : State) (low : Bool) : State := { s with fld := { s.fld with low := low } }

/-- FLD_LOW_ENTRY. -/
def State.fldLow (s : State) (mv : Nat) : State :=
  if s.fld.state = .normal then
    (((((s.fldVolts mv).setFld .low).setLow true).flagMgt 4).powerRaise 153).powerEvent 0x0603 0xFF 2 mv 0
  else s

def execFldLowEntry (mv : BitVec 16) (s : State) : Answer := answer (s.fldLow mv.toNat)

/-- FLD_LOW_EXIT: FLD_LOW clears, and LOW goes back to NORMAL; in UV the state stays. -/
def execFldLowExit (s : State) : Answer := .next (if s.fld.state = .low then (s.setFld .normal).setLow false else s.setLow false)

/-- FLD_UV_ENTRY: every output switches off (`outOn`), FLD_UV latches. -/
def State.fldUv (s : State) (mv : Nat) : State :=
  if s.fld.state = .uv then s
  else ((((s.fldVolts mv).setFld .uv).flagMgt 8).powerRaise 154).powerEvent 0x0604 0xFF 3 mv 0

def execFldUvEntry (mv : BitVec 16) (s : State) : Answer := answer (s.fldUv mv.toNat)

/-- The outputs return to their commanded states: FLD_RESTORE or the automatic restore. -/
def State.fldRestored (s : State) : State :=
  ((s.setFld .normal).setLow false).powerEvent 0x0605 0xFF 1 (10 * s.fld.volts) 0

/-- FLD_AUTO_RESTORE. -/
def State.autoRestore (s : State) : State :=
  if s.fld.state = .uv && s.fld.autoRestore then s.fldRestored else s

def execFldAutoRestore (s : State) : Answer := .next s.autoRestore

/-! ## Sensors (19 R439) -/

/-- A 16-bit reading as a signed number. -/
def signed16 (w : BitVec 16) : Int := w.toInt

/-- Nominal rail voltages in mV, in MGT_RAIL order (19). -/
def railNominal : List Nat := [24000, 3300, 1800, 1200, 750, 800, 800, 1800, 3300, 1000, 900, 1800]

/-- Sensor `i`'s reading, warning and critical thresholds in 0.1 degree: 0-5 frame die, 6-7 power die, 8 TSENSE
(19 R439). -/
def State.sensor (s : State) (i : Nat) : Int × Int × Int :=
  if i < 6 then (signed16 (s.mgt.sens.fd.getD i 0), 1050, 1200)
  else if i < 8 then (signed16 (s.mgt.sens.pd.getD (i - 6) 0), 1250, 1400)
  else (s.pwr2.tsense, s.feltWarn, s.tsTrip)

/-- A sensor's two conditions after a conversion: a crossing is reported, and a condition clears when the reading has
returned 5 degrees below the threshold. -/
def State.checkSensor (s : State) (i : Nat) : State :=
  let (v, w, c) := s.sensor i
  let s1 :=
    if s.mgt.warn.contains i then
      (if v ≤ w - 50 then { s with mgt := { s.mgt with warn := s.mgt.warn.filter (· != i) } } else s)
    else if w ≤ v then
      (({ s with mgt := { s.mgt with warn := insertNat i s.mgt.warn } }.flagMgt 0x10).powerRaise 169).powerEvent 0x0508 3 2
        v.toNat w.toNat
    else s
  if s1.mgt.crit.contains i then
    (if v ≤ c - 50 then { s1 with mgt := { s1.mgt with crit := s1.mgt.crit.filter (· != i) } } else s1)
  else if c ≤ v then
    (({ s1 with mgt := { s1.mgt with crit := insertNat i s1.mgt.crit } }.flagMgt 0x20).powerRaise 170).powerEvent 0x0509 3 4
      v.toNat c.toNat
  else s1

/-- A rail outside 5 % of nominal. -/
def railOutside (n mv : Nat) : Bool := decide (100 * mv < 95 * n) || decide (105 * n < 100 * mv)

/-- A rail leaving its window sets RAIL_WARN and writes no record. -/
def State.checkRail (s : State) (i : Nat) : State :=
  let out := railOutside (railNominal.getD i 0) (s.mgt.sens.rails.getD i 0).toNat
  if out && !s.mgt.railOut.contains i then
    { s with mgt := { s.mgt with railOut := insertNat i s.mgt.railOut } }.flagMgt 0x40
  else if out then s
  else { s with mgt := { s.mgt with railOut := s.mgt.railOut.filter (· != i) } }

/-- The current of the feed whose pair's forward drop is `d`, beside the other's `e`: the sense current in proportion to the drops
while both pairs are closed, all of it while this pair alone is, else nothing (19 R439, log entry 156). -/
def feedCurrent (sense d e : Nat) (on other : Bool) : Nat :=
  if !on then 0 else if !other then sense else if d + e = 0 then min sense (Config.feedSplit sense) else sense * d / (d + e)

/-- SENSOR_CONVERSION. TSENSE is compared only where an NTC is fitted (18 R425). With no forward drop measured on either pair the
split of the sense current between them is open (19 R439, log entry 156). -/
def State.convert (s : State) (r : Sensors) : State :=
  let i := r.iout.toNat
  let a := feedCurrent i r.dropA.toNat r.dropB.toNat s.pwr.feedA.on s.pwr.feedB.on
  let b := if s.pwr.feedA.on && s.pwr.feedB.on then i - a else feedCurrent i r.dropB.toNat r.dropA.toNat s.pwr.feedB.on s.pwr.feedA.on
  let s1 := { s with mgt := { s.mgt with sens := r, ifeedA := a, ifeedB := b }, fld := { s.fld with volts := r.fldV.toNat } }
  forAll (fun i s => s.checkRail i) (nums 12)
    (forAll (fun i s => s.checkSensor i) (nums (if s.tsMode then 9 else 8)) s1)

def execSensorConversion (r : Sensors) (s : State) : Answer := answer (s.convert r)

/-- MGT_FLAGS_CLR clears the flag for both hosts, on the power die and in its mirror (19, 18 R428). -/
def State.clearMgtFlags (s : State) (v : Word) : State :=
  { s with fld := { s.fld with flags := s.fld.flags &&& ~~~v }
           link := { s.link with mirror := s.link.mirror.put 0x134 (s.link.mirror.get 0 0x134 &&& ~~~v) } }

def execMgtFlagsClr (h : HostId) (v : Word) (s : State) : Answer := .next (s.posted h 0x6138 v (s.clearMgtFlags v))

end Sys2Proof.Machine
end

