-- ==== Sys2Proof/Machine/Packet.lean ====
section
/-! DEFINITION. Command packets: opcodes, their classes and operands, parameter bytes in both directions, and reply
packets (12 R274-R277, 13). -/

namespace Sys2Proof.Machine

/-! ## Fields of a parameter block -/

def b8 (b : List Byte) (o : Nat) : Byte := BitVec.ofNat 8 (u8At b o)
def b16 (b : List Byte) (o : Nat) : BitVec 16 := BitVec.ofNat 16 (u16At b o)
def b32 (b : List Byte) (o : Nat) : Word := BitVec.ofNat 32 (u32At b o)
def b64 (b : List Byte) (o : Nat) : BitVec 64 := BitVec.ofNat 64 (u64At b o)

def p8 (v : Byte) : List Byte := [v]
def p16 (v : BitVec 16) : List Byte := leBytes 2 v.toNat
def p32 (v : Word) : List Byte := leBytes 4 v.toNat
def p64 (v : BitVec 64) : List Byte := leBytes 8 v.toNat

/-- Parameters that pass the length and reserved-byte test. -/
def okIf (c : Bool) (p : Params) : Option Params := if c then some p else none

/-- Bytes added to reach a multiple of 4. -/
def pad4 (b : List Byte) : List Byte := b ++ zeros ((4 - b.length % 4) % 4)

/-- The effective window (12 R278). -/
def ewBytes (w : EW) : List Byte := p32 w.cycle ++ p8 w.win ++ leBytes 1 (flag w.asap) ++ zeros 2

def ewOf (b : List Byte) : Option EW :=
  if 8 ≤ b.length && u8At b 5 < 2 && zeroAt b 6 2 then
    some { cycle := b32 b 0, win := b8 b 4, asap := u8At b 5 = 1 } else none

def ObjRecord.words (r : ObjRecord) : List Byte :=
  p32 r.cfg ++ p32 r.id ++ p32 r.xl ++ p32 r.af ++ p32 r.granCount ++ p32 r.txcfg

def objRecordAt (b : List Byte) (o : Nat) (n : BitVec 16) : ObjRecord :=
  { obj := n, cfg := b32 b o, id := b32 b (o + 4), xl := b32 b (o + 8), af := b32 b (o + 12), granCount := b32 b (o + 16),
    txcfg := b32 b (o + 20) }

def Elem.bytes (e : Elem) : List Byte := p32 e.w0 ++ p32 e.a ++ p32 e.b ++ p32 e.w3

def elemAt (b : List Byte) (o : Nat) : Elem :=
  { w0 := b32 b o, a := b32 b (o + 4), b := b32 b (o + 8), w3 := b32 b (o + 12) }

def Chunk.bytes (c : Chunk) : List Byte := p8 c.dest ++ zeros 3 ++ p32 c.total ++ p32 c.offset ++ c.data

def chunkOf (b : List Byte) : Option Chunk :=
  if 12 ≤ b.length && zeroAt b 1 3 then
    some { dest := b8 b 0, total := b32 b 4, offset := b32 b 8, data := b.drop 12 } else none

/-! ## Parameters as bytes (13) -/

/-- The parameter bytes of a command (13 R292). -/
def encodeParams : Params → List Byte
  | .modeSet ew m => ewBytes ew ++ p8 m ++ zeros 3
  | .cfgPolicySet ew m => ewBytes ew ++ p8 m ++ zeros 3
  | .leadSet ew a b => ewBytes ew ++ p8 a ++ p8 b ++ zeros 2
  | .hbPeriod n => p16 n ++ zeros 2
  | .devReset k => p32 k
  | .sleep w => p8 w ++ zeros 3
  | .portConfig ew c => ewBytes ew ++ p32 c.ctrl ++ p32 c.fmt ++ p32 c.nbt ++ p32 c.dbt ++ p32 c.tdc ++ p32 c.pwm ++
      p32 c.oscTol
  | .portSilk ew a b => ewBytes ew ++ p32 a ++ p32 b
  | .portErrcfg ew a b => ewBytes ew ++ p32 a ++ p32 b
  | .portFence ew c => ewBytes ew ++ p32 c
  | .portDelivery ew a b c d => ewBytes ew ++ p8 a ++ p8 b ++ p16 c ++ p32 d
  | .portGuard ew n => ewBytes ew ++ p16 n ++ zeros 2
  | .portRecover ew => ewBytes ew
  | .portRelease ew => ewBytes ew
  | .portRemap op => p8 op ++ zeros 3
  | .objConfig ew r => ewBytes ew ++ ObjRecord.words r
  | .objConfigN ew rs => ewBytes ew ++ leBytes 2 rs.length ++ zeros 2 ++
      rs.flatMap fun (r : ObjRecord) => p16 r.obj ++ zeros 2 ++ ObjRecord.words r
  | .objRead o n => p16 o ++ p16 n
  | .fltPort ew a b c d => ewBytes ew ++ p32 a ++ p32 b ++ p32 c ++ p32 d
  | .fltDtable ew f rs => pad4 (ewBytes ew ++ p16 f ++ leBytes 2 rs.length ++ rs.flatMap p16)
  | .fltElem ew f es => ewBytes ew ++ p16 f ++ leBytes 2 es.length ++ es.flatMap fun (e : Elem) => Elem.bytes e
  | .fltRead a b c d => p8 a ++ p8 b ++ p16 c ++ p16 d ++ zeros 2
  | .rteSet ew e x => ewBytes ew ++ p64 e ++ p32 x ++ zeros 4
  | .rteQuota ew n => ewBytes ew ++ p16 n ++ zeros 2
  | .pairSet ew e => ewBytes ew ++ p64 e
  | .cycSource ew a b => ewBytes ew ++ p32 a ++ p32 b
  | .cycWindows ew j n st => ewBytes ew ++ p16 j ++ p8 n ++ zeros 1 ++ st.flatMap p16 ++ zeros (2 * (64 - st.length))
  | .cycCountSet ew n => ewBytes ew ++ p32 n
  | .timeSet ew t => ewBytes ew ++ p64 t
  | .denseSet ew p a es => ewBytes ew ++ p8 p ++ p8 a ++ leBytes 2 es.length ++ es.flatMap p64
  | .ringDelivery ew b n => ewBytes ew ++ p64 b ++ p8 n ++ zeros 3
  | .ringCommand ew b n => ewBytes ew ++ p64 b ++ p8 n ++ zeros 3
  | .ringReply ew b n => ewBytes ew ++ p64 b ++ p8 n ++ zeros 3
  | .ringWriteback ew a => ewBytes ew ++ p64 a
  | .profileLoad ew n => ewBytes ew ++ p8 n ++ zeros 3
  | .profileStore c => Chunk.bytes c
  | .pregWrite i vs => p16 i ++ leBytes 2 vs.length ++ vs.flatMap p32
  | .pregRead i n => p16 i ++ p16 n
  | .recClear r n sg => p32 r ++ zeros 4 ++ p64 n ++ sg
  | .recRead r n => p32 r ++ p16 n ++ zeros 2
  | .jnlRead r n => p32 r ++ p16 n ++ zeros 2
  | .pwrLimits i t r => p16 i ++ p8 t ++ p8 r
  | .doSet ew m v => ewBytes ew ++ p8 m ++ p8 v ++ zeros 2
  | .fldConfig ew a fs => ewBytes ew ++ p8 a ++ zeros 3 ++ fs.flatMap p16
  | .fwStage c => Chunk.bytes c
  | .fwVerify p => p8 p ++ zeros 3
  | .fwActivate ew p => ewBytes ew ++ p8 p ++ zeros 3
  | .canvasRead o n => p32 o ++ p32 n
  | .intPrioSet f ps => pad4 (p16 f ++ leBytes 2 ps.length ++ ps)
  | .intModSet m => p16 m ++ zeros 2
  | .twdMap ew ps => ewBytes ew ++ ps
  | .tweedSlot ew i c m => ewBytes ew ++ leBytes 4 i ++ p32 c ++ p32 m
  | .seqQuery | .devInfo | .portStatus | .objPool | .rteStatus | .pairStatus | .timeQuery | .denseRead | .ringRearm
  | .profileList | .recNonce | .pwrStatus | .fldRestore | .fldStatus | .fwStatus | .diagMem | .diagPort | .diagGate
  | .canvasInfo | .canvasRelease | .twdStatus => []

/-- The opcode of a command (13). The internal command of a Tweed slot configures its object (15 R350, log entry 13). -/
def Params.opcode : Params → Nat
  | .seqQuery => 0x0001 | .devInfo => 0x0002 | .modeSet .. => 0x0010 | .cfgPolicySet .. => 0x0011
  | .leadSet .. => 0x0012 | .hbPeriod .. => 0x0013 | .devReset .. => 0x0020 | .sleep .. => 0x0021
  | .portConfig .. => 0x0101 | .portSilk .. => 0x0102 | .portErrcfg .. => 0x0103 | .portFence .. => 0x0104
  | .portDelivery .. => 0x0105 | .portGuard .. => 0x0106 | .portRecover .. => 0x0110 | .portRelease .. => 0x0111
  | .portRemap .. => 0x0112 | .portStatus => 0x0120
  | .objConfig .. => 0x0201 | .objConfigN .. => 0x0202 | .objRead .. => 0x0210 | .objPool => 0x0211
  | .fltPort .. => 0x0301 | .fltDtable .. => 0x0302 | .fltElem .. => 0x0303 | .fltRead .. => 0x0310
  | .rteSet .. => 0x0320 | .rteQuota .. => 0x0321 | .rteStatus => 0x0322 | .pairSet .. => 0x0330
  | .pairStatus => 0x0331
  | .cycSource .. => 0x0401 | .cycWindows .. => 0x0402 | .cycCountSet .. => 0x0403 | .timeSet .. => 0x0404
  | .timeQuery => 0x0405 | .denseSet .. => 0x0410 | .denseRead => 0x0411
  | .ringDelivery .. => 0x0501 | .ringCommand .. => 0x0502 | .ringReply .. => 0x0503 | .ringWriteback .. => 0x0504
  | .ringRearm => 0x0505
  | .profileLoad .. => 0x0601 | .profileStore .. => 0x0602 | .profileList => 0x0603
  | .pregWrite .. => 0x0701 | .pregRead .. => 0x0702 | .recNonce => 0x0703 | .recClear .. => 0x0704
  | .recRead .. => 0x0705 | .jnlRead .. => 0x0706
  | .pwrLimits .. => 0x0801 | .pwrStatus => 0x0802 | .doSet .. => 0x0810 | .fldConfig .. => 0x0811
  | .fldRestore => 0x0812 | .fldStatus => 0x0813
  | .fwStage .. => 0x0901 | .fwVerify .. => 0x0902 | .fwActivate .. => 0x0903 | .fwStatus => 0x0904
  | .diagMem => 0x0A01 | .diagPort => 0x0A02 | .diagGate => 0x0A03 | .canvasInfo => 0x0A10
  | .canvasRead .. => 0x0A11 | .canvasRelease => 0x0A12
  | .intPrioSet .. => 0x0B01 | .intModSet .. => 0x0B02 | .twdMap .. => 0x0C01 | .twdStatus => 0x0C02
  | .tweedSlot .. => 0x0201

/-- The effective window a command carries. -/
def Params.ew : Params → Option EW
  | .modeSet ew _ | .cfgPolicySet ew _ | .leadSet ew _ _ | .portConfig ew _ | .portSilk ew _ _ | .portErrcfg ew _ _
  | .portFence ew _ | .portDelivery ew _ _ _ _ | .portGuard ew _ | .portRecover ew | .portRelease ew | .objConfig ew _
  | .objConfigN ew _ | .fltPort ew _ _ _ _ | .fltDtable ew _ _ | .fltElem ew _ _ | .rteSet ew _ _ | .rteQuota ew _
  | .pairSet ew _ | .cycSource ew _ _ | .cycWindows ew _ _ _ | .cycCountSet ew _ | .timeSet ew _ | .denseSet ew _ _ _
  | .ringDelivery ew _ _ | .ringCommand ew _ _ | .ringReply ew _ _ | .ringWriteback ew _ | .profileLoad ew _
  | .doSet ew _ _ | .fldConfig ew _ _ | .fwActivate ew _ | .twdMap ew _ | .tweedSlot ew _ _ _ => some ew
  | .seqQuery | .devInfo | .hbPeriod _ | .devReset _ | .sleep _ | .portRemap _ | .portStatus | .objRead _ _ | .objPool
  | .fltRead _ _ _ _ | .rteStatus | .pairStatus | .timeQuery | .denseRead | .ringRearm | .profileStore _ | .profileList
  | .pregWrite _ _ | .pregRead _ _ | .recNonce | .recClear _ _ _ | .recRead _ _ | .jnlRead _ _ | .pwrLimits _ _ _
  | .pwrStatus | .fldRestore | .fldStatus | .fwStage _ | .fwVerify _ | .fwStatus | .diagMem | .diagPort | .diagGate
  | .canvasInfo | .canvasRead _ _ | .canvasRelease | .intPrioSet _ _ | .intModSet _ | .twdStatus => none

/-! ## Parameters from bytes (13 R292) -/

/-- Configuration commands: `b` are the bytes after the effective window. -/
def decodeConfig (op : Nat) (ew : EW) (b : List Byte) : Option Params :=
  let n := b.length
  if op = 0x0010 then okIf (n = 4 && zeroAt b 1 3) (.modeSet ew (b8 b 0))
  else if op = 0x0011 then okIf (n = 4 && zeroAt b 1 3) (.cfgPolicySet ew (b8 b 0))
  else if op = 0x0012 then okIf (n = 4 && zeroAt b 2 2) (.leadSet ew (b8 b 0) (b8 b 1))
  else if op = 0x0101 then okIf (n = 28) (.portConfig ew ⟨b32 b 0, b32 b 4, b32 b 8, b32 b 12, b32 b 16, b32 b 20, b32 b 24⟩)
  else if op = 0x0102 then okIf (n = 8) (.portSilk ew (b32 b 0) (b32 b 4))
  else if op = 0x0103 then okIf (n = 8) (.portErrcfg ew (b32 b 0) (b32 b 4))
  else if op = 0x0104 then okIf (n = 4) (.portFence ew (b32 b 0))
  else if op = 0x0105 then okIf (n = 8) (.portDelivery ew (b8 b 0) (b8 b 1) (b16 b 2) (b32 b 4))
  else if op = 0x0106 then okIf (n = 4 && zeroAt b 2 2) (.portGuard ew (b16 b 0))
  else if op = 0x0110 then okIf (n = 0) (.portRecover ew)
  else if op = 0x0111 then okIf (n = 0) (.portRelease ew)
  else if op = 0x0201 then okIf (n = 24) (.objConfig ew (objRecordAt b 0 0))
  else if op = 0x0202 then
    let k := u16At b 0
    okIf (n = 4 + 28 * k && zeroAt b 2 2 && (nums k).all fun i => zeroAt b (4 + 28 * i + 2) 2)
      (.objConfigN ew ((nums k).map fun i => objRecordAt b (8 + 28 * i) (b16 b (4 + 28 * i))))
  else if op = 0x0301 then okIf (n = 16) (.fltPort ew (b32 b 0) (b32 b 4) (b32 b 8) (b32 b 12))
  else if op = 0x0302 then
    let k := u16At b 2
    okIf (n = 4 + (2 * k + 2) / 4 * 4 && zeroAt b (4 + 2 * k) (n - (4 + 2 * k)))
      (.fltDtable ew (b16 b 0) ((nums k).map fun i => b16 b (4 + 2 * i)))
  else if op = 0x0303 then
    let k := u16At b 2
    okIf (n = 4 + 16 * k) (.fltElem ew (b16 b 0) ((nums k).map fun i => elemAt b (4 + 16 * i)))
  else if op = 0x0320 then okIf (n = 16 && zeroAt b 12 4) (.rteSet ew (b64 b 0) (b32 b 8))
  else if op = 0x0321 then okIf (n = 4 && zeroAt b 2 2) (.rteQuota ew (b16 b 0))
  else if op = 0x0330 then okIf (n = 8) (.pairSet ew (b64 b 0))
  else if op = 0x0401 then okIf (n = 8) (.cycSource ew (b32 b 0) (b32 b 4))
  else if op = 0x0402 then
    okIf (n = 132 && zeroAt b 3 1) (.cycWindows ew (b16 b 0) (b8 b 2) ((nums 64).map fun i => b16 b (4 + 2 * i)))
  else if op = 0x0403 then okIf (n = 4) (.cycCountSet ew (b32 b 0))
  else if op = 0x0404 then okIf (n = 8) (.timeSet ew (b64 b 0))
  else if op = 0x0410 then
    let k := u16At b 2
    okIf (n = 4 + 8 * k) (.denseSet ew (b8 b 0) (b8 b 1) ((nums k).map fun i => b64 b (4 + 8 * i)))
  else if op = 0x0501 then okIf (n = 12 && zeroAt b 9 3) (.ringDelivery ew (b64 b 0) (b8 b 8))
  else if op = 0x0502 then okIf (n = 12 && zeroAt b 9 3) (.ringCommand ew (b64 b 0) (b8 b 8))
  else if op = 0x0503 then okIf (n = 12 && zeroAt b 9 3) (.ringReply ew (b64 b 0) (b8 b 8))
  else if op = 0x0504 then okIf (n = 8) (.ringWriteback ew (b64 b 0))
  else if op = 0x0601 then okIf (n = 4 && zeroAt b 1 3) (.profileLoad ew (b8 b 0))
  else if op = 0x0810 then okIf (n = 4 && zeroAt b 2 2) (.doSet ew (b8 b 0) (b8 b 1))
  else if op = 0x0811 then
    okIf (n = 20 && zeroAt b 1 3) (.fldConfig ew (b8 b 0) ((nums 8).map fun i => b16 b (4 + 2 * i)))
  else if op = 0x0903 then okIf (n = 4 && zeroAt b 1 3) (.fwActivate ew (b8 b 0))
  else if op = 0x0C01 then okIf (n = 16) (.twdMap ew b)
  else none

/-- Actions and queries. -/
def decodeOther (op : Nat) (b : List Byte) : Option Params :=
  let n := b.length
  let none_ := n = 0
  if op = 0x0001 then okIf none_ .seqQuery
  else if op = 0x0002 then okIf none_ .devInfo
  else if op = 0x0013 then okIf (n = 4 && zeroAt b 2 2) (.hbPeriod (b16 b 0))
  else if op = 0x0020 then okIf (n = 4) (.devReset (b32 b 0))
  else if op = 0x0021 then okIf (n = 4 && zeroAt b 1 3) (.sleep (b8 b 0))
  else if op = 0x0112 then okIf (n = 4 && zeroAt b 1 3) (.portRemap (b8 b 0))
  else if op = 0x0120 then okIf none_ .portStatus
  else if op = 0x0210 then okIf (n = 4) (.objRead (b16 b 0) (b16 b 2))
  else if op = 0x0211 then okIf none_ .objPool
  else if op = 0x0310 then okIf (n = 8 && zeroAt b 6 2) (.fltRead (b8 b 0) (b8 b 1) (b16 b 2) (b16 b 4))
  else if op = 0x0322 then okIf none_ .rteStatus
  else if op = 0x0331 then okIf none_ .pairStatus
  else if op = 0x0405 then okIf none_ .timeQuery
  else if op = 0x0411 then okIf none_ .denseRead
  else if op = 0x0505 then okIf none_ .ringRearm
  else if op = 0x0602 then (chunkOf b).map .profileStore
  else if op = 0x0603 then okIf none_ .profileList
  else if op = 0x0701 then
    let k := u16At b 2
    okIf (n = 4 + 4 * k) (.pregWrite (b16 b 0) ((nums k).map fun i => b32 b (4 + 4 * i)))
  else if op = 0x0702 then okIf (n = 4) (.pregRead (b16 b 0) (b16 b 2))
  else if op = 0x0703 then okIf none_ .recNonce
  else if op = 0x0704 then okIf (n = 80 && zeroAt b 4 4) (.recClear (b32 b 0) (b64 b 8) (b.drop 16))
  else if op = 0x0705 then okIf (n = 8 && zeroAt b 6 2) (.recRead (b32 b 0) (b16 b 4))
  else if op = 0x0706 then okIf (n = 8 && zeroAt b 6 2) (.jnlRead (b32 b 0) (b16 b 4))
  else if op = 0x0801 then okIf (n = 4) (.pwrLimits (b16 b 0) (b8 b 2) (b8 b 3))
  else if op = 0x0802 then okIf none_ .pwrStatus
  else if op = 0x0812 then okIf none_ .fldRestore
  else if op = 0x0813 then okIf none_ .fldStatus
  else if op = 0x0901 then (chunkOf b).map .fwStage
  else if op = 0x0902 then okIf (n = 4 && zeroAt b 1 3) (.fwVerify (b8 b 0))
  else if op = 0x0904 then okIf none_ .fwStatus
  else if op = 0x0A01 then okIf none_ .diagMem
  else if op = 0x0A02 then okIf none_ .diagPort
  else if op = 0x0A03 then okIf none_ .diagGate
  else if op = 0x0A10 then okIf none_ .canvasInfo
  else if op = 0x0A11 then okIf (n = 8) (.canvasRead (b32 b 0) (b32 b 4))
  else if op = 0x0A12 then okIf none_ .canvasRelease
  else if op = 0x0B01 then
    let k := u16At b 2
    okIf (n = (4 + k + 3) / 4 * 4 && zeroAt b (4 + k) (n - (4 + k))) (.intPrioSet (b16 b 0) ((b.drop 4).take k))
  else if op = 0x0B02 then okIf (n = 4 && zeroAt b 2 2) (.intModSet (b16 b 0))
  else if op = 0x0C02 then okIf none_ .twdStatus
  else none

/-- Classes of commands (12 R275); `dual` is that of 13 R300. -/
inductive Cls where
  | config | action | query | dual
deriving DecidableEq, Repr

/-- The class of an opcode; none for an unknown opcode (12 R277, 13). -/
def opClass (op : Nat) : Option Cls :=
  if [0x0010, 0x0011, 0x0012, 0x0101, 0x0102, 0x0103, 0x0104, 0x0105, 0x0106, 0x0201, 0x0202, 0x0301, 0x0302, 0x0303, 0x0320,
      0x0321, 0x0330, 0x0401, 0x0402, 0x0403, 0x0404, 0x0410, 0x0501, 0x0502, 0x0503, 0x0504, 0x0601, 0x0810, 0x0811,
      0x0903, 0x0C01].contains op then some .config
  else if [0x0110, 0x0111].contains op then some .dual
  else if [0x0013, 0x0020, 0x0021, 0x0112, 0x0505, 0x0602, 0x0701, 0x0703, 0x0704, 0x0801, 0x0812, 0x0901, 0x0902, 0x0A12,
      0x0B01, 0x0B02].contains op then some .action
  else if [0x0001, 0x0002, 0x0120, 0x0210, 0x0211, 0x0310, 0x0322, 0x0331, 0x0405, 0x0411, 0x0603, 0x0702, 0x0705, 0x0706,
      0x0802, 0x0813, 0x0904, 0x0A01, 0x0A02, 0x0A03, 0x0A10, 0x0A11, 0x0C02].contains op then some .query
  else none

/-- The parameters that bytes spell; none where the length or a reserved field refuses them (13 R292). -/
def decodeParams (op : Nat) (b : List Byte) : Option Params :=
  match opClass op with
  | some .config | some .dual => (ewOf b).bind fun ew => decodeConfig op ew (b.drop 8)
  | some _ => decodeOther op b
  | none => none

/-- The bound of TARGET; 0 where TARGET must be 0xFFFF (13 R293). -/
def targetBound (op : Nat) : Nat :=
  if op = 0x0013 then 2
  else if op = 0x0102 then 16
  else if 0x0101 ≤ op && op ≤ 0x0120 then 64
  else if op = 0x0201 || op = 0x0210 then 16384
  else if op = 0x0301 || op = 0x0321 || op = 0x0411 || op = 0x0A02 then 64
  else if op = 0x0302 then 32
  else if op = 0x0320 || op = 0x0322 then 4096
  else if op = 0x0330 || op = 0x0331 then 32
  else if op = 0x0B02 then 8
  else 0

/-- TARGET is in its range (13 R293). -/
def targetOk (op t : Nat) : Bool := if targetBound op = 0 then t = 0xFFFF else decide (t < targetBound op)

/-- The modes of an opcode's entry (13 R291). -/
def opModeOk (op : Nat) (m : Mode) : Bool :=
  if op = 0x0020 || op = 0x0801 then m = .config || m = .service || m = .hold
  else if op = 0x0021 then m = .config || m = .hold
  else true

/-- Modes in which commands are taken (13 R291). -/
def Mode.takes : Mode → Bool
  | .config | .grid | .direct | .dense | .tweed | .service | .hold => true
  | .latched | .sleep | .insert | .boot | .fault => false

/-! ## Packets (12 R274-R277) -/

/-- Words of a packet of header words and parameters: PARAM_LEN and TARGET. -/
def wordsPlen (ws : List Word) : Nat := (ws.getD 2 0).toNat / 65536

/-- The packet that words spell on a path, with the packet refusal found in it (12 R277): VER, PARAM_LEN, CRC. -/
def packetOf (st : Stream) (pa : Path) (ws : List Word) : Packet :=
  let w0 := ws.getD 0 0
  let w2 := ws.getD 2 0
  let n := wordsPlen ws
  let bytes := (wordsBytes (ws.drop 4)).take n
  let op := bits w0 31 16
  let crc := crc32c (wordBytes w0 ++ wordBytes (ws.getD 1 0) ++ wordBytes w2 ++ zeros 4 ++ bytes)
  let bad := if bits w0 7 0 != 2 then 0x0100
    else if n % 4 != 0 || (decide (240 < n) && pa = .fifo) || decide (4080 < n) then 0x0101
    else if crc != ws.getD 3 0 then 0x0102
    else if (opClass op).isNone then 0x0100 else 0
  { stream := st, path := pa, opcode := op, target := bits w2 15 0, seq := ws.getD 1 0, dry := bit w0 8,
    params := if bits w0 15 9 = 0 then decodeParams op bytes else none, bytes := bytes, bad := bad }

/-- The packet of a command row: its bytes are those of its operands (13 R292). -/
def Head.packet (hd : Head) (p : Params) : Packet :=
  let bytes := encodeParams p
  let bad := if decide (4080 < bytes.length) || (hd.path = .fifo && decide (240 < bytes.length)) then 0x0101 else 0
  { stream := hd.stream, path := hd.path, opcode := (Params.opcode p), target := hd.target.toNat, seq := hd.seq, dry := hd.dry,
    params := if hd.reserved then none else decodeParams (Params.opcode p) bytes, bytes := bytes, bad := bad }

/-- A reply's words: header and result, its CRC computed (12 R276). -/
def Reply.words (r : Reply) : List Word :=
  let w0 := image [(16, r.opcode), (0, r.status)]
  let w2 := image [(16, r.result.length), (0, r.jidx)]
  let crc := crc32c (wordBytes w0 ++ wordBytes r.seq ++ wordBytes w2 ++ zeros 4 ++ r.result)
  [w0, r.seq, w2, crc] ++ bytesWords (r.result.length / 4 + 1) r.result

/-- Status codes (12 R277). -/
def stOk : Nat := 0x0000
def stReplayed : Nat := 0x0001
def stBadOpcode : Nat := 0x0100
def stBadLength : Nat := 0x0101
def stBadParam : Nat := 0x0103
def stBadTarget : Nat := 0x0104
def stWrongMode : Nat := 0x0200
def stBusy : Nat := 0x0201
def stNoResource : Nat := 0x0202
def stAdmission : Nat := 0x0203
def stLate : Nat := 0x0204
def stSeq : Nat := 0x0205
def stDisagreed : Nat := 0x0206
def stNotAuth : Nat := 0x0300
def stSignature : Nat := 0x0301
def stRollback : Nat := 0x0302
def stHwFault : Nat := 0x0400
def stPersist : Nat := 0x0401

/-- What a command has come to: its status and result. -/
structure Res where
  status : Nat := 0
  result : List Byte := []
deriving DecidableEq, Repr

/-! ## Packets in a chain (12 R288, R289) -/

/-- The head packet of a command chain once it is whole, and the words after it (12 R288). -/
def headPacket (ws : List Word) : Option (List Word × List Word) :=
  let n := 4 + wordsPlen ws / 4
  if 3 ≤ ws.length && n ≤ ws.length then some (ws.take n, ws.drop n) else none

/-- The words at the end of a chain that do not yet make a whole packet; `n` bounds the packets before them. -/
def partialWords : Nat → List Word → List Word
  | 0, ws => ws
  | n + 1, ws => match headPacket ws with
    | some (_, rest) => partialWords n rest
    | none => ws

end Sys2Proof.Machine
end

