-- ==== Sys2Proof/Machine/PacketTest.lean ====
section
/-! DEFINITION. The tests of a command that depend on its packet alone, made when it is taken (12 R457), and the length of
its result (12 R259, 13 R296). -/

namespace Sys2Proof.Machine

/-- A test that answers BAD_PARAM when it fails. -/
def param (ok : Bool) : Nat := if ok then 0 else stBadParam

/-- The bits of `w` outside mask `m` are zero (13 R292). -/
def onlyBits {n : Nat} (w : BitVec n) (m : Nat) : Bool := w &&& ~~~(BitVec.ofNat n m) = 0

/-! ## Ports (02, 03, 07, 08, 09) -/

/-- A nominal rate of at least `lo` and at most `hi` bit/s: a bit of `n` protocol clocks of 6.25 ns. -/
def rateIn (n lo hi : Nat) : Bool := decide (lo * n ≤ 160000000) && decide (160000000 ≤ hi * n)

/-- The nominal rate range of a port (02, port variants; 02 R32). -/
def nominalOk (p : Nat) (c : PortConfigP) : Bool :=
  let n := nbitClocks c.nbt
  if p < 16 && !bit c.ctrl 8 then rateIn n 5000 2000000 else rateIn n 5000 1000000

/-- The oscillator conditions of ISO 11898-1, with the second phase segment wherever they use a phase segment (02 R42, log
entry 14). The tolerance is `t` ppm; every condition is cross-multiplied. -/
def oscOk (c : PortConfigP) : Bool :=
  let t := c.oscTol.toNat
  let n := nqTotal c.nbt
  let p2 := ntseg2 c.nbt
  let nominal := decide (t * (20 * n) ≤ 1000000 * nsjw c.nbt) && decide (t * (2 * (13 * n - p2)) ≤ 1000000 * p2)
  let m := dqTotal c.dbt
  let d2 := dtseg2 c.dbt
  let bn := nbrp c.nbt
  let bd := dbrp c.dbt
  let data := decide (t * (20 * m) ≤ 1000000 * dsjw c.dbt) &&
    decide (t * (2 * ((6 * m - d2) * bd + 7 * n * bn)) ≤ 1000000 * (p2 * bn)) &&
    decide ((t : Int) * (2 * ((2 * n - p2) * bn + (d2 + 4 * m) * bd) : Nat) ≤
      1000000 * ((dsjw c.dbt * bd : Nat) - max 0 ((bn : Int) - bd)))
  nominal && (!bit c.fmt 0 || data)

/-- The timing rules of an enabled port (02 R42, R43). -/
def timingOk (p : Nat) (c : PortConfigP) : Bool :=
  if !bit c.ctrl 0 then true
  else
    let w := c.nbt
    let d := c.dbt
    let nom := decide (nsjw w ≤ ntseg2 w) && decide (nsjw w ≤ ntseg1 w) && decide (2 ≤ ntseg2 w) && decide (8 ≤ nqTotal w) && nominalOk p c
    let fd := decide (dsjw d ≤ dtseg2 d) && decide (dsjw d ≤ dtseg1 d) && decide (2 ≤ dbrp d * dtseg2 d) &&
      decide (dbitClocks d ≤ nbitClocks w) && decide (8 ≤ dbitClocks d) && !(bits c.tdc 1 0 = 2 && decide (2 < dbrp d))
    nom && (!bit c.fmt 0 || fd) && oscOk c

/-- Transceiver mode switching is acceptable (02 R39). -/
def tmsOk (p : Nat) (c : PortConfigP) : Bool :=
  if !bit c.fmt 4 then true
  else
    let s := bits c.pwm 5 0
    let l := bits c.pwm 13 8
    (decide (16 ≤ p) || bit c.ctrl 8) && bit c.fmt 1 && !bit c.fmt 3 && decide (s + l = dbitClocks c.dbt) && decide (s < l) &&
      decide (1 ≤ s)

/-- PORT_CONFIG (13; 02 R32, R36, R39, R42, R43). -/
def portConfigOk (p : Nat) (c : PortConfigP) : Bool :=
  onlyBits c.ctrl 0x13F && onlyBits c.fmt 0x1F && onlyBits c.nbt 0x7F7FFFFF && onlyBits c.dbt 0x1F1F3F1F &&
    onlyBits c.tdc 0x7F03 && onlyBits c.pwm 0x3F3F3F && decide (1 ≤ c.oscTol.toNat) && decide (c.oscTol.toNat ≤ 20000) &&
    (decide (p < 16) || bit c.ctrl 8) && (!bit c.fmt 1 || bit c.fmt 0) && (!bit c.fmt 2 || bit c.fmt 1) &&
    !(bit c.fmt 2 && bit c.ctrl 8) && bits c.tdc 1 0 != 3 && tmsOk p c && timingOk p c

/-! ## Objects (04) -/

/-- The rules of 04 R85 that the record alone decides; SELF names the object (13 R292). -/
def objRecordOk (r : ObjRecord) : Bool :=
  let fmt := Fmt.ofCode (bits r.cfg 23 22)
  decide (r.obj.toNat < 16384) && onlyBits r.cfg 0xFFFE3FFF && bits r.cfg 13 0 = r.obj.toNat && onlyBits r.id 0x1FFFFFFF &&
    onlyBits r.xl 0xFFFF0001 && onlyBits r.granCount 0x3F && decide (r.granCount.toNat ≤ 32) && onlyBits r.txcfg 0xFFF00000 &&
    !(bit r.cfg 21 && fmt.isXl) && !(bit r.cfg 19 && fmt != .fd) && !(bit r.cfg 20 && fmt != .classical) &&
    (bit r.cfg 30 || bits r.cfg 20 17 = 0 && r.xl = 0 && r.af = 0 &&
      r.txcfg = 0) &&
    bits r.txcfg 31 30 != 3 && bits r.txcfg 29 28 != 3 && bits r.txcfg 27 26 != 3

/-- The place of the first record that fails `f`. -/
def firstBad (f : ObjRecord → Bool) : Nat → List ObjRecord → Option Nat
  | _, [] => none
  | i, r :: rs => if f r then firstBad f (i + 1) rs else some i

/-- The place of the first record whose object an earlier one names. -/
def firstTwice : Nat → List Nat → List ObjRecord → Option Nat
  | _, _, [] => none
  | i, seen, r :: rs => if seen.contains r.obj.toNat then some i else firstTwice (i + 1) (r.obj.toNat :: seen) rs

/-- The first failing record of OBJ_CONFIG_N when it is taken (13 R302). -/
def objRecordsBad (rs : List ObjRecord) : Option Nat :=
  match firstBad objRecordOk 0 rs, firstTwice 0 [] rs with
  | some a, some b => some (min a b)
  | some a, none => some a
  | none, b => b

/-! ## Filters and routes (05, 10) -/

/-- A FLT_RESULT of KIND 0 has VALUE 0 (05 R115). -/
def resultOk (r : Nat) : Bool := resKind r != 0 || resValue r = 0

/-- A filter element (05 R115). -/
def elemOk (e : Elem) : Bool :=
  let ty := bits e.w0 30 29
  onlyBits e.w0 0xFE00FFFF && onlyBits e.a 0x1FFFFFFF && onlyBits e.b 0x1FFFFFFF && e.w3 = 0 && ty != 3 &&
    !(bit e.w0 31 && bits e.w0 28 25 = 0) && resultOk (bits e.w0 15 0) && (ty != 0 || e.a &&& ~~~e.b = 0) &&
    (ty != 1 || decide (bits e.a 28 0 ≤ bits e.b 28 0))

/-- A route entry (10 R227, RTE_ENTRY, RTE_EXT). -/
def routeOk (e : BitVec 64) (x : Word) : Bool :=
  !bit e 29 && onlyBits x 0xFFFFFFC0 && rteIdMode e != 3 && extLenMode x != 3 && (extLenMode x != 2 || decide (2 ≤ extPackN x)) &&
    !(rteIde e && (rteFmt e).isXl) && !(rteIdMode e = 1 && !rteIde e && decide (0x7FF < rteNewId e)) &&
    !(extLenMode x = 2 && rteFmt e = .classical) && !(extHop x != 0 && !(rteFmt e).isXl) &&
    (rteKeyType e = 1 || rteSrc e = 0)

/-! ## Cycle (08) -/

/-- Strictly increasing starts from 0 up to `n`, zeros after (08 R179). -/
def startsOk (n : Nat) (st : List Nat) : Bool :=
  st.headD 1 = 0 && ((nums (n - 1)).all fun i => decide (st.getD i 0 < st.getD (i + 1) 0)) && (st.drop n).all (· == 0)

/-- A Dense entry (10, RTE_DENSE). -/
def denseOk (e : BitVec 64) : Bool :=
  onlyBits e 0xFFFFFF80FFFF0000 && denOffset e = 0 && decide (1 ≤ denDeadline e) && (denForeign e || denPeriod e != 7)

/-! ## Rings (11 R263) -/

def ringOk (base : BitVec 64) (log lo hi : Nat) : Bool :=
  (base = 0 && log = 0) || (bits base 11 0 = 0 && decide (lo ≤ log) && decide (log ≤ hi))

/-- No number other than 255 stands twice. -/
def portsOnce : List Nat → Bool
  | [] => true
  | p :: ps => (p = 255 || !ps.contains p) && portsOnce ps

/-- INT_PRIO_SET names no source without a settable priority (13). -/
def prioRange (first n : Nat) : Bool :=
  decide (1 ≤ first) && decide (first + n ≤ 256) && (decide (first + n ≤ 175) || decide (192 ≤ first))

/-- The tests of the packet alone, but for TARGET, modes and the effective window (12 R457, 13). -/
def packetTest (k : Packet) : Params → Nat
  | .modeSet _ m => param (decide (4 ≤ m.toNat) && decide (m.toNat ≤ 10))
  | .cfgPolicySet _ n => param (decide (n.toNat ≤ 2))
  | .leadSet _ a b => param (decide (a.toNat ≤ 1) && decide (b.toNat ≤ 1) && (a.toNat = 1 || b.toNat = 0))
  | .hbPeriod _ =>
    if (k.stream = .hostA && k.target != 0) || (k.stream = .hostB && k.target != 1) then stBadTarget else 0
  | .devReset key => if key = 0x5A423634#32 then 0 else stNotAuth
  | .sleep w => param (w != 0 && decide (w.toNat < 16))
  | .portConfig _ c => param (portConfigOk k.target c)
  | .portSilk _ c w => param (!bit c 2 && bits c 5 4 != 3 && onlyBits w 0xF00)
  | .portErrcfg _ c w => param (onlyBits c 0xFFFF0003 && bits c 1 0 != 3 && !(bits c 1 0 = 1 && bits c 31 16 = 0) &&
      onlyBits w 0xFFFF0000)
  | .portFence _ c => param (onlyBits c 0xF8FFFFF8 && fenceMode c != 3)
  | .portDelivery _ own m f n => param (decide (own.toNat ≤ 1) && decide (m.toNat ≤ 1) && decide (f.toNat ≤ 32767) &&
      decide (n.toNat ≤ 2097152) && n.toNat % 8 = 0 && (m.toNat = 0 || (f = 0 && n = 0)))
  | .portRemap op => param (decide (op.toNat ≤ 1))
  | .objConfig _ r => param (objRecordOk { r with obj := BitVec.ofNat 16 k.target })
  | .objConfigN _ rs => param (decide (1 ≤ rs.length) && decide (rs.length ≤ 145) && (objRecordsBad rs).isNone)
  | .objRead o n => param (o.toNat % 16 = 0 && n.toNat % 16 = 0)
  | .fltPort _ c e d ds => param (onlyBits c 0x9F003FFF && onlyBits e 0xFF000FFF && decide (bits e 31 24 ≤ 128) &&
      decide (bits e 11 0 + bits e 31 24 ≤ 4096) && resultOk (bits d 31 16) && resultOk (bits d 15 0) && onlyBits ds 0xFFFF &&
      resultOk (bits ds 15 0))
  | .fltDtable _ f rs => param (decide (1 ≤ rs.length) && decide (rs.length ≤ 2034) && decide (f.toNat + rs.length ≤ 2048) &&
      rs.all fun r => resultOk r.toNat)
  | .fltElem _ f es => param (decide (1 ≤ es.length) && decide (es.length ≤ 254) && decide (f.toNat + es.length ≤ 4096) &&
      es.all elemOk)
  | .fltRead w t f n =>
    param (if w = 0 then decide (t.toNat < 32) && decide (f.toNat + n.toNat ≤ 2048)
           else w = 1 && decide (f.toNat + n.toNat ≤ 4096))
  | .rteSet _ e x => param (routeOk e x)
  | .rteQuota _ n => param (decide (n.toNat ≤ 2944))
  | .pairSet _ e => param (onlyBits e 0x8000FFFF00000000 && pairSkew e != 0)
  | .cycSource _ c n => param (onlyBits c 0xFFFFFF77 && decide (bits c 2 0 ≤ 3) && bits c 31 24 != 0 &&
      decide (1 ≤ bits c 23 14) && decide (bits c 23 14 ≤ 1000) && decide (10000 ≤ n.toNat) && decide (n.toNat ≤ 1000000000))
  | .cycWindows _ j n st => param (decide (1 ≤ j.toNat) && decide (j.toNat ≤ 32767) && decide (1 ≤ n.toNat) &&
      decide (n.toNat ≤ 64) && startsOk n.toNat (st.map BitVec.toNat))
  | .denseSet _ p a es => param (decide (p.toNat < 64) && decide (a.toNat ≤ 7) && decide (es.length ≤ 448) && es.all denseOk)
  | .ringDelivery _ b n =>
    if k.stream = .mgmt || k.stream = .intern then stWrongMode else param (ringOk b n.toNat 16 28)
  | .ringCommand _ b n =>
    if k.stream = .mgmt || k.stream = .intern then stWrongMode else param (k.path != .ring && ringOk b n.toNat 12 20)
  | .ringReply _ b n =>
    if k.stream = .mgmt || k.stream = .intern then stWrongMode else param (ringOk b n.toNat 12 20)
  | .ringWriteback _ a =>
    if k.stream = .mgmt || k.stream = .intern then stWrongMode else param (bits a 5 0 = 0)
  | .ringRearm => if k.stream = .mgmt || k.stream = .intern then stWrongMode else param (k.path != .ring)
  | .profileLoad _ n => param (decide (n.toNat ≤ 7))
  | .profileStore c => param (decide (c.dest.toNat ≤ 7) && decide (4 ≤ c.total.toNat) && decide (c.total.toNat ≤ 2097152))
  | .pregWrite i vs =>
    if !(decide (1 ≤ vs.length) && decide (vs.length ≤ 1018) && decide (i.toNat + vs.length ≤ 4096)) then stBadParam
    else if i.toNat < 0x200 then stNotAuth else 0
  | .pregRead i n => param (decide (1 ≤ n.toNat) && decide (n.toNat ≤ 1020) && decide (i.toNat + n.toNat ≤ 4096))
  | .recRead _ n => param (decide (1 ≤ n.toNat) && decide (n.toNat ≤ 127))
  | .jnlRead _ n => param (decide (1 ≤ n.toNat) && decide (n.toNat ≤ 127))
  | .pwrLimits i t r => param (decide (50 ≤ i.toNat) && decide (i.toNat ≤ 1200) && decide (8 ≤ t.toNat) &&
      decide (t.toNat ≤ 16) && decide (r.toNat ≤ 7))
  | .doSet _ m v => param (decide (m.toNat < 16) && decide (v.toNat < 16))
  | .fldConfig _ a _ => param (decide (a.toNat ≤ 1))
  | .fwStage c => param (decide (c.dest.toNat ≤ 2))
  | .fwVerify p => param (decide (p.toNat ≤ 2))
  | .fwActivate _ p => param (decide (p.toNat ≤ 2))
  | .canvasRead o n => param (o.toNat % 4 = 0 && n.toNat % 4 = 0 && decide (4 ≤ n.toNat) && decide (n.toNat ≤ 4064))
  | .intPrioSet f ps => param (prioRange f.toNat ps.length && ps.all fun x => decide (x.toNat ≤ 15))
  | .intModSet _ =>
    if (k.stream = .hostA && k.target != 0) || (k.stream = .hostB && k.target != 1) then stBadTarget else 0
  | .twdMap _ ps => param ((ps.all fun x => decide (x.toNat < 64) || x.toNat = 255) && portsOnce (ps.map BitVec.toNat))
  | .seqQuery | .devInfo | .portGuard _ _ | .portRecover _ | .portRelease _ | .portStatus | .objPool | .rteStatus
  | .pairStatus | .cycCountSet _ _ | .timeSet _ _ | .timeQuery | .denseRead | .profileList | .recNonce | .recClear _ _ _
  | .pwrStatus | .fldRestore | .fldStatus | .fwStatus | .diagMem | .diagPort | .diagGate | .canvasInfo | .canvasRelease
  | .twdStatus | .tweedSlot _ _ _ _ => 0

/-- The result a refusal of the packet alone gives: the first failing record of OBJ_CONFIG_N (13). -/
def refusalResult : Params → List Byte
  | .objConfigN _ rs => match objRecordsBad rs with | some i => leBytes 2 i ++ zeros 2 | none => []
  | _ => []

/-- Bytes of the result where the parameters fix them and they can exceed 240 (13 R296). -/
def resultLen : Params → Nat
  | .objConfigN _ rs => 4 * rs.length
  | .objRead _ n => 64 + n.toNat
  | .fltRead w _ _ n => if w = 0 then (2 * n.toNat + 3) / 4 * 4 else 16 * n.toNat
  | .denseSet _ _ _ es => 4 + 8 * es.length
  | .pregRead _ n => 4 * n.toNat
  | .recRead _ n => 32 * n.toNat
  | .jnlRead _ n => 32 * n.toNat
  | .canvasRead _ n => n.toNat
  | _ => 0

end Sys2Proof.Machine
end

