-- ==== Sys2Proof/Machine/Image.lean ====
section
/-! DEFINITION. Images in NOR: firmware images and profiles, their checks and a profile's packets (15 R340, 16 R357-R361). -/

namespace Sys2Proof.Machine

/-- VERSION and LENGTH of a profile image (15 R340). -/
def profileVersion (b : List Byte) : Nat := u32At b 4
def profileLength (b : List Byte) : Nat := u32At b 8

/-- Opcodes a profile may hold: configuration commands of groups 0x01 to 0x04 but CYC_COUNT_SET and TIME_SET, DO_SET,
FLD_CONFIG and TWD_MAP (15 R340). -/
def profileOpcode (op : Nat) : Bool :=
  opClass op = some .config && ((decide (0x0100 ≤ op) && decide (op < 0x0500) && op != 0x0403 && op != 0x0404) ||
    op = 0x0810 || op = 0x0811 || op = 0x0C01)

/-- `n` packets from the bytes on; none where the bytes are not `n` whole packets of allowed opcodes with SEQ 0 and EW
bytes 0. -/
def imagePackets : Nat → List Byte → Option (List Packet)
  | 0, b => if b.isEmpty then some [] else none
  | n + 1, b =>
    if b.length < 16 then none
    else
      let plen := u16At b 10
      let size := 16 + plen
      let k := packetOf .intern .inside (bytesWords (4 + (plen + 3) / 4) (b.take size))
      if b.length < size || k.bad != 0 || k.dry || k.seq != 0 || !profileOpcode k.opcode || !zeroAt k.bytes 0 8 then none
      else (imagePackets n (b.drop size)).map fun (r : List Packet) => k :: r

/-- The packets of a profile image. -/
def profilePackets (b : List Byte) : Option (List Packet) :=
  imagePackets (u32At b 12) ((b.drop 64).take (b.length - 128))

/-- The profile public key of persistent registers 0x080-0x08F: x then y, each big-endian (16 R359). -/
def State.profileKey (s : State) : List Byte := (nums 16).flatMap fun i => (wordBytes (s.preg (0x080 + i))).reverse

/-- A profile's image is as 15 R340 lays it out, and its signature checks against a key. -/
def profileSound (key b : List Byte) : Bool :=
  decide (128 ≤ b.length) && u32At b 0 = 0x5A50524F && profileLength b = b.length && zeroAt b 16 48 &&
    (profilePackets b).isSome && imageSigned key b

/-- A status for a profile image against the counter of register 0x043 (15 R340, 16 R360). -/
def State.profileStatus (s : State) (b : List Byte) : Nat :=
  if !profileSound s.profileKey b then stSignature else if profileVersion b < (s.preg 0x043).toNat then stRollback else 0

/-- The image in a profile slot, none when it is empty. -/
def State.profileImage (s : State) (n : Nat) : Option (List Byte) :=
  match s.fw.profiles.find n with
  | some [] => none
  | r => r

/-- The profile in a slot verifies now (13, PROFILE_LIST). -/
def State.profileValid (s : State) (n : Nat) : Bool :=
  match s.profileImage n with
  | some b => s.profileStatus b = 0
  | none => false

/-- GUARD_MAX of a port in a profile's packets; 0 where none gives it (06 R140, 15 R340). -/
def guardIn (ks : List Packet) (p : Nat) : Nat :=
  ks.foldl (fun n k => match k.params with
    | some (.portGuard _ m) => if k.target = p then m.toNat else n
    | _ => n) 0

/-- The value Buckram holds a port's GUARD_MAX to: that of the active profile (06 R140). With no active profile no value is stated:
DESIGN CHOICE, 0 (log entry 174). -/
def State.guardBound (s : State) (p : Nat) : Nat :=
  match s.dev.profile with
  | none => 0
  | some n => match s.profileImage n with
    | some b => guardIn ((profilePackets b).getD []) p
    | none => 0

/-! ## Firmware images (16 R357-R360) -/

def partMax (p : Nat) : Nat := if p = 0 then 114688 else if p = 1 then 737280 else 98304

def fwVersion (b : List Byte) : Nat := u32At b 8
def fwFloor (b : List Byte) : Nat := u32At b 12
def fwProfileFloor (b : List Byte) : Nat := u32At b 16

/-- A firmware image verifies for a part but for the anti-rollback counter (16 R359). -/
def fwSound (p : Nat) (b : List Byte) : Bool :=
  u32At b 0 = 0x5A504657 && u8At b 4 = p && u8At b 5 = 1 && u32At b 0x14 = b.length && decide (128 ≤ b.length) &&
    decide (b.length ≤ partMax p) && decide (fwFloor b ≤ fwVersion b) && imageSigned Config.firmwareKey b

/-- The anti-rollback counter of a part (16 R360). -/
def State.fwCounter (s : State) (p : Nat) : Nat := (s.preg (0x040 + p)).toNat

/-- A status for an image of a part: SIGNATURE_INVALID, ROLLBACK_REFUSED or OK (16 R359, R360). -/
def State.fwStatusOf (s : State) (p : Nat) (b : List Byte) : Nat :=
  if !fwSound p b then stSignature else if fwVersion b < s.fwCounter p then stRollback else 0

/-- A part (16), none of whose fields is listed: empty slots. -/
def State.part (s : State) (p : Nat) : Part := s.fw.parts.get {} p
def State.modPart (s : State) (p : Nat) (f : Part → Part) : State :=
  { s with fw := { s.fw with parts := s.fw.parts.put p (f (s.part p)) } }

/-- The image in slot `k` of a part. -/
def Part.image (v : Part) (k : Nat) : Option (List Byte) := (v.slots.getD k none)

/-- FW_SLOTS: the active slot of a part (16 R357). -/
def State.fwSlot (s : State) (p : Nat) : Nat := flag ((s.preg 0x044).getLsbD p)

/-- The image that FW_ACTIVATE starts: the copy in the standby SRAM slot, Amioc's in NOR (16 R364, R365). -/
def State.standbyImage (s : State) (p : Nat) : Option (List Byte) :=
  if p = 2 then (s.part p).image (1 - s.fwSlot p) else (s.part p).copy

/-- The status of starting an image: none to start is HW_FAULT (16 R360, R365). -/
def State.startStatus (s : State) (p : Nat) (b : Option (List Byte)) : Nat :=
  match b with
  | some b => s.fwStatusOf p b
  | none => stHwFault

/-- The slot that starts: the active one if it verifies, else the other, none when neither does (16 R362). -/
def State.startSlot (s : State) (p : Nat) : Option Nat :=
  let a := s.fwSlot p
  let good (k : Nat) : Bool := match (s.part p).image k with | some b => s.fwStatusOf p b = 0 | none => false
  if good a then some a else if good (1 - a) then some (1 - a) else none

end Sys2Proof.Machine
end

