-- ==== Sys2Proof/Machine/Draft.lean ====
section
/-! DEFINITION. The configuration that commands would leave in force: commands are drafted onto a copy of the state, in which
settings stand as they would after every wait, and tested against it (12 R280, R457, 04 R84). -/

namespace Sys2Proof.Machine

/-- A draft: the configuration so far, the granules taken before the window or by it, the header changes in order, and, once a
profile has returned every object to disabled, the objects that were enabled: DIR, GRAN_COUNT and GRAN_BASE. -/
structure Draft where
  st    : State
  taken : List (Nat × Nat)
  mods  : List (Nat × ObjRecord × Nat) := []
  kept  : Tbl (Bool × Nat × Nat) := []

/-- The one change of each object's header that the window makes: the last drafted (04 R86, 12 R280). -/
def lastMods : List (Nat × ObjRecord × Nat) → List (Nat × ObjRecord × Nat)
  | [] => []
  | x :: xs => if xs.any fun y => y.1 == x.1 then lastMods xs else x :: lastMods xs

/-! ## Granules (04 R84) -/

/-- The granules an object's configuration occupies; a receive slot of Tweed holds 2 (15 R349). -/
def occupied (slot : Bool) (send : Bool) (count : Nat) : Nat := if send then 3 * count else if slot then 2 * count else count

def isSlotObj (s : State) (o : Nat) : Bool := (s.slotOf o).isSome

/-- The runs that enabled objects hold. -/
def State.runs (s : State) : List (Nat × Nat) :=
  (s.objs.filter fun e => e.2.en).map fun e => (e.2.granBase, occupied (isSlotObj s e.1) e.2.send e.2.granCount)

def overlaps (a n : Nat) (r : Nat × Nat) : Bool := decide (a < r.1 + r.2) && decide (r.1 < a + n)

/-- The lowest base at which `n` granules are free (04 R84). -/
def lowestFit (rs : List (Nat × Nat)) (n : Nat) : Option Nat :=
  let cands := (0 :: rs.map fun r => r.1 + r.2).filter fun a =>
    decide (a + n ≤ 65536) && !rs.any (overlaps a n)
  cands.foldl (fun (b : Option Nat) a => match b with | none => some a | some c => some (min a c)) none

/-- The longest run of free granules, and how many are free (13, OBJ_POOL). -/
def State.freeRuns (s : State) : Nat × Nat :=
  let rs := s.runs
  let used := rs.foldl (fun n r => n + r.2) 0
  let ends := 0 :: rs.map fun r => r.1 + r.2
  let run (a : Nat) : Nat :=
    if rs.any (overlaps a 1) then 0
    else (rs.filter fun r => decide (a ≤ r.1) && r.2 != 0).foldl (fun m r => min m r.1) 65536 - a
  (65536 - used, ends.foldl (fun m a => max m (run a)) 0)

/-! ## The state at the start of a draft -/

/-- Settings that wait for bus idle or for window 0, and header changes that wait for a frame, as though applied. -/
def State.settled (s : State) : State :=
  let s1 := forAll (fun (e : Nat × PortS) s => s.modPort e.1 fun v =>
    { v with cfg := { v.cfg with pc := v.stat.pend.getD v.cfg.pc, silkCtrl := v.stat.pendSilk.getD v.cfg.silkCtrl
                                 fenceCfg := s.trk2.dueFence.get v.cfg.fenceCfg e.1 }
             stat := { v.stat with pend := none, pendSilk := none, disable := false } }) s.ports s
  let s2 := forAll (fun (x : Nat × ObjRecord × Nat) s => s.modObj x.1 fun v => v.configured x.2.1 x.2.2) s.mem.staged s1
  let s3 := forAll (fun (x : Nat × Word) (s : State) => s.modObj x.1 fun v => { v with sched := x.2 }) s.mem.stagedSched s2
  { s3 with trk := { s3.trk with cfg := s3.trk2.dueCyc.getD s3.trk.cfg } }

/-- A draft over a state: granules of the pool before the window, header changes that wait included. -/
def State.draft (s : State) : Draft :=
  let t := s.settled
  { st := t, taken := s.runs ++ t.runs }

/-! ## Drafting one command -/

/-- The first granule of an object that the configuration keeps enabled with the same DIR and GRAN_COUNT (04 R84). -/
def Draft.keepBase (d : Draft) (o : Nat) (send : Bool) (count : Nat) : Option Nat :=
  let v := d.st.obj o
  if v.en && v.send == send && v.granCount = count then some v.granBase
  else match d.kept.find o with
    | some (dir, n, b) => if dir == send && n = count then some b else none
    | none => none

/-- A slot in force is one no longer, since OBJ_CONFIG or a profile has given its object another configuration (15 R349). -/
def State.slotGone (s : State) (o : Nat) : State :=
  match s.slotOf o with
  | some i => s.modSlotTx i fun x => { x with inForce := x.inForce &&& 0x7FFFFFFF#32 }
  | none => s

/-- The configuration of one object is drafted; an object that needs a new run and finds none is NO_RESOURCE (04 R84). -/
def Draft.object (d : Draft) (r : ObjRecord) (slot : Bool) : Draft × Option Nat :=
  let o := r.obj.toNat
  let n := occupied slot (bit r.cfg 30) r.granCount.toNat
  let st := if slot then d.st else d.st.slotGone o
  let put (base : Nat) (taken : List (Nat × Nat)) : Draft × Option Nat :=
    ({ d with st := st.modObj o fun v => v.configured r base, taken := taken, mods := d.mods ++ [(o, r, base)] }, some base)
  if !bit r.cfg 31 then put 0 d.taken
  else match d.keepBase o (bit r.cfg 30) r.granCount.toNat with
    | some b => put b d.taken
    | none =>
      match lowestFit d.taken n with
      | some b => put b ((b, n) :: d.taken)
      | none => (d, none)

/-- The result of one object: GRAN_BASE and the granules it occupies (13). -/
def objResult (slot : Bool) (r : ObjRecord) (base : Nat) : List Byte :=
  if bit r.cfg 31 then leBytes 2 base ++ leBytes 2 (occupied slot (bit r.cfg 30) r.granCount.toNat) else zeros 4

def Draft.onPort (d : Draft) (p : Nat) (f : PortCfg → PortCfg) : Draft :=
  { d with st := d.st.modPort p fun v => { v with cfg := f v.cfg } }

/-- Objects in turn; the first that finds no room is named. -/
def Draft.objects (d : Draft) (slot : Bool) : Nat → List ObjRecord → List Byte → Draft × Res
  | _, [], res => (d, { result := res })
  | i, r :: rs, res =>
    match d.object r slot with
    | (d1, some b) => d1.objects slot (i + 1) rs (res ++ objResult slot r b)
    | (_, none) => (d, { status := stNoResource, result := leBytes 2 i ++ zeros 2 })

/-- The record of a Tweed slot (15 R349): Classical, 8 bytes, under ANY. -/
def slotRecord (i port : Nat) (scfg : Word) : ObjRecord :=
  { obj := BitVec.ofNat 16 (slotBase + i)
    cfg := image [(31, flag (bit scfg 31)), (30, flag (bit scfg 30)), (24, port), (21, flag (bit scfg 29)), (0, slotBase + i)]
    id := image [(0, bits scfg 28 0)], xl := 0, af := 0, granCount := 1, txcfg := 0 }

/-- Direct tables in use: those of the ports, and one for each channel with an enabled STD receive slot (15 R349, R350). -/
def State.tablesUsed (s : State) : Nat :=
  let own := (nums 64).foldl (fun l p =>
    let c := (s.port p).cfg
    if bit c.fltCtrl 31 then insertNat (bits c.fltCtrl 28 24) l else l) []
  let std (c : Nat) : Bool := (nums 32).any fun k => (s.twd.tx (32 * c + k)).receives false
  own.length + ((nums 16).filter fun c => (s.twd.portOf c).isSome && std c).length

/-- Filter elements in use: those of the ports' lists, and one for each enabled IDE 1 receive slot of a mapped channel (05 R115,
15 R349). -/
def State.elementsUsed (s : State) : Nat :=
  let lists := (nums 64).map fun p => let c := (s.port p).cfg; (bits c.fltElem 11 0, bits c.fltElem 31 24)
  let own := ((nums 4096).filter fun i => lists.any fun l => decide (l.1 ≤ i) && decide (i < l.1 + l.2)).length
  let slots (c : Nat) : Nat := ((nums 32).filter fun k => (s.twd.tx (32 * c + k)).receives true).length
  (nums 16).foldl (fun n c => if (s.twd.portOf c).isSome then n + slots c else n) own

/-- The direct tables and the elements in use suffice (05 R115). -/
def State.tablesFit (s : State) : Bool := decide (s.tablesUsed ≤ 32) && decide (s.elementsUsed ≤ 4096)

/-- A Tweed slot's new settings are drafted; lacking granules, a direct table or elements leave it disabled (15 R350, 05
R115). -/
def Draft.slot (d : Draft) (i : Nat) (scfg mask : Word) : Draft × Res :=
  match d.st.twd.portOf (i / 32) with
  | none => (d, {})
  | some p =>
    let off := scfg &&& 0x7FFFFFFF#32
    let with_ (d : Draft) (w : Word) : Draft :=
      { d with st := d.st.modSlotTx i fun x => { x with inForce := w, mask := mask } }
    let d1 := with_ d scfg
    let tables := d1.st.tablesFit
    match d1.object (slotRecord i p scfg) true with
    | (d2, some _) => if tables || !bit scfg 31 then (d2, {})
      else ((with_ d off).object (slotRecord i p off) true |>.1, { status := stNoResource })
    | (_, none) => ((with_ d off).object (slotRecord i p off) true |>.1, { status := stNoResource })

/-- The settings a profile returns to their reset values (15 R340). -/
def Draft.blank (d : Draft) : Draft :=
  let s := d.st
  let off (o : Nat) : ObjRecord := ⟨BitVec.ofNat 16 o, BitVec.ofNat 32 o, 0, 0, 0, 0, 0⟩
  let gone := (s.objs.filter fun e => e.2.en).map Prod.fst
  { d with
    mods := d.mods ++ gone.map fun o => (o, off o, 0)
    kept := (s.objs.filter fun e => e.2.en).map fun e => (e.1, e.2.send, e.2.granCount, e.2.granBase)
    st := { s with
      ports := s.ports.map fun (e : Nat × PortS) => (e.1, { e.2 with cfg := (PortS.init e.1).cfg })
      objs := s.objs.map fun (e : Nat × Obj) => (e.1, { e.2.configured (off e.1) 0 with sched := 0 })
      flt := {}
      routes := s.routes.map fun (e : Nat × Route) => (e.1, { e.2 with entry := 0, ext := 0 })
      pairs := s.pairs.map fun (e : Nat × Pair) => (e.1, { e.2 with entry := Pair.entry {} })
      dense := []
      trk := { s.trk with cfg := s.defaultCyc }
      twd := { s.twd with map := Twd.map {}, slotTx := s.twd.slotTx.map fun (e : Nat × SlotTx) =>
                            (e.1, { e.2 with inForce := e.2.inForce &&& 0x7FFFFFFF#32 }) }
      fld := { s.fld with autoRestore := false, di := s.fld.di.map fun (e : Nat × DiFilt) => (e.1, e.2.setFilter 500)
                          dos := s.fld.dos.map fun (e : Nat × DoS) => (e.1, { e.2 with cmd := false }) } } }

/-- Writes a run of results into a direct table; 0 is not listed. -/
def putEntries (t : Tbl Nat) (i : Nat) : List (BitVec 16) → Tbl Nat
  | [] => t
  | r :: rs => putEntries (if r = 0 then t.del i else t.put i r.toNat) (i + 1) rs

def putElems (t : Tbl Elem) (i : Nat) : List Elem → Tbl Elem
  | [] => t
  | e :: es => putElems (if e = ⟨0, 0, 0, 0⟩ then t.del i else t.put i e) (i + 1) es

/-- CYC_WINDOWS's settings. -/
def CycCfg.withWindows (y : CycCfg) (j n : Nat) (st : List (BitVec 16)) : CycCfg :=
  { y with jumpTol := j, winCount := n, starts := (st.take n).map BitVec.toNat }

/-- FW_ACTIVATE's result: the version that runs and the version that will (13). -/
def State.activateResult (s : State) (p : Nat) : List Byte :=
  p32 (s.part p).running ++ leBytes 4 (match (s.part p).image (1 - s.fwSlot p) with | some b => fwVersion b | none => 0)

/-- Drafts one command but a profile; commands that leave no configuration draft nothing. -/
def Draft.plain (d : Draft) (target : Nat) : Params → Draft × Res
  | .modeSet _ m => ({ d with st := { d.st with dev := { d.st.dev with mode := (Mode.ofCode m.toNat).getD d.st.dev.mode } } }, {})
  | .portConfig _ c => (d.onPort target fun x => { x with pc := c }, {})
  | .portSilk _ c w => (d.onPort target fun x => { x with silkCtrl := c, peInit := bits w 11 8 }, {})
  | .portErrcfg _ c w => (d.onPort target fun x => { x with recPolicy := c, babbleMax := bits w 31 16 }, {})
  | .portFence _ c => (d.onPort target fun x => { x with fenceCfg := c }, {})
  | .portDelivery _ own m f n =>
    (d.onPort target fun x => { x with ownDlv := own.toNat, budgetMode := m.toNat, frameBudget := f.toNat,
                                       byteBudget := n.toNat }, {})
  | .portGuard _ n => (d.onPort target fun x => { x with guardMax := n.toNat }, {})
  | .objConfig _ r =>
    match d.object { r with obj := BitVec.ofNat 16 target } false with
    | (d1, some b) => (d1, { result := objResult false r b })
    | (d1, none) => (d1, { status := stNoResource })
  | .objConfigN _ rs => d.objects false 0 rs []
  | .fltPort _ a b c e => (d.onPort target fun x => { x with fltCtrl := a, fltElem := b, fltDef := c, fltDefStd := e }, {})
  | .fltDtable _ f rs =>
    ({ d with st := { d.st with flt := { d.st.flt with
        dtable := putEntries d.st.flt.dtable (2048 * target + f.toNat) rs } } }, {})
  | .fltElem _ f es =>
    ({ d with st := { d.st with flt := { d.st.flt with elems := putElems d.st.flt.elems f.toNat es } } }, {})
  | .rteSet _ e x => ({ d with st := d.st.modRoute target fun v => { v with entry := e, ext := x } }, {})
  | .rteQuota _ n => (d.onPort target fun x => { x with quota := n.toNat }, {})
  | .pairSet _ e => ({ d with st := { d.st with pairs := d.st.pairs.put target { d.st.pairs.get {} target with entry := e } } }, {})
  | .cycSource _ a b =>
    ({ d with st := { d.st with trk := { d.st.trk with cfg := { d.st.trk.cfg with src := a, period := b.toNat } } } }, {})
  | .cycWindows _ j n st =>
    ({ d with st := { d.st with trk := { d.st.trk with cfg := d.st.trk.cfg.withWindows j.toNat n.toNat st } } }, {})
  | .denseSet _ p a es => ({ d with st := d.st.setDense p.toNat a.toNat es }, {})
  | .doSet _ m v => ({ d with st := forAll (fun o s => if bit m o then s.modOut o fun x => { x with cmd := bit v o } else s)
                                     (nums 4) d.st }, {})
  | .fldConfig _ a fs =>
    ({ d with st := { d.st with fld := { d.st.fld with
        autoRestore := a = 1
        di := (nums 8).foldl (fun t i => t.put i ((t.get {} i).setFilter ((fs.getD i 0).toNat))) d.st.fld.di } } }, {})
  | .twdMap _ ps => ({ d with st := { d.st with twd := { d.st.twd with map := ps.map BitVec.toNat } } }, {})
  | .tweedSlot _ i c m => d.slot i c m
  | .fwActivate _ p => (d, { result := d.st.activateResult p.toNat })
  | _ => (d, {})

/-- A profile's packets in the order of 12 R280. -/
def packetOrder (ks : List Packet) : List Packet := sortBy (fun (k : Packet) => k.opcode * 65536 + k.target) ks

/-- Drafts packets in turn; the first that finds no resource ends it with its status. -/
def Draft.packets (d : Draft) : List Packet → Draft × Res
  | [] => (d, {})
  | k :: ks =>
    match k.params with
    | none => (d, { status := stBadParam })
    | some p =>
      match d.plain k.target p with
      | (d1, r) => if r.status = 0 then d1.packets ks else (d1, { status := r.status })

/-- The profile that PROFILE_LOAD names (13, 15 R340, R343): its slot must hold an image. Buckram's verdict on it comes after
every test of the service firmware (13 R295). -/
def Draft.profile (d : Draft) (n : Nat) : Draft × Res :=
  match d.st.profileImage n with
  | none => (d, { status := stBadParam })
  | some b =>
    match d.blank.packets (packetOrder ((profilePackets b).getD [])) with
    | (d1, r) =>
      if r.status != 0 then (d, r)
      else (d1, { result := leBytes 1 n ++ zeros 3 ++ leBytes 4 (profileVersion b) })

/-- Drafts one command (12 R280). -/
def Draft.add (d : Draft) (target : Nat) (p : Params) : Draft × Res :=
  match p with
  | .profileLoad _ n => d.profile n.toNat
  | _ => d.plain target p

end Sys2Proof.Machine
end

