-- ==== Sys2Proof/Machine/CfgTest.lean ====
section
/-! DEFINITION. The tests of a configuration command that depend on the configuration in force at its window, made at the
commit point on the final draft of the window (12 R457, 13 R302-R306). Each looks only at what its command can have made
wrong, so that a refusal falls on the command that causes it. -/

namespace Sys2Proof.Machine

/-- The first status of a list that refuses; 0 when none does. -/
def firstOf : List Nat → Nat
  | [] => 0
  | a :: as => if a = 0 then firstOf as else a

/-- A status when a test fails. -/
def need (ok : Bool) (st : Nat) : Nat := if ok then 0 else st

/-! ## Delivery budgets (09 R205-R207, R214) -/

/-- What a port adds to the sums of 09 R206: bytes and records. -/
def State.load (s : State) (p : Nat) : Nat × Nat :=
  let c := (s.port p).cfg
  if c.en then
    let b := c.budgets s.trk.cfg
    let r := s.noticeReserve p
    (b.2 + 16 * r, b.1 + r)
  else (0, 0)

def State.loadBytes (s : State) : Nat := (nums 64).foldl (fun n p => n + (s.load p).1) 0
def State.loadRecords (s : State) : Nat := (nums 64).foldl (fun n p => n + (s.load p).2) 0

/-- The largest possible batch (09 R214). -/
def State.largestBatch (s : State) : Nat := (64 + s.loadBytes + 63) / 64 * 64

/-- The size of a host's delivery ring at the window, 0 while unconfigured: RING_DELIVERY commands of the window count. -/
def State.ringAt (s : State) (ks : List Packet) (h : HostId) : Nat :=
  let st := match h with | .a => Stream.hostA | .b => Stream.hostB
  let r := (s.host h).dring
  ks.foldl (fun n k => match k.params with
    | some (.ringDelivery _ b l) => if k.stream = st then (if b = 0 && l = 0 then 0 else 2 ^ l.toNat) else n
    | _ => n) (if r.en then r.size else 0)

def ringHolds (size n : Nat) : Bool := size = 0 || decide (n ≤ size)

/-- The sums and the rings hold, where a port of the list adds more than before (09 R206, R214). -/
def budgetTest (b t : State) (ks : List Packet) (ps : List Nat) : Nat :=
  let more := ps.any fun p => decide ((b.load p).1 < (t.load p).1) || decide ((b.load p).2 < (t.load p).2)
  need (!more || (decide (t.loadBytes ≤ 2097152) && decide (t.loadRecords ≤ 32768) &&
    ringHolds (t.ringAt ks .a) t.largestBatch && ringHolds (t.ringAt ks .b) t.largestBatch)) stNoResource

/-- A port and the port it pairs with. -/
def bothOf (p : Nat) : List Nat := [p / 2 * 2, p / 2 * 2 + 1]

/-! ## Windows (08 R179, R180, R184) -/

/-- The shortest window is no shorter than 100 us at PERIOD_NOM (08 R179). -/
def State.windowsLong (s : State) : Bool := decide (65536 * 720000 ≤ s.trk.cfg.phaseU s.trk.cfg.shortest)

/-- A potential master's fence and backup wait fit the windows (08 R179, R180). BACKUP_WAIT is in 10 us. -/
def State.fenceFits (s : State) (p : Nat) : Bool :=
  let c := (s.port p).cfg
  let w := s.trk.cfg.phaseU s.trk.cfg.shortest
  fenceMode c.fenceCfg != 2 ||
    (decide (4 * 65536 * fenceWorst c ≤ w) && decide (2 * 65536 * 72000 * backupWait c.fenceCfg < w))

/-- FENCE_EXT needs XL_EN (08 R184). -/
def PortCfg.fenceFormOk (c : PortCfg) : Bool := !fenceExt c.fenceCfg || c.xlEn

/-- CAL_WIN lies below WIN_COUNT where it is used (08 R180). -/
def State.calWinOk (s : State) (p : Nat) : Bool :=
  let c := (s.port p).cfg
  decide (16 ≤ p) || !c.silkEn || bits c.silkCtrl 31 24 = 0 || decide (bits c.silkCtrl 23 18 < s.trk.cfg.winCount)

/-- SLOT_WIN lies below WIN_COUNT where it is used (08 R180). -/
def State.slotWinOk (s : State) (o : Nat) : Bool :=
  let v := s.obj o
  !v.en || !v.send || !(v.slotMode = 1 || v.slotMode = 2) || decide (v.slotWin < s.trk.cfg.winCount)

/-- The tests of a window configuration, or of a new PERIOD_NOM (08 R179, R180). -/
def State.windowsOk (s : State) : Bool :=
  s.windowsLong && (nums 64).all (fun p => s.fenceFits p && s.calWinOk p) && s.objs.all fun e => s.slotWinOk e.1

/-! ## Objects and filters (04 R85, 05 R115) -/

/-- The object is an enabled receive object of a port. -/
def State.receives (s : State) (p o : Nat) : Bool :=
  let v := s.obj o
  decide (o < 16384) && v.en && !v.send && v.port = p

/-- A result of a port's filter names no wrong object (05 R115). -/
def State.resultFits (s : State) (p r : Nat) : Bool := resKind r != 1 || s.receives p (resObject (s.port p).cfg r)

/-- The port filters with its own settings: not the odd port of a pair (10 R241). -/
def State.filters (s : State) (p : Nat) : Bool := s.owner p = p

/-- Results of a direct table from entry `f` on. -/
def State.tableResults (s : State) (t f n : Nat) : List Nat :=
  (s.flt.dtable.filter fun e => decide (2048 * t + f ≤ e.1) && decide (e.1 < 2048 * t + f + n)).map Prod.snd

/-- Results of elements from `f` on. -/
def State.elemResults (s : State) (f n : Nat) : List Nat :=
  (s.flt.elems.filter fun e => decide (f ≤ e.1) && decide (e.1 < f + n)).map fun e => elemResult e.2

def PortCfg.usesTable (c : PortCfg) (t : Nat) : Bool := bit c.fltCtrl 31 && bits c.fltCtrl 28 24 = t

/-- Every result of a port's filter. -/
def State.portResults (s : State) (p : Nat) : List Nat :=
  let c := (s.port p).cfg
  [bits c.fltDef 31 16, bits c.fltDef 15 0] ++
    (if bit c.fltCtrl 31 then s.tableResults (bits c.fltCtrl 28 24) 0 2048 else [bits c.fltDefStd 15 0]) ++
    s.elemResults (bits c.fltElem 11 0) (bits c.fltElem 31 24)

/-- The objects that the ports' filters name, each with its port. -/
def State.named (s : State) : List (Nat × Nat) :=
  ((nums 64).filter s.filters).flatMap fun p =>
    ((s.portResults p).filter fun r => resKind r = 1).map fun r => (p, resObject (s.port p).cfg r)

/-- Objects of a port that are enabled. -/
def State.portObjects (s : State) (p : Nat) : Nat := (s.objs.filter fun e => e.2.en && e.2.port = p).length

/-- The largest payload a route can carry. -/
def State.routeLargest (s : State) (r : Nat) : Nat :=
  let v := s.route r
  let src := (s.port (s.owner (s.routeSource v.entry))).cfg.formats.foldl (fun m f => max m f.maxLen) 0
  (nums (src + 1)).foldl (fun m n => if tooLong v.entry v.ext n then m else n) 0

/-- The quota of a route's port holds its largest frame (10 R236). -/
def State.routeFits (s : State) (r : Nat) : Bool :=
  let v := s.route r
  !rteEn v.entry || decide (cellsOf (s.routeLargest r) ≤ (s.port v.dst).cfg.quota)

/-- The commit-point tests of one object (04 R85, 05 R115, 08 R180, 10 R236). -/
def objTest (t : State) (named : List (Nat × Nat)) (o : Nat) : Nat :=
  let v := t.obj o
  firstOf [need ((t.port v.port).cfg.hasFmt v.fmt) stBadParam,
    need (t.slotWinOk o) stBadParam,
    need (named.all fun x => x.2 != o || t.receives x.1 o) stBadParam,
    need (!v.en || decide (t.portObjects v.port ≤ 1024)) stNoResource,
    need (t.liveRoutes.all fun r => rteKeyType (t.route r).entry = 1 || rteKey (t.route r).entry != o || t.routeFits r)
      stNoResource]

/-- OBJ_CONFIG and OBJ_CONFIG_N on an object of a mapped channel in TWEED (15 R351). -/
def State.mappedObject (s : State) (o : Nat) : Bool :=
  s.dev.mode = .tweed && decide (slotBase ≤ o) && (s.twd.portOf ((o - slotBase) / 32)).isSome

/-- The first object of a list that fails, with its place. -/
def firstFailObj (f : Nat → Nat) : Nat → List ObjRecord → Option (Nat × Nat)
  | _, [] => none
  | i, r :: rs => if f r.obj.toNat = 0 then firstFailObj f (i + 1) rs else some (i, f r.obj.toNat)

/-- The refusal of a command with several records: the first failing record is named (13 R302). -/
def recordRefusal (x : Nat × Nat) : Res := { status := x.2, result := leBytes 2 x.1 ++ zeros 2 }

/-- OBJ_CONFIG commands of the window that name an object. -/
def namedAlone (ks : List Packet) (o : Nat) : Bool := ks.any fun k => k.opcode = 0x0201 && k.target = o

/-! ## Routes and pairs (10 R227, R236, R239, R241) -/

def State.quotaSum (s : State) : Nat := (nums 64).foldl (fun n p => n + (s.port p).cfg.quota) 0

/-- What a route matches. -/
def matchOf (e : BitVec 64) : Nat × Nat × Nat := (rteKeyType e, rteSrc e, rteKey e)

/-- Routes that share a route's match. -/
def State.sharing (s : State) (r : Nat) : Nat :=
  (s.liveRoutes.filter fun q => matchOf (s.route q).entry = matchOf (s.route r).entry).length

/-- The route lies on a cycle. -/
def State.onCycle (s : State) (r : Nat) : Bool :=
  let g := s.routeGraph
  (reach g g.length (((g.find? fun x => x.1 == r).map Prod.snd).getD [])).contains r

/-- A filter or port change leaves no cycle (10 R239). -/
def loopTest (t : State) : Nat := need (t.liveRoutes.isEmpty || t.loopFree) stBadParam

/-- A pair's entry (10 R241). -/
def pairTest (t : State) (k : Nat) : Nat :=
  if !pairEn (t.pairs.get {} k).entry then 0
  else
    let a := (t.port (2 * k)).cfg.pc
    let b := (t.port (2 * k + 1)).cfg.pc
    let odd := 2 * k + 1
    need (!timingDiffers a b && !(t.objs.any fun e => e.2.en && e.2.port = odd) &&
      !(t.liveRoutes.any fun r => (t.route r).dst = odd ||
        (rteKeyType (t.route r).entry = 1 && rteSrc (t.route r).entry = odd))) stBadParam

/-! ## Dense (10 R248, 13 R305, R306) -/

/-- An entry of DENSE_SET names a right object (13, DENSE_SET). -/
def State.denseFits (s : State) (p : Nat) (e : BitVec 64) : Bool :=
  let v := s.obj (denObj e)
  !denEn e || (decide (denObj e < 16384) && v.en && v.port = p && (if denForeign e then !v.send else v.send))

/-- The refusal of the first port that is not admitted: ADMISSION_REFUSED, of a MODE_SET DENSE too, where 15 R335 has WRONG_MODE
(13 R306, 12 R283, log entry 175). -/
def admitTest (t : State) (ps : List Nat) : Res :=
  match t.admitPorts ps with
  | some b => { status := stAdmission, result := b }
  | none => {}

/-- The ports whose analysis a command makes run again in DENSE (13 R306). -/
def affected (b t : State) (target : Nat) : Params → List Nat
  | .portConfig _ _ | .portSilk _ _ _ | .portFence _ _ => [t.owner target]
  | .objConfig _ _ => [b.owner (b.obj target).port, t.owner (t.obj target).port]
  | .objConfigN _ rs => rs.flatMap fun r => [b.owner (b.obj r.obj.toNat).port, t.owner (t.obj r.obj.toNat).port]
  | .rteSet _ _ _ => [b.owner (b.route target).dst, t.owner (t.route target).dst]
  | .pairSet _ _ => bothOf (2 * target)
  | .cycSource _ _ _ | .cycWindows _ _ _ _ | .profileLoad _ _ => nums 64
  | .modeSet _ _ => if t.dev.mode = .dense && b.dev.mode != .dense then nums 64 else []
  | _ => []

/-! ## One command -/

/-- What the tests of a window look at: the configuration before it, the final draft, the commands of the window, and the
direct tables that some FLT_DTABLE has written (13 R303). -/
structure Trial where
  before : State
  after  : State
  cmds   : List Packet
  tables : List Nat

/-- FLT_PORT (05 R115). -/
def fltPortTest (x : Trial) (p : Nat) : Nat :=
  let t := x.after
  let c := (t.port p).cfg
  firstOf [need (!bit c.fltCtrl 31 || x.tables.contains (bits c.fltCtrl 28 24)) stBadParam,
    need (!t.filters p || (t.portResults p).all (t.resultFits p)) stBadParam,
    need t.tablesFit stNoResource, loopTest t]

/-- Results that a command has written, on every port that uses them (05 R115). -/
def usersTest (t : State) (uses : PortCfg → Bool) (rs : List Nat) : Nat :=
  firstOf [need ((nums 64).all fun p => !t.filters p || !uses (t.port p).cfg || rs.all (t.resultFits p)) stBadParam,
    loopTest t]

/-- A port setting (02 R32, R54, 08 R180, R184, 10 R236, R239). -/
def portTest (x : Trial) (p : Nat) : Nat :=
  let t := x.after
  let c := (t.port p).cfg
  let b := (x.before.port p).cfg
  firstOf [need (!(c.loopInt || c.loopExt) || t.dev.mode = .service) stWrongMode,
    need (!(b.en && c.en && b.physel != c.physel)) stBadParam, need c.fenceFormOk stBadParam,
    need (!(c.silkEn && c.physel)) stBadParam, need (t.calWinOk p) stBadParam, loopTest t,
    need (t.liveRoutes.all fun r => t.owner (t.routeSource (t.route r).entry) != t.owner p || t.routeFits r) stNoResource,
    budgetTest x.before t x.cmds [p]]

/-- One object's record at the commit point: its own tests, and the budgets of its port (12 R457). -/
def recordTest (x : Trial) (named : List (Nat × Nat)) (o : Nat) : Nat :=
  firstOf [objTest x.after named o, budgetTest x.before x.after x.cmds (bothOf (x.after.obj o).port)]

/-- One record of an OBJ_CONFIG_N at the commit point: an object of a mapped channel, one that an OBJ_CONFIG names too, or a test of
its own (13 R302, 15 R351). -/
def oneRecordTest (x : Trial) (o : Nat) : Nat :=
  firstOf [need (!x.after.mappedObject o) stWrongMode, need (!namedAlone x.cmds o) stBadParam, recordTest x x.after.named o]

/-- The first record of an OBJ_CONFIG_N that fails at the commit point, by index, and the refusal; `room` is the first that found no
granules. A command that names an object of a mapped channel is refused for that, and one that names an object an OBJ_CONFIG of the
window names too is refused BAD_PARAM, whatever its first failing record fails (13 R302, 15 R351). -/
def recordsTest (x : Trial) (rs : List ObjRecord) (room : Option Nat) : Option (Nat × Nat) :=
  let first := match firstFailObj (oneRecordTest x) 0 (rs.take (room.getD rs.length)) with
    | some f => some f
    | none => room.map fun j => (j, stNoResource)
  first.map fun f => (f.1,
    if rs.any fun r => x.after.mappedObject r.obj.toNat then stWrongMode
    else if rs.any fun r => namedAlone x.cmds r.obj.toNat then stBadParam else f.2)

/-- The status of one command at the commit point, but for admission (12 R457). -/
def plainTest (x : Trial) (target : Nat) : Params → Nat
  | .portConfig _ _ => portTest x target
  | .portSilk _ _ _ =>
    let c := (x.after.port target).cfg
    firstOf [need (!(c.silkEn && c.physel)) stBadParam, need (x.after.calWinOk target) stBadParam,
      budgetTest x.before x.after x.cmds [target]]
  | .portFence _ _ => firstOf [need (x.after.port target).cfg.fenceFormOk stBadParam,
      need (x.after.fenceFits target) stBadParam]
  | .portDelivery _ _ _ _ _ => budgetTest x.before x.after x.cmds [target]
  | .objConfig _ _ =>
    if x.after.mappedObject target then stWrongMode
    else recordTest x x.after.named target
  | .objConfigN _ rs => match recordsTest x rs none with | some (_, st) => st | none => 0
  | .fltPort _ _ _ _ _ => fltPortTest x target
  | .fltDtable _ f rs => usersTest x.after (fun c => c.usesTable target) (x.after.tableResults target f.toNat rs.length)
  | .fltElem _ f es =>
    firstOf ((numsFrom f.toNat es.length).map (fun i =>
      usersTest x.after (fun c => decide (bits c.fltElem 11 0 ≤ i) && decide (i < bits c.fltElem 11 0 + bits c.fltElem 31 24))
        (x.after.elemResults i 1)))
  | .rteSet _ e _ =>
    if !rteEn e then 0
    else
      let t := x.after
      firstOf [need ((t.port (t.route target).dst).cfg.hasFmt (rteFmt e)) stBadParam,
        need (decide (t.sharing target ≤ 16)) stBadParam,
        need (t.loopFree || !t.onCycle target) stBadParam, need (t.routeFits target) stNoResource]
  | .rteQuota _ _ =>
    let t := x.after
    firstOf [need (decide ((t.port target).cfg.quota ≤ (x.before.port target).cfg.quota) || decide (t.quotaSum ≤ 2944))
        stNoResource,
      need (t.liveRoutes.all fun r => (t.route r).dst != target || t.routeFits r) stNoResource]
  | .pairSet _ _ => firstOf [pairTest x.after target, loopTest x.after,
      need (x.after.liveRoutes.all fun r => x.after.routeSource (x.after.route r).entry / 2 != target || x.after.routeFits r)
        stNoResource,
      budgetTest x.before x.after x.cmds (bothOf (2 * target))]
  | .cycSource _ _ _ => firstOf [need x.after.windowsOk stBadParam, budgetTest x.before x.after x.cmds (nums 64)]
  | .cycWindows _ _ _ _ => firstOf [need x.after.windowsOk stBadParam, budgetTest x.before x.after x.cmds (nums 64)]
  | .denseSet _ p _ es =>
    firstOf [need (es.all (x.after.denseFits p.toNat)) stBadParam, need (decide (x.after.dense.length ≤ 448)) stNoResource,
      budgetTest x.before x.after x.cmds (bothOf p.toNat)]
  | .ringDelivery _ b l => need ((b = 0 && l = 0) || decide (x.after.largestBatch ≤ 2 ^ l.toNat)) stNoResource
  | .fwActivate _ p => need ((x.after.part p.toNat).standby = 2) stWrongMode
  | .twdMap _ ps =>
    firstOf [need (ps.all fun p => decide (64 ≤ p.toNat) || !(x.after.port p.toNat).cfg.fdEn) stBadParam,
      need x.after.tablesFit stNoResource]
  | _ => 0

/-- The refusal of a command but a profile; the first failing record of OBJ_CONFIG_N is named (13 R302). -/
def oneTest (x : Trial) (target : Nat) (p : Params) : Res :=
  let st := plainTest x target p
  if st != 0 then
    match p with
    | .objConfigN _ rs => ((recordsTest x rs none).map recordRefusal).getD {}
    | _ => { status := st }
  else
    match p with
    | .denseSet _ q _ _ => admitTest x.after [q.toNat]
    | _ => if x.after.dev.mode = .dense then admitTest x.after (affected x.before x.after target p) else {}

/-- What Buckram checks last: PORT_GUARD, the image of a profile and that of an activation (06 R140, 13 R295, 15 R342, 16 R356). -/
def guardTest (s : State) (target : Nat) : Params → Nat
  | .portGuard _ n => need (decide (n.toNat ≤ s.guardBound target)) stNotAuth
  | .profileLoad _ n => s.profileStatus ((s.profileImage n.toNat).getD [])
  | .fwActivate _ p => s.startStatus p.toNat (s.standbyImage p.toNat)
  | _ => 0

/-- The packets of a profile are tested as commands of the window (15 R340); the first refusal is the profile's. -/
def profileTest (x : Trial) : List Packet → Res
  | [] => {}
  | k :: ks =>
    match k.params with
    | none => { status := stBadParam }
    | some p =>
      if !targetOk k.opcode k.target then { status := stBadTarget }
      else if packetTest k p != 0 then { status := packetTest k p }
      else
        let r := oneTest x k.target p
        if r.status != 0 then { r with result := if r.status = stAdmission then r.result else [] } else profileTest x ks

/-- Direct tables that the packets write. -/
def tablesOf (ks : List Packet) : List Nat := (ks.filter fun k => k.opcode = 0x0302).map fun k => k.target

/-- One command at the commit point (12 R457). -/
def commitTest (x : Trial) (target : Nat) (p : Params) : Res :=
  match p with
  | .profileLoad ew n =>
    let ks := packetOrder ((profilePackets ((x.before.profileImage n.toNat).getD [])).getD [])
    if ew.win != 0 && x.after.trk.cfg != x.before.trk.cfg then { status := stBadParam }
    else
      let r := profileTest { x with tables := x.tables ++ tablesOf ks, cmds := x.cmds ++ ks } ks
      let a := if r.status != 0 then r else if x.after.dev.mode = .dense then admitTest x.after (nums 64) else {}
      if a.status != 0 then a else { status := guardTest x.before target p }
  | _ =>
    let r := oneTest x target p
    if r.status != 0 then r else { status := guardTest x.before target p }

/-- What drafting has refused: an OBJ_CONFIG_N of which a record found no room (13 R302). -/
def draftRefusal (x : Trial) (r : Res) : Params → Res
  | .objConfigN _ rs => ((recordsTest x rs (some (leNat (r.result.take 2)))).map recordRefusal).getD r
  | _ => r

/-! ## A window (12 R280, R457) -/

/-- The order of 12 R280; equal keys, which only ring commands of two hosts have, by host. -/
def orderKey (k : Packet) : Nat :=
  (k.opcode * 65536 + k.target) * 4 + (match k.stream with | .hostA => 0 | .hostB => 1 | .mgmt => 2 | .intern => 3)

/-- Drafts commands in turn, each with what drafting says of it. -/
def Draft.addAll (d : Draft) : List (Nat × Packet) → Draft × List (Nat × Packet × Res)
  | [] => (d, [])
  | (i, k) :: ks =>
    match k.params with
    | none => let (d1, rs) := d.addAll ks; (d1, (i, k, { status := stBadParam }) :: rs)
    | some p =>
      let (d1, r) := d.add k.target p
      let (d2, rs) := d1.addAll ks
      (d2, (i, k, r) :: rs)

/-- PORT_DELIVERY's result: the budgets in force and the notice reserve (13). -/
def acceptedResult (t : State) (target : Nat) (r : Res) : Params → List Byte
  | .portDelivery _ _ _ _ _ =>
    let c := (t.port target).cfg
    if c.en then
      let b := c.budgets t.trk.cfg
      leBytes 2 b.1 ++ leBytes 2 (t.noticeReserve target) ++ leBytes 4 b.2
    else zeros 8
  | .denseSet _ p _ _ => t.denseResult p.toNat
  | _ => r.result

/-- Every command of the window with its outcome on the draft of them all. -/
def State.trials (s : State) (tables : List Nat) (ks : List (Nat × Packet)) : List (Nat × Packet × Res) :=
  let (d, rs) := s.draft.addAll ks
  let x : Trial := { before := s.settled, after := d.st, cmds := ks.map Prod.snd, tables := tables }
  rs.map fun (i, k, r) =>
    match k.params with
    | none => (i, k, { status := stBadParam })
    | some p =>
      if r.status != 0 then (i, k, draftRefusal x r p)
      else
        let c := commitTest x k.target p
        (i, k, if c.status != 0 then c else { result := acceptedResult d.st k.target r p })

/-- The commands of a window are tested on the draft of them all; while some fail, the last of them in the order of 12 R280
is refused, so that a refused command bears on no test of another (12 R457). The list is in that order; `n` bounds it. -/
def State.settleTrials (s : State) (tables : List Nat) : Nat → List (Nat × Packet) → List (Nat × Packet × Res)
  | 0, _ => []
  | n + 1, ks =>
    let rs := s.trials tables ks
    match rs.reverse.find? fun x => x.2.2.status != 0 with
    | none => rs
    | some x => s.settleTrials tables n (ks.filter fun y => y.1 != x.1) ++ [x]

end Sys2Proof.Machine
end

