-- ==== Sys2Proof/Machine/Command.lean ====
section
/-! DEFINITION. Streams, credits, journal entries and replies of commands (12 R271-R283). -/

namespace Sys2Proof.Machine

/-- A stream's number, HOST of a journal entry (17 R397). -/
def streamNum : Stream → Nat
  | .hostA => 0 | .hostB => 1 | .mgmt => 2 | .intern => 3

def streamHost : Stream → Option HostId
  | .hostA => some .a | .hostB => some .b | .mgmt | .intern => none

def hostStream : HostId → Stream
  | .a => .hostA | .b => .hostB

def State.stream (s : State) (st : Stream) : StreamState := s.cmds.streams.get {} (streamNum st)

def State.modStream (s : State) (st : Stream) (f : StreamState → StreamState) : State :=
  { s with cmds := { s.cmds with streams := s.cmds.streams.put (streamNum st) (f (s.stream st)) } }

/-- A credit is released (12 R273). -/
def State.release (s : State) (st : Stream) : State := s.modStream st fun x => { x with credits := x.credits - 1 }

/-- What `Reply.after` sets off: 1 DEV_RESET, 16 + WAKE SLEEP (13 R299). -/
def State.afterReply (s : State) (n : Nat) : State :=
  if n = 1 then { s with cmds := { s.cmds with resetDue := true } }
  else if 16 ≤ n then { s with cmds := { s.cmds with sleepDue := some (n - 16) } }
  else s

/-- A reply that no path takes is discarded: its credit is released, and what waits for it begins at once (12 R273, 13
R299). -/
def State.dropReply (s : State) (r : Reply) : State :=
  (if r.credit then s.release r.stream else s).afterReply r.after

/-- A reply reaches the management port, and counts as written (19 R440). -/
def State.mgmtReply (s : State) (r : Reply) : State :=
  let s1 := { s with mgt := { s.mgt with replies := s.mgt.replies ++ [(wordsBytes r.words).take (16 + r.result.length)], alert := true } }
  s1.dropReply r

/-! ## The Amioc mailboxes (12 R287-R290, 19 R440, log entry 130) -/

/-- The packet that goes into a mailbox at tick `n`. -/
def mailPacket (n : Nat) : List Word := c8Packet (Config.mailLen n) (Config.mailWord n)

/-- The frame die's oldest reply is put into its mailbox when that is empty. -/
def State.sendOut (s : State) : State :=
  if s.link.mailOut.isEmpty && !s.link.askOut.isEmpty then { s with link := { s.link with mailOut := [mailPacket s.clk.ticks] } } else s

/-- Amioc takes the reply out of the mailbox while the power link is up. -/
def State.takeOut (s : State) : State :=
  if !s.link.up || s.link.mailOut.isEmpty then s
  else
    let s1 := { s with link := { s.link with mailOut := [], askOut := s.link.askOut.drop 1 } }
    match s.link.askOut with
    | [] => s1
    | r :: _ => s1.mgmtReply r

/-- Replies pass through the mailbox one after another, `n` at most; one that the mailbox has lost holds them up. -/
def State.passOut (s : State) : Nat → State
  | 0 => s
  | n + 1 => if s.link.mailOut.isEmpty then s else State.passOut s.takeOut.sendOut n

/-- A reply is put in line for its path; internal commands have none (12 R276, 13 R299). -/
def State.sendReply (s : State) (r : Reply) : State :=
  match streamHost r.stream with
  | some h => s.modHost h fun x => { x with replies := x.replies ++ [r] }
  | none =>
    if r.stream != .mgmt then s.dropReply r
    else
      let s1 := { s with link := { s.link with askOut := s.link.askOut ++ [r] } }
      if s.link.askOut.isEmpty then s1.sendOut.takeOut else s1

/-- The reply to a packet that is not taken, or not journalled (12 R277). -/
def State.answerPacket (s : State) (k : Packet) (r : Res) : State :=
  if k.dead then s
  else s.sendReply { stream := k.stream, path := k.path, opcode := k.opcode, status := r.status, seq := k.seq, jidx := 0xFFFF,
                     result := r.result, credit := false }

/-- TIME_MS (17 R397). -/
def State.timeMs (s : State) : Nat := s.clk.plant.toNat / 1000000 % 65536

/-- Writes an entry for a packet (12 R283, 17 R397). FLAGS: 1 SCHEDULED, 2 OUTCOME, 4 ASAP, 8 PAIRED. -/
def State.enter (s : State) (k : Packet) (status flags : Nat) (cycle : Word) (win : Nat) : State :=
  s.journal { jseq := 0, cmdSeq := k.seq, opcode := k.opcode, status := status, stream := k.stream, flags := flags,
              target := k.target, effCycle := cycle, effWin := win, plen := k.bytes.length, pcrc := crc32c k.bytes,
              timeMs := s.timeMs }

/-- The number of the entry written last. -/
def State.lastEntry (s : State) : Word := s.jnl.newest.getD 0

/-- The reply of a taken command, with the journal slot of its entry `j`; a reply whose path was reset is discarded (11
R268). -/
def State.replyTaken (s : State) (k : Packet) (j : Word) (r : Res) (noReply : Bool) (after : Nat) : State :=
  let y : Reply := { stream := k.stream, path := k.path, opcode := k.opcode, status := r.status, seq := k.seq,
                     jidx := jnlSlot j, result := r.result, credit := true, after := after }
  if noReply || k.dead then s.dropReply y else s.sendReply y

/-- REQUEST_REFUSED: Buckram refuses row `row` of 16 R356 (17 R399, log entry 15). -/
def State.requestRefused (s : State) (st : Stream) (row : Nat) : State :=
  let who := match st with | .hostA => 0 | .hostB => 1 | .mgmt => 2 | .intern => 3
  let s1 := s.event 0x0901 who 3 (Config.firstRequestKind + row) (Config.refusalDetail s.clk.draws)
  { s1 with clk := { s1.clk with draws := s1.clk.draws + 1 } }

/-- The security record of an image that is refused: `who` is the part, or 0x10 + profile (17 R399). -/
def State.imageRefused (s : State) (who status version counter : Nat) : State :=
  if status = stSignature then s.event 0x0903 who 3 version 0
  else if status = stRollback then s.event 0x0904 who 3 version counter
  else s

/-- The records that a refused configuration command leaves. -/
def State.refusalRecord (s : State) (k : Packet) (r : Res) : State :=
  if r.status = stNotAuth then s.requestRefused k.stream 3
  else if r.status = stDisagreed then s.event 0x0306 (streamNum k.stream) 2 k.opcode k.seq.toNat
  else
    match k.params with
    | some (.profileLoad _ n) =>
      s.imageRefused (0x10 + n.toNat) r.status (profileVersion ((s.profileImage n.toNat).getD [])) (s.preg 0x043).toNat
    | some (.fwActivate _ p) =>
      s.imageRefused p.toNat r.status (match s.standbyImage p.toNat with | some b => fwVersion b | none => 0) (s.fwCounter p.toNat)
    | _ => s

/-- FLAGS of a scheduled command's entries. -/
def Sched.flags (x : Sched) (base : Nat) : Nat := base + 4 * flag x.asap + 8 * flag x.equal

/-- A scheduled command comes to its final outcome: any status but OK writes an outcome entry (12 R283), and the reply is
given (12 R275). -/
def State.finish (s : State) (x : Sched) (r : Res) : State :=
  let s0 := { s with cmds := { s.cmds with sched := s.cmds.sched.filter fun y => y.jseq != x.jseq } }
  let s1 := if r.status = 0 then s0
    else (s0.enter x.pkt r.status (x.flags 2) x.cycle x.win).refusalRecord x.pkt r
  s1.replyTaken x.pkt x.jseq r x.noReply 0

/-- A command that waits as an action comes to its end; its entry stands with the status it got (12 R283, R284). -/
def State.finishAction (s : State) (x : Sched) (r : Res) : State :=
  let s0 := { s with cmds := { s.cmds with actions := s.cmds.actions.filter fun y => y.jseq != x.jseq } }
  let s1 := if r.status = 0 then s0 else s0.enter x.pkt r.status 2 x.cycle x.win
  s1.replyTaken x.pkt x.jseq r x.noReply 0

/-- CFG_POLICY and the refusals of other streams apply: GRID, DENSE, and HOLD entered from them (12 R285). -/
def State.gated (s : State) : Bool :=
  let m := s.routeMode
  m = .grid || m = .dense

/-- The policy that settles (12 R285). -/
def State.policy (s : State) : Nat := if s.gated then s.run.cfgPolicy else 0

end Sys2Proof.Machine
end

