-- ==== Sys2Proof/Machine/Interrupt.lean ====
section
/-! DEFINITION. The interrupt controller's registers and commands (14). -/

namespace Sys2Proof.Machine

/-- A source's pending bit is cleared. -/
def State.clearPend (s : State) (n : Nat) : State :=
  { s with irq := { s.irq with pend := s.irq.pend &&& ~~~srcBit n } }

/-- The target that claims port `p`'s port-traffic source takes the notices out of the port's C16 chain (12 R287, log entry
131). -/
def State.takeNotices (s : State) (t p : Nat) : State :=
  let q := s.dlv.notices.get [] p
  if q.isEmpty then s else { s with dlv := { s.dlv with notices := s.dlv.notices.put p [] } }.emit (.notices t p q)

/-- INT_CLAIM of target `t` (14 R316, R325): the top source, or 0. -/
def State.claim (s : State) (t : Nat) : State :=
  match s.irq.top (s.target t) with
  | some (n, p) =>
    let s0 := s.clearPend n
    let s1 := if 65 ≤ n && n ≤ 128 then s0.takeNotices t (n - 65) else s0
    (s1.modTarget t fun v => { v with active := (n, p) :: v.active, signalled := 0 }).emit
      (.claim t (image [(0, n), (8, p)]))
  | none =>
    (s.modTarget t fun v => { v with withdrawn := if v.signalled = 0 then v.withdrawn else incSat v.withdrawn 65535,
                                     signalled := 0 }).emit (.claim t 0)

def execIntClaim (t : Fin 8) (s : State) : Answer := answer (s.servedTo t.val .claim (s.claim t.val))

/-- Removes a source from an active set; none when it is not in it. -/
def dropActive (n : Nat) (l : List (Nat × Nat)) : Option (List (Nat × Nat)) :=
  if l.any (fun a => a.1 == n) then some (l.filter fun a => a.1 != n) else none

/-- INT_COMPLETE of source `n` by target `t` (14 R317, R326). -/
def State.complete (s : State) (t n : Nat) : State :=
  match dropActive n (s.target t).active with
  | some l => if n = 0 then s else s.modTarget t fun v => { v with active := l, signalled := 0 }
  | none => s.modTarget t fun v => { v with stray := incSat v.stray 65535 }

def execIntComplete (t : Fin 8) (v : Word) (s : State) : Answer := answer (s.postedTo t.val 0x2228 v (s.complete t.val (bits v 7 0)))

/-- A write of INT_PEND word `k` by target `t`: a 0 clears, a 1 sets sources 192-255 (14 R327, R328). -/
def State.writePend (s : State) (t k : Nat) (v : Word) : State :=
  forAll (fun i s =>
    let n := 32 * k + i
    if bit v i then (if 192 ≤ n then s.setPend n (some t) else s) else s.clearPend n) (nums 32) s

def execIntPendWrite (t : Fin 8) (k : Fin 8) (v : Word) (s : State) : Answer :=
  answer (s.postedTo t.val (0x2000 + 4 * k.val) v (s.writePend t.val k.val v))

/-- INT_SETPEND: sources 192-255 only; every target's INT_SETSEEN sees it (14 R328). -/
def State.setPendReg (s : State) (n : Nat) : State := if 192 ≤ n && n < 256 then s.setPend n none else s

def execIntSetpend (x : IntSet) (s : State) : Answer :=
  match x with
  | .write t v => answer (s.postedTo t.val 0x2020 v (s.setPendReg (bits v 7 0)))
  | .internal n => answer (s.raise (175 + n.val))

/-- INT_CLRPEND: 0 is ignored (14). -/
def State.clrPendReg (s : State) (n : Nat) : State := if n = 0 then s else s.clearPend n

def execIntClrpend (t : Fin 8) (v : Word) (s : State) : Answer := answer (s.postedTo t.val 0x2024 v (s.clrPendReg (bits v 7 0)))

/-- INT_SETSEEN: a read returns the bits and clears them (14 R328). -/
def State.readSeen (s : State) (t : Nat) : State :=
  (s.modTarget t fun v => { v with seen := 0 }).emit (.claim t ((s.target t).seen.setWidth 32))

def execIntSetseenRead (t : Fin 8) (s : State) : Answer := .next (s.servedTo t.val .seen (s.readSeen t.val))

/-- MODERATION_EXPIRY: the interval of target `t` has passed; what is still presentable and waits is signalled
(14 R323). -/
def State.moderationOver (s : State) (t : Nat) : State :=
  let s1 := s.modTarget t fun v => { v with lastSignal := none }
  if (s.target t).moderation = 0 then s else s1

def execModerationExpiry (t : Fin 8) (s : State) : Answer := answer (s.moderationOver t.val)

/-! ## Registers a host writes -/

/-- The bits of INT_MASK that read 1 for a host: source 0 and the sources 175-191 (14, INT_MASK). -/
def hostMaskFixed : BitVec 256 := srcBit 0 ||| (((BitVec.ofNat 256 (2 ^ 17 - 1))) <<< 175)

/-- The bits of INT_MASK that read 1: for a processor that of source 0 alone. -/
def maskFixed (t : Nat) : BitVec 256 := if t < 2 then hostMaskFixed else srcBit 0

/-- INT_MASK word `k` of target `t`. -/
def State.setMaskWord (s : State) (t k : Nat) (v : Word) : State :=
  s.modTarget t fun x =>
    let clear : BitVec 256 := (BitVec.allOnes 32).setWidth 256 <<< (32 * k)
    { x with mask := ((x.mask &&& ~~~clear) ||| (v.setWidth 256 <<< (32 * k))) ||| maskFixed t }

/-- INT_THRESH. -/
def State.setThresh (s : State) (t : Nat) (v : Word) : State := s.modTarget t fun x => { x with thresh := bits v 3 0 }

/-- A word written to the INT_ block by target `t`'s agent, at offset `r` from 0x0_2000; none where no register there can be written
(14 "Registers"). -/
def State.intWrite (s : State) (t r : Nat) (v : Word) : Option State :=
  if r < 0x20 then some (s.writePend t (r / 4) v)
  else if r = 0x20 then some (s.setPendReg (bits v 7 0))
  else if r = 0x24 then some (s.clrPendReg (bits v 7 0))
  else if 0x200 ≤ r && r < 0x220 then some (s.setMaskWord t ((r - 0x200) / 4) v)
  else if r = 0x220 then some (s.setThresh t v)
  else if r = 0x228 then some (s.complete t (bits v 7 0))
  else none

/-- A processor's write over its internal bus: the INT_ block lies there as in BAR0; what else it reaches is not stated, and nothing
else changes. -/
def State.busWrite (s : State) (t o : Nat) (v : Word) : State :=
  if 0x2000 ≤ o && o < 0x3E00 then (s.intWrite t (o - 0x2000) v).getD s else s

/-! ## Commands and resets -/

/-- A source's priority changes; an active source keeps for RUN the one it was claimed at (14 R318). -/
def State.setPrio (s : State) (n p : Nat) : State := { s with irq := { s.irq with prio := s.irq.prio.put n p } }

/-- Buckram gives sources 175-191 their priorities, which are not stated (14 R312, log entry 176). -/
def State.internalPrios (s : State) : State :=
  forAll (fun n s => s.setPrio n (Config.internalPrio n).toNat) (numsFrom 175 17) s

/-- INT_MOD. -/
def State.setMod (s : State) (t us : Nat) : State := s.modTarget t fun x => { x with moderation := us }

/-- A target's agent is reset (14 R329). -/
def State.resetTarget (s : State) (t : Nat) : State :=
  let act := (s.target t).active
  forAll (fun a s => s.setPend a.1 none) act
    (s.modTarget t fun v => { withdrawn := v.withdrawn, stray := v.stray })

/-- Every source active for some target, as a set. -/
def Irq.activeSet (q : Irq) : BitVec 256 :=
  q.targets.foldl (fun m e => e.2.active.foldl (fun m a => m ||| srcBit a.1) m) 0

/-- What a target keeps in the retention registers (14 R330). -/
def IrqTarget.retained (v : IrqTarget) : IrqTarget := { mask := v.mask, thresh := v.thresh, moderation := v.moderation }

/-- The controller's state goes into the retention registers at entry to SLEEP (14 R330). -/
def State.saveIrq (s : State) : State :=
  { s with kept := { s.kept with pend := s.irq.pend ||| s.irq.activeSet, prio := s.irq.prio,
                                 targets := s.irq.targets.map fun e => (e.1, e.2.retained) } }

/-- The retained state is restored on wake (14 R330). -/
def State.restoreIrq (s : State) : State :=
  { s with irq := { pend := s.kept.pend, prio := s.kept.prio, targets := s.kept.targets } }

/-- FAULT's own signal: MSI-X vector 0 to each endpoint whose link is up (14 R322). -/
def State.fatalSignal (s : State) : State :=
  forAll (fun h s => if (s.host h).pcie.linkUp then s.emit (.msix h 0) else s) [HostId.a, HostId.b] s

/-! ## Images -/

/-- INT_PEND, INT_MASK, INT_ACTIVE as words of a 256-bit set. -/
def wordOf (v : BitVec 256) (k : Nat) : Word := v.extractLsb' (32 * k) 32

/-- A target's active set as a bit set. -/
def IrqTarget.activeBits (t : IrqTarget) : BitVec 256 := t.active.foldl (fun m a => m ||| srcBit a.1) 0

/-- TOP of INT_RUNNING: the active source of the highest priority. -/
def IrqTarget.topActive (t : IrqTarget) : Nat :=
  (t.active.foldl (fun (m : Nat × Nat) a => if m.2 < a.2 then a else m) (0, 0)).1

/-- The register at offset `o` of a target's block, 0x00-0x5F from 0x0_2200 (14); INT_CLAIM and INT_COMPLETE read 0. -/
def IrqTarget.word (t : IrqTarget) (o : Nat) : Word :=
  if o < 0x20 then wordOf t.mask (o / 4)
  else if o = 0x20 then BitVec.ofNat 32 t.thresh
  else if o = 0x2C then image [(20, t.signalled), (16, t.active.length), (8, t.topActive), (0, t.running)]
  else if o = 0x30 then BitVec.ofNat 32 t.moderation
  else if o = 0x34 then image [(16, t.withdrawn), (0, t.stray)]
  else if 0x40 ≤ o && o < 0x60 then wordOf t.activeBits ((o - 0x40) / 4)
  else 0

/-- INT_PRIO word `i`. -/
def Irq.prioWord (q : Irq) (i : Nat) : Word := image ((nums 8).map fun j => (4 * j, q.prioOf (8 * i + j)))

end Sys2Proof.Machine
end

