-- ==== Sys2Proof/Machine/Tweed.lean ====
section
/-! DEFINITION. The Tweed window: registers of channels and slots, locks, requests and their limits (15 R349-R354). -/

namespace Sys2Proof.Machine

/-- The window acts for a channel: in TWEED, while it is mapped (15 "Tweed"). -/
def State.twdActs (s : State) (c : Nat) : Bool := s.dev.mode = .tweed && (s.twd.portOf c).isSome

/-- The mask a slot uses. -/
def State.slotMask (s : State) (i : Nat) : Word :=
  let c := s.twd.chan (i / 32)
  if (s.twd.slot i).msel then c.mask1 else c.mask0

/-- A slot's settings as written wait for a window: CFG_PEND (15 R350). -/
def State.pendSlot (s : State) (i : Nat) : State :=
  let e := (s.us, (s.twd.slot i).scfg, s.slotMask i)
  s.modSlotTx i fun x => { x with cfgPend := x.cfgPend ++ [e] }

/-- TWD_SCFG is written (15 R350). -/
def State.writeScfg (s : State) (i : Nat) (v : Word) : State := (s.modSlot i fun x => { x with scfg := v }).pendSlot i

/-- A channel mask is written: the enabled slots that use it are affected (15 R350). -/
def State.writeMask (s : State) (c : Nat) (one : Bool) (v : Word) : State :=
  let m := v &&& 0x1FFFFFFF#32
  let s1 := s.modChan c fun x => if one then { x with mask1 := m } else { x with mask0 := m }
  forAll (fun k s =>
    let x := s.twd.slot (32 * c + k)
    if x.msel = one && bit x.scfg 31 then s.pendSlot (32 * c + k) else s) (nums 32) s1

/-- MSEL and DLC of a slot, which the hosts share. -/
def State.writeSel (s : State) (i : Nat) (msel : Bool) (dlc : Nat) : State :=
  let was := (s.twd.slot i).msel
  let s1 := s.modSlot i fun x => { x with msel := msel, dlc := dlc }
  if msel != was then s1.pendSlot i else s1

/-! ## Locks and requests (15 R352, R353) -/

/-- The hosts whose lock has lasted longest. -/
def Slot.oldest (x : Slot) : List HostId :=
  if x.lock.a && x.lock.b then
    (if x.lockAt.a < x.lockAt.b then [.a] else if x.lockAt.b < x.lockAt.a then [.b] else [.a, .b])
  else (if x.lock.a then [HostId.a] else []) ++ (if x.lock.b then [HostId.b] else [])

/-- LOCK_LIMIT_EXPIRY: the oldest lock is broken (15 R353). -/
def State.lockLimit (s : State) (i : Nat) : State :=
  let hs := (s.twd.slot i).oldest
  if hs.isEmpty then s
  else
    let broken (h : HostId) (s : State) : State :=
      let s' := s.modSlot i fun x => { x with lock := x.lock.set h false, broken := x.broken.set h true }
      { s' with twd := { s'.twd with lockOverruns := incSat s'.twd.lockOverruns 0xFFFFFFFF } }
    let s1 := forAll broken hs s
    s1.settleLocks i

def execLockLimitExpiry (channel : Fin 16) (slot : Fin 32) (s : State) : Answer :=
  answer (s.lockLimit (32 * channel.val + slot.val))

/-- TXRQ of a mapped send slot in HOLD: the write is ignored as in any mode but TWEED, and TXERR is set (15 R352, log entry
172). -/
def State.holdTxrq (s : State) (h : HostId) (i : Nat) (asked : Bool) : State :=
  if asked && s.dev.mode = .hold && (s.twd.portOf (i / 32)).isSome && s.sendSlot i then s.slotTxErr i h true else s

/-- LOCK, TXRQ or TXCAN of slot `i`; on a channel that does not act the write is ignored and counted. -/
def State.slotWrite (s : State) (h : HostId) (i : Nat) (w : SlotWrite) : State :=
  if s.twdActs (i / 32) then s.slotDo i h w
  else (s.holdTxrq h i (w == .txrq)).violation h 2 0 (0x8204 + i / 32 * 0x400 + i % 32 * 0x10)

/-- The slot's command arrives at the endpoint: held, or carried out (11 R255). -/
def State.slotPosted (s : State) (h : HostId) (i : Nat) (w : SlotWrite) : State :=
  if s.holds h then s.hold h (.slot i w) else s.slotWrite h i w

/-- TWD_LOCK. -/
def execTwdLock (h : HostId) (channel : Fin 16) (slot : Fin 32) (lock : Bool) (s : State) : Answer :=
  answer (s.slotPosted h (32 * channel.val + slot.val) (.lock lock))

/-- TXRQ. -/
def execTxrq (h : HostId) (channel : Fin 16) (slot : Fin 32) (s : State) : Answer :=
  answer (s.slotPosted h (32 * channel.val + slot.val) .txrq)

/-- TXCAN. -/
def execTxcan (h : HostId) (channel : Fin 16) (slot : Fin 32) (s : State) : Answer :=
  answer (s.slotPosted h (32 * channel.val + slot.val) .txcan)

/-- TX_TIMEOUT: a request that has not begun ends; a begun frame completes or fails first (15 R352). -/
def State.slotTimeout (s : State) (i : Nat) : State :=
  if !(s.twd.tx i).pend then s
  else
    let o := slotBase + i
    let s1 := s.modSlotTx i fun x => { x with timedOut := true }
    if (s1.obj o).req.begun then s1.modObj o fun v => { v with tx := { v.tx with lastTry := true } }
    else (s1.modObj o Obj.overFail).afterEnd o

def execTxTimeout (channel : Fin 16) (slot : Fin 32) (s : State) : Answer :=
  answer (s.slotTimeout (32 * channel.val + slot.val))

/-- TWD_TXEVT_CLR: a host's own copy. -/
def State.clearTxevt (s : State) (h : HostId) (c : Nat) (v : Word) : State :=
  s.modChan c fun x => { x with txevt := x.txevt.set h (x.txevt.get h &&& ~~~v) }

def execTwdTxevtClr (h : HostId) (channel : Fin 16) (v : Word) (s : State) : Answer :=
  let o := 0x8018 + channel.val * 0x400
  .next (s.posted h o v (if s.twdActs channel.val then s.clearTxevt h channel.val v else s.violation h 2 0 o))

/-! ## The register window -/

/-- TWD_CCTRL; a TX_TIMEOUT of 0 is ignored and counted (15). -/
def State.writeCctrl (s : State) (h : HostId) (c : Nat) (v : Word) : State :=
  if bits v 31 16 = 0 then s.violation h 2 0 (0x8000 + c * 0x400)
  else s.modChan c fun x => { x with txTimeout := bits v 31 16, txie := bit v 1, rxie := bit v 0 }

/-- TWD_SCTL written by host `h`: the settings, the lock, then the request; with both TXCAN and TXRQ the cancel
alone is carried out, as TX_CANCEL alone is (04, OBJ_CMD; log entry 16). -/
def State.writeSctl (s : State) (h : HostId) (i : Nat) (v : Word) : State :=
  let s1 := (s.writeSel i (bit v 28) (bits v 27 24)).slotDo i h (.lock (bit v 31))
  if bit v 29 then s1.slotDo i h .txcan else if bit v 30 then s1.slotDo i h .txrq else s1

/-- TWD_DATA_LO or TWD_DATA_HI: the host's write buffer of a send slot (15). -/
def State.writeSlotData (s : State) (h : HostId) (i off : Nat) (v : Word) : State :=
  let o := slotBase + i
  if s.sendSlot i then s.poolPut (atAddr ((s.obj o).bufAt h + off) (wordBytes v))
  else s.violation h 4 0 (0x8208 + (i / 32) * 0x400 + (i % 32) * 0x10 + off)

/-- A whole word written into the Tweed window, offset `o` from 0x0_8000 (15, 11 R253). -/
def State.twdWrite (s : State) (h : HostId) (o : Nat) (v : Word) : State :=
  let c := o / 0x400
  let r := o % 0x400
  if !s.twdActs c then
    let i := 32 * c + (r - 0x200) / 0x10
    (s.holdTxrq h i (decide (0x200 ≤ r) && r % 0x10 == 4 && bit v 30 && !bit v 29)).violation h 2 0 (0x8000 + o)
  else if 0x1C ≤ r && r < 0x200 then s.violation h 1 0 (0x8000 + o)
  else if 0x200 ≤ r then
    let i := 32 * c + (r - 0x200) / 0x10
    match r % 0x10 / 4 with
    | 0 => s.writeScfg i v
    | 1 => s.writeSctl h i v
    | 2 => s.writeSlotData h i 0 v
    | _ => s.writeSlotData h i 4 v
  else
    match r / 4 with
    | 0 => s.writeCctrl h c v
    | 2 => s.writeMask c false v
    | 3 => s.writeMask c true v
    | 6 => s.clearTxevt h c v
    | _ => s.violation h 2 0 (0x8000 + o)

/-- TWD_SCFG_WRITE: a write to TWD_SCFG, to MSEL or to a channel mask (15 R350), or to any register of the window. -/
def execTwdScfgWrite (h : HostId) (offset : BitVec 18) (v : Word) (s : State) : Answer :=
  if 0x8000 ≤ offset.toNat && offset.toNat < 0xC000 then
    answer (s.posted h offset.toNat v (s.twdWrite h ((offset.toNat - 0x8000) / 4 * 4) v))
  else .next s

/-- TWD_SCTL as host `h` reads it. -/
def State.sctlWord (s : State) (h : HostId) (i : Nat) : Word :=
  let x := s.twd.slot i
  let y := s.twd.tx i
  let v := s.obj (slotBase + i)
  image [(31, flag (x.lock.get h)), (28, flag x.msel), (24, x.dlc), (15, flag (bit v.nd h.num)), (14, flag (x.lost.get h)),
    (13, flag y.pend), (12, flag v.req.done), (11, flag v.req.fail), (10, flag (x.txErr.get h)),
    (9, flag (!y.cfgPend.isEmpty)), (8, flag y.cfgErr), (7, flag (x.broken.get h)), (4, y.failCause)]

/-- A word of a slot's data (15, TWD_DATA_LO). -/
def State.slotData (s : State) (h : HostId) (i off : Nat) : Word :=
  let v := s.obj (slotBase + i)
  if !v.en then 0
  else BitVec.ofNat 32 (leNat (s.poolBytes ((if v.send then v.bufAt h else v.imageAt) + off) 4))

/-- A word of the Tweed window as host `h` reads it, offset `o` from 0x0_8000 (15). -/
def State.twdWord (s : State) (h : HostId) (o : Nat) : Word :=
  let c := o / 0x400
  let r := o % 0x400
  if !s.twdActs c then 0
  else if 0x200 ≤ r then
    let i := 32 * c + (r - 0x200) / 0x10
    match r % 0x10 / 4 with
    | 0 => (s.twd.slot i).scfg
    | 1 => s.sctlWord h i
    | 2 => s.slotData h i 0
    | _ => s.slotData h i 4
  else
    let x := s.twd.chan c
    let p := (s.twd.portOf c).getD 0
    match r / 4 with
    | 0 => image [(16, x.txTimeout), (1, flag x.txie), (0, flag x.rxie)]
    | 1 => image [(31, 1), (24, p), (0, (s.port p).err.errState)]
    | 2 => x.mask0
    | 3 => x.mask1
    | 4 => image ((nums 32).map fun k => (k, flag (bit (s.obj (slotBase + 32 * c + k)).nd h.num)))
    | 5 => x.txevt.get h
    | _ => 0

/-- Mapped channels (13, TWD_STATUS). -/
def State.mappedMask (s : State) : Nat := (nums 16).foldl (fun n c => n + flag (s.twd.portOf c).isSome * 2 ^ c) 0

end Sys2Proof.Machine
end

