-- ==== Sys2Proof/Machine/Regs.lean ====
section
/-! DEFINITION. The register map of BAR0 as a host reads it (11 R251, and the register tables of each chapter). -/

namespace Sys2Proof.Machine

/-! ## DEV_ (11) -/

/-- The two spares, engines 64 and 65, serve a port (16 R368). -/
def State.engineUsed (s : State) (e : Nat) : Bool := (nums 64).any fun p => (s.port p).engine = e

/-- DEV_MODE. -/
def State.devMode (s : State) : Word :=
  image [(12, s.dev.prevMode.code), (11, flag s.dev.profilePins), (8, s.dev.profile.getD 0), (0, s.dev.mode.code)]

/-- DEV_STATUS. -/
def State.devStatus (s : State) : Word :=
  image [(31, flag (s.link.stale || s.link.sensStale)), (30, flag s.keep.down), (29, flag s.run.svc), (28, flag s.run.buckram),
    (27, flag s.link.amioc), (26, flag s.mem.ready), (25, flag (s.engineUsed 64)), (24, flag (s.engineUsed 65)),
    (23, flag (s.run.pll1 != 0)), (22, flag (s.run.pll0 != 0)), (21, flag s.run.maintKey), (17, s.dev.leadSrc),
    (16, s.dev.lead.num), (2, (s.host .b).state.code), (0, (s.host .a).state.code)]

/-- DEV_RESET_CAUSE. -/
def State.devReset (s : State) : Word := image [(16, s.dev.frameResets), (0, s.dev.resetCause)]

/-- A word of the DEV_ block. -/
def State.devWord (s : State) (h : HostId) (o : Nat) : Word :=
  match o / 4 with
  | 0 => 0x0B640B01#32
  | 1 => 0x10401002#32
  | 2 => BitVec.ofNat 32 s.serial
  | 3 => BitVec.ofNat 32 (s.serial / 2 ^ 32)
  | 4 => (s.fw.parts.get {} 0).running
  | 5 => (s.fw.parts.get {} 1).running
  | 6 => if s.link.amioc then (s.fw.parts.get {} 2).running else 0
  | 7 => s.devMode
  | 8 => s.devStatus
  | 9 => BitVec.ofNat 32 h.num
  | 10 => s.devReset
  | 11 => (s.host h).scratch
  | _ => 0

/-! ## HST_ (11) -/

/-- Words in the reply chain. -/
def Hst.replyFill (x : Hst) : Nat := x.replyChain.foldl (fun n (p : List Word) => n + p.length) 0

/-- HST_FIFO_STAT. -/
def Hst.fifoStat (x : Hst) : Word :=
  image [(31, flag x.cmd.overrun), (30, flag x.cmd.drop.isSome), (29, flag x.integrity), (16, x.replyFill),
    (8, x.cmd.dropWords), (0, x.cmd.words.length)]

/-- CFG of a delivery or reply ring, and of the command ring. -/
def Ring.cfgWord (r : Ring) : Word := image [(31, flag r.en), (0, r.sizeLog)]
def CRing.cfgWord (r : CRing) : Word := image [(31, flag r.en), (30, flag r.stopped), (28, r.stopCause), (0, r.sizeLog)]

/-- Low and high half of an address. -/
def lo32 (a : BitVec 64) : Word := a.setWidth 32
def hi32 (a : BitVec 64) : Word := (a >>> 32).setWidth 32

/-- A word of the HST_ block, offset from 0x0_1000. -/
def State.hstWord (s : State) (h : HostId) (o : Nat) : Word :=
  let x := s.host h
  match o / 4 with
  | 1 => x.hb
  | 2 => image [(16, x.period), (8, x.lapses), (2, (s.host h.peer).state.code), (0, x.state.code)]
  | 3 => x.peerHb
  | 6 => x.fifoStat
  | 7 => BitVec.ofNat 32 x.cmd.level
  | 8 => lo32 x.dring.base
  | 9 => hi32 x.dring.base
  | 10 => x.dring.cfgWord
  | 11 => x.dring.prod
  | 12 => x.dring.cons
  | 13 => BitVec.ofNat 32 x.gapTotal
  | 14 => lo32 x.cring.base
  | 15 => hi32 x.cring.base
  | 16 => x.cring.cfgWord
  | 17 => x.cring.tail
  | 18 => x.cring.head
  | 19 => lo32 x.rring.base
  | 20 => hi32 x.rring.base
  | 21 => x.rring.cfgWord
  | 22 => x.rring.prod
  | 23 => x.rring.cons
  | 24 => lo32 x.wbAddr ||| BitVec.ofNat 32 (flag x.wbEn)
  | 25 => hi32 x.wbAddr
  | 26 => BitVec.ofNat 32 x.violations
  | 27 => x.violLast
  | _ => 0

/-- A word of host `h`'s configuration space that 11 R250 gives: identity, the two BARs and the subsystem, at the places of PCI
Express's type 0 header (log entry 133). -/
def State.configWord (s : State) (h : HostId) (o : Nat) : Word :=
  let x := (s.host h).pcie
  match o with
  | 0x00 => 0x0B641DF7#32
  | 0x08 => 0x0C0900B1#32
  | 0x10 => lo32 x.bar0 ||| 0x4#32
  | 0x14 => hi32 x.bar0
  | 0x18 => lo32 x.bar2 ||| 0xC#32
  | 0x1C => hi32 x.bar2
  | 0x2C => image [(16, bits (s.preg 0x011) 15 0), (0, bits (s.preg 0x010) 15 0)]
  | _ => 0

/-! ## INT_ and the MSI-X structures (14, 11) -/

/-- A word of the INT_ block, offset from 0x0_2000; INT_CLAIM and INT_SETSEEN read through their own commands. -/
def State.intWord (s : State) (h : HostId) (o : Nat) : Word :=
  if o < 0x20 then wordOf s.irq.pend (o / 4)
  else if 0x100 ≤ o && o < 0x180 then s.irq.prioWord ((o - 0x100) / 4)
  else if 0x200 ≤ o && o < 0x260 then (s.target h.num).word (o - 0x200)
  else if 0x400 ≤ o && o < 0x800 then (s.target ((o - 0x400) / 0x80)).word (o % 0x80)
  else 0

/-- A word of the MSI-X table and the pending bit array, offset from 0x0_3E00. -/
def State.msixWord (s : State) (h : HostId) (o : Nat) : Word :=
  let x := (s.host h).pcie
  if o < 0x100 then x.msixTable.get (if o / 4 % 4 = 3 then 1 else 0) (o / 4)
  else if o = 0x100 then x.pba.setWidth 32 else 0

/-! ## REC_, JNL_, PREG_ (17) -/

/-- A host's snapshot as it reads it: REPEAT of a held record is shown as it stands now (17 R391, R393). -/
def State.recSnap (s : State) (h : HostId) : List Byte :=
  let c := s.rcd.cur.get h
  if c.gone || c.atEnd || c.copying then c.snap
  else match s.recFound c.cursor with
    | some (b, _) => c.snap.take 28 ++ (b.drop 28).take 2 ++ c.snap.drop 30
    | none => c.snap

/-- STAT of a cursor window. -/
def Cursor.statWord (c : Cursor) (degraded : Bool) : Word :=
  image [(31, flag c.overtaken), (30, flag c.markValid), (29, flag c.atEnd), (28, flag c.gone), (27, flag c.spillView),
    (26, flag degraded)]

/-- A word of the REC_ window, offset from 0x0_5000. -/
def State.recWord (s : State) (h : HostId) (o : Nat) : Word :=
  let c := s.rcd.cur.get h
  match o / 4 with
  | 1 => c.cursor
  | 2 => c.mark
  | 3 => c.statWord (s.rcd.degraded != .no)
  | 4 => c.lostCount s.recOldest
  | 5 => s.rcd.newest.getD 0xFFFFFFFF#32
  | 6 => s.recOldest
  | _ => if 0x20 ≤ o && o < 0x40 then BitVec.ofNat 32 (u32At (s.recSnap h) (o - 0x20)) else 0

/-- A word of the JNL_ window, offset from 0x0_5800 (17 R398). -/
def State.jnlWord (s : State) (h : HostId) (o : Nat) : Word :=
  let c := s.jnl.cur.get h
  match o / 4 with
  | 1 => c.cursor
  | 2 => c.mark
  | 3 => c.statWord false
  | 4 => c.lostCount s.jnlOldest
  | 5 => s.jnl.newest.getD 0xFFFFFFFF#32
  | 6 => s.jnlOldest
  | _ => if 0x20 ≤ o && o < 0x40 then BitVec.ofNat 32 (u32At c.snap (o - 0x20)) else 0

/-- The most-worn line and its wear in units of 65,536 (17 R386). -/
def Keep.topLine (k : Keep) : Nat × Nat := k.wear.foldl (fun m (e : Nat × Nat) => if m.2 < e.2 then e else m) (0, 0)

/-- A word of the PREG_ block, offset from 0x0_7000; an unreachable keep die reads all ones (17 R385). -/
def State.pregWord (s : State) (h : HostId) (o : Nat) : Word :=
  if 0x800 ≤ o then
    (if s.keep.down then 0xFFFFFFFF#32 else s.preg (512 * (s.host h).pregPage + (o - 0x800) / 4))
  else match o / 4 with
    | 0 => BitVec.ofNat 32 (s.host h).pregPage
    | 1 => image [(31, flag s.keep.down), (30, flag s.keep.lineLost), (16, s.keep.spares), (0, s.keep.lostLine)]
    | 2 => image [(16, s.keep.topLine.2 / 256), (0, s.keep.topLine.1)]
    | _ => 0

/-! ## PWR_ and MGT_ on the power die (18, 19) -/

/-- A signed value of 0.1 degree as 16 bits. -/
def temp16 (t : Int) : Nat := (BitVec.ofInt 16 t).toNat

/-- Two 16-bit readings as one word. -/
def pair16 (even odd : BitVec 16) : Word := image [(16, odd.toNat), (0, even.toNat)]

/-- PWR_STATE. -/
def State.pwrState (s : State) : Word :=
  let w := s.pwr
  image [(28, w.hs.code), (27, flag w.pgood), (26, flag w.present), (25, flag w.rfcSeen), (24, flag w.rfcArmed),
    (23, flag w.feedA.on), (22, flag w.feedB.on), (21, flag w.feedA.ok), (20, flag w.feedB.ok), (19, flag w.feedA.warn),
    (18, flag w.feedB.warn), (17, flag w.feedA.ov), (16, flag w.feedB.ov), (15, flag w.limiting), (14, flag w.tsFault),
    (8, w.count), (4, w.cause)]

/-- One bit for each output. -/
def State.outBits (s : State) (f : DoS → Bool) : Nat := (nums 4).foldl (fun n o => n + flag (f (s.fld.output o)) * 2 ^ o) 0

/-- MGT_FIELD. -/
def State.mgtField (s : State) : Word :=
  let causes := (nums 4).foldl (fun n o => n + (s.fld.output o).cause * 4 ^ o) 0
  image [(24, causes), (20, s.outBits DoS.ext), (16, s.outBits DoS.fault), (12, s.outBits DoS.held), (10, s.fld.state.code),
    (9, flag s.fld.autoRestore), (0, s.fld.filtered.toNat)]

/-- Raw samples of DI0-DI7. -/
def Fld.rawBits (f : Fld) : Nat := (nums 8).foldl (fun n i => n + flag (f.input i).raw * 2 ^ i) 0

/-- A word of the PWR_ and MGT_ blocks as the power die and Amioc hold it, offset from 0x0_6000 (18, 19). -/
def State.pwrWord (s : State) (o : Nat) : Word :=
  let r := s.mgt.sens
  let at_ (l : List (BitVec 16)) (i : Nat) : Word := pair16 (l.getD (2 * i) 0) (l.getD (2 * i + 1) 0)
  if 0x110 ≤ o && o < 0x128 then at_ r.rails ((o - 0x110) / 4)
  else if 0x140 ≤ o && o < 0x150 then
    let i := (o - 0x140) / 4
    image [(16, (s.fld.input (2 * i + 1)).filter), (0, (s.fld.input (2 * i)).filter)]
  else match o with
  | 0x000 => s.pwrState
  | 0x004 => s.pwr.limits
  | 0x008 => pair16 r.vfeedA r.vfeedB
  | 0x00C => pair16 r.vout r.iout
  | 0x010 => image [(16, temp16 s.pwr2.tsense), (0, temp16 s.pwr2.tj)]
  | 0x014 => s.pwr2.flags
  | 0x01C => image [(16, min 65535 s.pwr.line.trips), (0, s.pwr2.limitEvents)]
  | 0x020 => image [(16, s.pwr.feedB.revs), (0, s.pwr.feedA.revs)]
  | 0x024 => s.pwr.setting 0x102
  | 0x100 => at_ r.fd 0
  | 0x104 => at_ r.fd 1
  | 0x108 => at_ r.fd 2
  | 0x10C => at_ r.pd 0
  | 0x128 => image [(16, s.mgt.ifeedB), (0, s.mgt.ifeedA)]
  | 0x12C => s.mgtField
  | 0x130 => image [(16, s.fld.rawBits), (0, s.fld.volts)]
  | 0x134 => s.fld.flags
  | 0x150 => image [(16, s.mgt.pec), (0, s.mgt.packets)]
  | _ => 0

/-- Offsets of the mirrored words. -/
def mirrorOffsets : List Nat :=
  [0x000, 0x004, 0x008, 0x00C, 0x010, 0x014, 0x01C, 0x020, 0x024] ++ (numsFrom 64 16).map (4 * ·) ++
    (numsFrom 80 5).map (4 * ·)

/-- Reset values of the mirrored words (18, 19): PWR_STATE ON with PGOOD and PRESENT, filters of 500. -/
def mirrorReset (o : Nat) : Word :=
  if o = 0 then 0x3C000000#32 else if 0x140 ≤ o && o < 0x150 then 0x01F401F4#32 else 0

/-- A word of the PWR_ and MGT_ blocks as a host reads the mirror (18 R428). The settings and the trips come from the
persistent registers and the keep die before the first transfer. -/
def State.mirrorWord (s : State) (o : Nat) : Word :=
  match s.link.mirror.find o with
  | some w => w
  | none => if o = 0x004 || o = 0x024 || o = 0x01C then s.pwrWord o else mirrorReset o

/-! ## BAR0 -/

/-- A word of BAR0 as host `h` reads it (11 R251, R253); registers whose read acts (INT_CLAIM, INT_SETSEEN,
HST_REPLY_FIFO, GRD_PHASE) have commands of their own. -/
def State.bar0Word (s : State) (h : HostId) (o : Nat) : Word :=
  if o < 0x1000 then s.devWord h o
  else if o < 0x2000 then s.hstWord h (o - 0x1000)
  else if o < 0x3E00 then s.intWord h (o - 0x2000)
  else if o < 0x4000 then s.msixWord h (o - 0x3E00)
  else if o < 0x5000 then s.grdWord h (o - 0x4000)
  else if o < 0x5800 then s.recWord h (o - 0x5000)
  else if o < 0x6000 then s.jnlWord h (o - 0x5800)
  else if o < 0x7000 then s.mirrorWord (o - 0x6000)
  else if o < 0x8000 then s.pregWord h (o - 0x7000)
  else if o < 0xC000 then s.twdWord h (o - 0x8000)
  else if 0x10000 ≤ o && o < 0x14000 then
    (if o % 0x100 < 0xC0 then s.chWord h ((o - 0x10000) / 0x100) (o % 0x100) else 0)
  else 0

end Sys2Proof.Machine
end

