-- ==== Sys2Proof/Machine/Query.lean ====
section
/-! DEFINITION. Queries: the results of the commands that only read (13). -/

namespace Sys2Proof.Machine

/-- The host whose copies a stream sees; the management stream sees host A's (13, PORT_STATUS). -/
def viewHost (st : Stream) : HostId := (streamHost st).getD .a

/-- A result, and one with a status alone. -/
def okWith (b : List Byte) : Res := { result := b }
def onlyStatus (n : Nat) : Res := { status := n }

/-! ## Device -/

/-- SEQ_QUERY's STATE: 0xFF for streams that have no host (13). -/
def State.streamState (s : State) (st : Stream) : Nat :=
  match streamHost st with
  | some h => (s.host h).state.code
  | none => 0xFF

/-- SEQ_QUERY (13). -/
def State.seqQuery (s : State) (st : Stream) : Res :=
  let x := s.stream st
  okWith (p32 (x.nextSeq.getD Config.unstartedSeq) ++ leBytes 1 x.credits ++ leBytes 1 (s.streamState st) ++ zeros 2 ++
    p32 (s.jnl.newest.getD 0xFFFFFFFF#32) ++ p32 s.trk.cycle)

/-- DEV_INFO (13). -/
def State.devInfo (s : State) (st : Stream) : Res :=
  okWith (wordsBytes ([0x00, 0x04, 0x08, 0x0C, 0x10, 0x14, 0x18, 0x1C, 0x20, 0x28].map (s.devWord (viewHost st))) ++
    leBytes 4 s.run.cfgPolicy ++ zeros 4)

/-! ## Ports and objects -/

/-- PORT_STATUS: bytes 0x00-0xBF of the port's CH_ block. -/
def State.portStatus (s : State) (st : Stream) (p : Nat) : Res :=
  okWith (wordsBytes ((nums 48).map fun i => s.chWord (viewHost st) p (4 * i)))

/-- OBJ_READ: the header, then bytes of the receive buffer or of the transmit image; codewords met uncorrectable answer
HW_FAULT (13, 04 R102). -/
def State.objRead (s : State) (o off n : Nat) : Res :=
  let v := s.obj o
  if v.capacity < off + n then onlyStatus stBadParam
  else if (nums 4).any (fun i => s.mem.badMsg (64 * o + 16 * i)) || s.poolBad (v.imageAt + off) n then onlyStatus stHwFault
  else okWith (v.header o ++ s.poolBytes (v.imageAt + off) n)

/-- OBJ_POOL. -/
def State.objPool (s : State) : Res :=
  let (free, run) := s.freeRuns
  okWith (leBytes 4 free ++ leBytes 4 run ++ leBytes 2 (s.objs.filter fun e => e.2.en).length ++ zeros 2)

/-! ## Filters, routes, pairs -/

/-- A codeword of the active copy among `n` bytes from `a` on is uncorrectable: the command is answered HW_FAULT (13 R294). -/
def State.tableBad (s : State) (a n : Nat) : Bool := (numsFrom a n).any (s.mem.within 0).badTable

/-- FLT_READ from the active copy. -/
def State.fltRead (s : State) (what table first count : Nat) : Res :=
  if (if what = 0 then s.tableBad (0x1000 * table + 2 * first) (2 * count) else s.tableBad (0x20000 + 16 * first) (16 * count)) then
    onlyStatus stHwFault
  else if what = 0 then
    okWith (pad4 ((numsFrom first count).flatMap fun i => leBytes 2 (s.flt.dtable.get 0 (2048 * table + i))))
  else okWith ((numsFrom first count).flatMap fun i => Elem.bytes (s.flt.elems.get ⟨0, 0, 0, 0⟩ i))

/-- RTE_STATUS. -/
def State.rteStatus (s : State) (r : Nat) : Res :=
  let v := s.route r
  if s.tableBad (0x30000 + 8 * r) 8 || s.tableBad (0x38000 + 4 * r) 4 || s.mem.badMsg (0x900000 + 16 * r) then
    onlyStatus stHwFault
  else okWith (p64 v.entry ++ p32 v.ext ++ zeros 4 ++ v.qcb ++ leBytes 2 v.tooLong ++ leBytes 2 v.xlate ++ leBytes 2 v.hop ++
    leBytes 2 v.flushed)

/-- PAIR_STATUS. -/
def State.pairStatus (s : State) (k : Nat) : Res :=
  let v := s.pairs.get {} k
  if s.tableBad (0x3E000 + 8 * k) 8 then onlyStatus stHwFault
  else okWith (p64 v.entry ++ p32 v.dup ++ p32 v.both ++ p32 v.even ++ p32 v.odd)

/-! ## Cycle, time, Dense -/

/-- TIME_QUERY. -/
def State.timeQuery (s : State) : Res :=
  okWith (p32 s.trk.cycle ++ leBytes 2 s.phase ++ leBytes 1 s.trk.win ++ leBytes 1 s.trk.state.code ++ p64 s.clk.plant ++
    p32 (s.grdWord .a 0x1C) ++ zeros 4)

/-- DENSE_READ: more than 29 entries do not pass the FIFO (13 R296). -/
def State.denseRead (s : State) (pa : Path) (p : Nat) : Res :=
  if pa = .fifo && decide (29 < (s.denseOf p).length) then onlyStatus stBadLength
  else if s.tableBad 0x3E200 (8 * s.dense.length) then onlyStatus stHwFault
  else okWith (s.denseResult p ++ leBytes 1 (s.port p).cfg.errAllow ++ zeros 3)

/-! ## Profiles and firmware -/

/-- One profile of PROFILE_LIST. -/
def State.profileRow (s : State) (n : Nat) : List Byte :=
  match s.profileImage n with
  | none => zeros 16
  | some b =>
    leBytes 1 (flag (s.profileValid n)) ++ leBytes 1 (flag (s.dev.profile = some n)) ++ zeros 2 ++
      leBytes 4 (profileVersion b) ++ leBytes 4 (profileLength b) ++ p32 (crc32c (b.take (profileLength b)))

/-- PROFILE_LIST. -/
def State.profileList (s : State) : Res := okWith ((nums 8).flatMap s.profileRow)

/-- The version of the image in a part's standby slot, the one FW_SLOTS does not name; 0 when it is empty (16 R357). -/
def State.standbyVersion (s : State) (p : Nat) : Nat :=
  match (s.part p).image (1 - s.fwSlot p) with
  | some b => fwVersion b
  | none => 0

/-- FW_STATUS. -/
def State.fwStatus (s : State) : Res :=
  okWith ((nums 3).flatMap fun p =>
    p32 (s.part p).running ++ leBytes 4 (s.standbyVersion p) ++ leBytes 1 (s.part p).standby ++ leBytes 1 (s.fwSlot p) ++
      zeros 2 ++ leBytes 4 (s.fwCounter p))

/-! ## Persistent registers, recorder, journal -/

/-- PREG_READ. -/
def State.pregRead (s : State) (i n : Nat) : Res :=
  okWith (wordsBytes ((numsFrom i n).map fun k => if s.keep.down then 0xFFFFFFFF#32 else s.preg k))

/-- Up to `n` of the records or entries held from number `k` on; `fuel` bounds the numbers looked at. -/
def gather (find : Word → Option (List Byte)) : Nat → Nat → Word → List Byte
  | 0, _, _ => []
  | _, 0, _ => []
  | fuel + 1, n + 1, k =>
    match find k with
    | some b => b ++ gather find fuel n (k + 1)
    | none => gather find fuel (n + 1) (k + 1)

/-- The first number of a read from `k` on: the oldest when `k` lies before it. -/
def readFrom (k oldest : Word) : Word := if 0 < seqDiff oldest k then oldest else k

/-- How many numbers lie from `k` to the newest. -/
def readSpan (k : Word) (newest : Option Word) : Nat :=
  match newest with
  | none => 0
  | some m => (seqDiff m k + 1).toNat

/-- REC_READ. -/
def State.recRead (s : State) (k : Word) (n : Nat) : Res :=
  let a := readFrom k s.recOldest
  okWith (gather (fun i => (s.recFound i).map Prod.fst) (readSpan a s.rcd.newest) n a)

/-- JNL_READ. -/
def State.jnlRead (s : State) (k : Word) (n : Nat) : Res :=
  let a := readFrom k s.jnlOldest
  okWith (gather (fun i => (s.heldEntry i).map JEntry.bytes) (readSpan a s.jnl.newest) n a)

/-! ## Power and field -/

/-- PWR_STATUS: the first 64 bytes of the PWR_ block as mirrored. -/
def State.pwrStatus (s : State) : Res := okWith (wordsBytes ((nums 16).map fun i => s.mirrorWord (4 * i)))

/-- MGT_FIELD and MGT_FLD_V as the frame die knows them: now while the power link is up, else as last mirrored. -/
def State.fieldNow (s : State) (o : Nat) : Word := if s.link.up then s.pwrWord o else s.mirrorWord o

/-- FLD_LOW likewise: it stays through UV (19 R437). -/
def State.lowNow (s : State) : Bool := if s.link.up then s.fld.low else s.link.lowSeen

/-- FLD_STATUS. -/
def State.fldStatus (s : State) : Res :=
  let f := s.fieldNow 0x12C
  okWith ([s.fld.frameDi, BitVec.ofNat 8 (s.outBits DoS.cmd), BitVec.ofNat 8 (bits f 19 16),
    BitVec.ofNat 8 (flag s.lowNow + 2 * flag (bits f 11 10 = 2) + 4 * flag (bits f 23 20 != 0))] ++
    leBytes 2 (bits (s.fieldNow 0x130) 15 0) ++ zeros 2)

/-! ## Diagnostics and canvas -/

/-- DIAG_MEM. -/
def State.diagMem (s : State) : Res :=
  let m := s.mem
  okWith (((nums 4).flatMap fun i => leBytes 4 (m.corrected.getD i 0) ++ leBytes 2 (m.remaps.getD i 0) ++
      leBytes 2 (m.uncorrectable.getD i 0)) ++
    leBytes 4 s.keep.corrected ++ leBytes 2 s.keep.remaps ++ leBytes 2 s.keep.uncorrectable)

/-- WORST_FINISH of a port's planned objects, in phase units from the window start. -/
def State.worstFinishOf (s : State) (p : Nat) : Nat :=
  let l := s.planOf (s.denseOf p)
  let x := s.portLoad p (s.port p).cfg.errAllow
  (l.filter fun k => !k.foreign).foldl (fun m k => max m (x.unitsUp (worstFinish x l k).1.at_)) 0

/-- Deadlines of planned objects missed outside bus-off: those counted, and those passed since (10 R249). -/
def State.denseMisses (s : State) (p : Nat) : Word :=
  (s.port p).cnt.denseMisses +
    BitVec.ofNat 32 (if s.offBus p then 0 else (s.objs.filter fun e => s.overdue e.1 p).length)

/-- DIAG_PORT. -/
def State.diagPort (s : State) (p : Nat) : Res :=
  let c := (s.port p).cnt
  let planned := (s.planOf (s.denseOf p)).filter fun k => !k.foreign
  if s.tableBad 0x3E200 (8 * s.dense.length) then onlyStatus stHwFault
  else okWith (p32 c.dlvDrops ++ p32 c.routeDrops ++ p32 (s.denseMisses p) ++ leBytes 2 (s.worstFinishOf p) ++
    leBytes 2 planned.length ++ p32 c.attempts ++ zeros 4)

/-- DIAG_GATE. -/
def State.diagGate (s : State) : Res := okWith (leBytes 4 s.run.gateViolations ++ leBytes 4 s.run.svcRestarts)

/-- LENGTH of what is held (16 R375). -/
def Canvas.length (c : Canvas) : Nat := if c.held = 1 then 524288 else if c.held = 2 then 4096 else 0

/-- The header with LATER_FAULTS and LENGTH; CRC 0. -/
def Canvas.head (c : Canvas) : List Byte :=
  c.header.take 7 ++ leBytes 1 c.later ++ (c.header.drop 8).take 0x28 ++ leBytes 4 c.length ++ zeros 4 ++ c.header.drop 0x38

/-- Byte `i` of a row of blocks of `n` bytes. -/
def rowByte (l : List (List Byte)) (n i : Nat) : Byte := (l.getD (i / n) []).getD (i % n) 0

/-- The sections of the canvas: offset and length (16 R375). -/
def canvasSections : List (Nat × Nat) :=
  [(0x400, 0x1C00), (0x2000, 0x8000), (0xA000, 0x3000), (0xD000, 0x800), (0xD800, 0x800), (0xE000, 0x2000),
   (0x10000, 0x8000), (0x18000, 0x28000), (0x40000, 0x40000)]

/-- The 16-bit word of the sorted route index at entry `i`; beyond ROUTE_COUNT it is not stated (10 R224, R226). -/
def Canvas.indexWord (c : Canvas) (i : Nat) : List Byte :=
  match c.table.index[i]? with
  | some x => leBytes 2 x.2
  | none => [Config.canvasByte c.draw (0x7C000 + 2 * i), Config.canvasByte c.draw (0x7C001 + 2 * i)]

/-- A byte of the active table-SRAM copy as it stood at the fault (05 R113, 10 R224). Free values where the layout leaves it open: the
windows and fences, the index beyond ROUTE_COUNT, and in TWEED the filter region (log entry 18). -/
def Canvas.tableByte (c : Canvas) (o : Nat) : Byte :=
  let t := c.table
  if 0x3F000 ≤ o || (t.mode = .tweed && o < 0x30000) then Config.canvasByte c.draw (0x40000 + o)
  else if o < 0x20000 then (leBytes 2 (t.flt.dtable.get 0 (o / 2))).getD (o % 2) 0
  else if o < 0x30000 then (Elem.bytes (t.flt.elems.get ⟨0, 0, 0, 0⟩ ((o - 0x20000) / 16))).getD (o % 16) 0
  else if o < 0x38000 then (p64 (t.routes.get (0, 0) ((o - 0x30000) / 8)).1).getD (o % 8) 0
  else if o < 0x3C000 then (p32 (t.routes.get (0, 0) ((o - 0x38000) / 4)).2).getD (o % 4) 0
  else if o < 0x3E000 then (c.indexWord ((o - 0x3C000) / 2)).getD (o % 2) 0
  else if o < 0x3E100 then (p64 (t.pairs.get (Pair.entry {}) ((o - 0x3E000) / 8))).getD (o % 8) 0
  else if o < 0x3E180 then (leBytes 2 (t.port ((o - 0x3E100) / 2)).quota).getD (o % 2) 0
  else if o < 0x3E200 then (leBytes 4 t.routeCount).getD (o - 0x3E180) 0
  else (p64 (c.dense.getD ((o - 0x3E200) / 8) 0)).getD (o % 8) 0

/-- The summary's core registers: both trusted cores for a fault of the trusted part, else the core's own and zeros (16 R376). -/
def Canvas.coreByte (c : Canvas) (o : Nat) : Byte :=
  if 0x10 ≤ (c.header.getD 4 0).toNat then Config.canvasByte c.draw (0x400 + o)
  else if o < 0x400 then Config.canvasByte c.draw (0x400 + 0x400 * (c.header.getD 0x16 0).toNat + o)
  else 0

/-- A byte of a section whose contents are listed and not laid out: one of them, or a free value (log entry 18). -/
def Canvas.placed (c : Canvas) (content : List Byte) (o : Nat) : Byte :=
  match (Config.canvasPlace o).bind fun i => content[i]? with
  | some b => b
  | none => Config.canvasByte c.draw o

/-- A byte of a section: Amioc's registers are zeros when the power link is down. The other cores' registers and their data memory are
no state of this model: free values (log entry 18). -/
def Canvas.sectionByte (c : Canvas) (o : Nat) : Byte :=
  if 0x1C00 ≤ o && o < 0x2000 && !c.linked then 0
  else if 0x2000 ≤ o && o < 0xA000 then
    (if (o - 0x2000) % 512 < 256 then (c.blocks.getD ((o - 0x2000) / 512) []).getD ((o - 0x2000) % 512) 0
     else c.placed (c.contexts.getD ((o - 0x2000) / 512) []) o)
  else if 0xA000 ≤ o && o < 0xD000 then c.placed c.chains o
  else if 0xD000 ≤ o && o < 0xD800 then c.placed c.irqs o
  else if 0xD800 ≤ o && o < 0xE000 then c.placed c.regs o
  else if 0xE000 ≤ o && o < 0x10000 then rowByte c.entries 32 (o - 0xE000)
  else if 0x10000 ≤ o && o < 0x18000 then rowByte c.records 32 (o - 0x10000)
  else if 0x40000 ≤ o then c.tableByte (o - 0x40000)
  else Config.canvasByte c.draw o

/-- The directory: offset, length, CRC of each section. -/
def Canvas.directory (c : Canvas) : List Byte :=
  canvasSections.flatMap fun (e : Nat × Nat) =>
    leBytes 4 e.1 ++ leBytes 4 e.2 ++ p32 (crc32c ((numsFrom e.1 e.2).map c.sectionByte)) ++ zeros 4

/-- A byte of the canvas, or of the summary once only it is held, with the header's CRC taken as 0 (16 R375, R376). -/
def Canvas.rawByte (c : Canvas) (o : Nat) : Byte :=
  if o < 0x40 then c.head.getD o 0
  else if o < 0x100 then 0
  else if c.held = 1 then
    if o < 0x200 then c.directory.getD (o - 0x100) 0
    else if o < 0x400 then 0
    else c.sectionByte o
  else if o < 0x900 then c.coreByte (o - 0x100)
  else if o < 0xB00 then rowByte (c.entries.drop (c.entries.length - 16)) 32 (o - 0x900)
  else rowByte (c.records.drop (c.records.length - 40)) 32 (o - 0xB00)

/-- CRC of what is held. -/
def Canvas.crc (c : Canvas) : Word := crc32c ((nums c.length).map c.rawByte)

/-- A byte as CANVAS_READ gives it. -/
def Canvas.byte (c : Canvas) (o : Nat) : Byte :=
  if 0x34 ≤ o && o < 0x38 then (p32 c.crc).getD (o - 0x34) 0 else c.rawByte o

/-- CANVAS_INFO. -/
def State.canvasInfo (s : State) : Res :=
  let c := s.canvas
  if c.held = 0 then okWith (zeros 24)
  else okWith (leBytes 1 c.held ++ (c.header.drop 4).take 1 ++ zeros 2 ++ leBytes 4 c.length ++ p32 c.crc ++ zeros 4 ++
    (c.header.drop 8).take 8)

/-- CANVAS_READ: beyond LENGTH, or from uncorrectable codewords of the canvas area (13, 04 R102). -/
def State.canvasRead (s : State) (o n : Nat) : Res :=
  let c := s.canvas
  if c.length < o + n then onlyStatus stBadParam
  else if c.held = 1 && !(s.mem.badIn (0x940000 + o) n).isEmpty then onlyStatus stHwFault
  else okWith ((numsFrom o n).map c.byte)

/-- TWD_STATUS. -/
def State.twdStatus (s : State) : Res := okWith (leBytes 4 s.twd.lockOverruns ++ leBytes 4 s.mappedMask)

/-- The first header codeword of an object that is uncorrectable. -/
def State.badHeader (s : State) (o : Nat) : Option Nat :=
  ((nums 4).map fun i => 64 * o + 16 * i).find? s.mem.badMsg

/-- Reads of the keep die are requests of keep link F (01 R7). -/
def State.keepReads (s : State) (k : Packet) : State :=
  match k.params with
  | some (.pregRead i n) => s.lineReads ((i.toNat + n.toNat + 7) / 8 - i.toNat / 8)
  | some (.recRead _ n) => s.lineReads n.toNat
  | some (.jnlRead _ n) => s.lineReads n.toNat
  | _ => s

/-- The codeword of a route's queue control block (10 R233). -/
def qcbWord (r : Nat) : Nat := 0x900000 + 16 * r

/-- An uncorrectable codeword of message memory that a query has met is reported, and a header handled as such (04 R82, R102). -/
def State.readReport (s : State) (k : Packet) : State :=
  match k.params with
  | some (.objRead off n) =>
    match s.badHeader k.target with
    | some a => (s.eccBad 0 a).faultObj k.target
    | none => s.poolReport ((s.obj k.target).imageAt + off.toNat) n.toNat
  | some (.canvasRead o n) =>
    match s.mem.badIn (0x940000 + o.toNat) n.toNat with
    | a :: _ => s.eccBad 0 a
    | [] => s
  | some .rteStatus => if s.mem.badMsg (qcbWord k.target) then s.eccBad 0 (qcbWord k.target) else s
  | _ => s

/-- What a query does besides answering. -/
def State.queryDo (s : State) (k : Packet) (r : Res) : State :=
  if k.bad != 0 then s else if r.status = stHwFault then s.readReport k else if r.status = 0 && !k.dry then s.keepReads k else s

/-! ## All queries -/

/-- The answer to a query (12 R275, 13); none for a command of another class. -/
def State.query (s : State) (k : Packet) : Params → Option Res
  | .seqQuery => some (s.seqQuery k.stream)
  | .devInfo => some (s.devInfo k.stream)
  | .portStatus => some (s.portStatus k.stream k.target)
  | .objRead o n => some (s.objRead k.target o.toNat n.toNat)
  | .objPool => some s.objPool
  | .fltRead w t f n => some (s.fltRead w.toNat t.toNat f.toNat n.toNat)
  | .rteStatus => some (s.rteStatus k.target)
  | .pairStatus => some (s.pairStatus k.target)
  | .timeQuery => some s.timeQuery
  | .denseRead => some (s.denseRead k.path k.target)
  | .profileList => some s.profileList
  | .pregRead i n => some (s.pregRead i.toNat n.toNat)
  | .recRead r n => some (s.recRead r n.toNat)
  | .jnlRead j n => some (s.jnlRead j n.toNat)
  | .pwrStatus => some s.pwrStatus
  | .fldStatus => some s.fldStatus
  | .fwStatus => some s.fwStatus
  | .diagMem => some s.diagMem
  | .diagPort => some (s.diagPort k.target)
  | .diagGate => some s.diagGate
  | .canvasInfo => some s.canvasInfo
  | .canvasRead o n => some (s.canvasRead o.toNat n.toNat)
  | .twdStatus => some s.twdStatus
  | _ => none

end Sys2Proof.Machine
end

