-- ==== Sys2Proof/Machine/Firmware.lean ====
section
/-! DEFINITION. Frame engines and their spares, the canvas, image transfers and staging (16). -/

namespace Sys2Proof.Machine

/-! ## Engines (16 R368-R371) -/

/-- The spare of a port's side: SPARE_B for the B-ports, SPARE_F for the F-ports. -/
def spareOf (p : Nat) : Nat := if p < 16 then 64 else 65

def State.engine (s : State) (e : Nat) : Engine := s.engines.get {} e
def State.modEngine (s : State) (e : Nat) (f : Engine → Engine) : State := { s with engines := s.engines.put e (f (s.engine e)) }

/-- A port other than `p` is bound to an engine or about to be. -/
def State.boundElsewhere (s : State) (p e : Nat) : Bool :=
  (nums 64).any fun q => q != p && ((s.port q).engine = e || (s.port q).stat.remap = some e)

/-- The spare can serve port `p`. -/
def State.spareFree (s : State) (p : Nat) : Bool := !(s.engine (spareOf p)).failed && !s.boundElsewhere p (spareOf p)

/-- The port's state does not wait for the bus: DISABLED, BUS_OFF, RECOVERING (16 R369, R377). -/
def PortS.bindsAtOnce (v : PortS) : Bool := !v.enabled || v.stat.state = .busOff || v.stat.state = .recovering

/-- The crossbar binds an engine to a port: SPARE_ENGAGED for a spare, and the record. -/
def State.bindEngine (s : State) (p e : Nat) : State :=
  let s1 := s.modPort p fun v => { v with engine := e, stat := { v.stat with remap := none } }
  (if 64 ≤ e then s1.raise 167 else s1).event 0x0110 p 2 e s1.cycWin

/-- A remap is due: made at once where the port does not wait for the bus, else at its next bus idle. An enabled port shows
REINTEGRATED (02 R51). -/
def State.dueRemap (s : State) (p e : Nat) : State :=
  if (s.port p).bindsAtOnce then
    let s1 := (s.bindEngine p e).modPort p fun v => { v with stat := { v.stat with causes := v.stat.causes.filter (· != 5) } }
    if (s.port p).enabled then s1.flagCh p 8 else s1
  else s.modPort p fun v => { v with stat := { v.stat with remap := some e } }

/-- A spare that has come free serves a port that waits for one (16 R371). -/
def State.serveWaiting (s : State) (spare : Nat) : State :=
  match (nums 64).find? fun q => spareOf q = spare && (s.port q).engine != spare && (s.engine (s.port q).engine).failed &&
      (s.port q).stat.remap.isNone && s.spareFree q with
  | some q => s.dueRemap q spare
  | none => s

/-- A remap is due; one made at once that leaves a spare frees it for a port that waits. -/
def State.startRemap (s : State) (p e : Nat) : State :=
  let old := (s.port p).engine
  let s1 := s.dueRemap p e
  if (s.port p).bindsAtOnce && decide (64 ≤ old) && old != e then s1.serveWaiting old else s1

/-- An attempt that is given up without an error: its frame stays pending and is offered again (03 R74, log entry 70). A
calibration frame is skipped. -/
def State.giveBack (s : State) (p : Nat) (t : TxFrame) : State :=
  match t.src with
  | .obj o => (s.modObj o fun v => { v with req := { v.req with begun := s.begunElsewhere o p } }).changeNow o
  | .route r => s.routeRetry p r t.trail
  | .calibration => s.calSkip p
  | .fence => s

/-- The frame in progress on a port is given up without an error. -/
def State.dropFrame (s : State) (p : Nat) : State :=
  let t := (s.port p).stat.tx
  let s1 := s.modPort p fun v => { v with stat := { v.stat with rx := none, tx := none, phase := 0, busIdle := false }
                                          tx := { v.tx with staged := none }
                                          silk := { v.silk with contention := false } }
  match t with
  | some t => s1.giveBack p t
  | none => s1

/-- No engine can serve the port: it falls silent in GAUZE with cause 5 (16 R371). -/
def State.silencePort (s : State) (p : Nat) : State :=
  if (s.port p).bindsAtOnce then s.addCause p 5
  else ((s.dropFrame p).modPort p fun v =>
    { v with stat := { v.stat with state := .gauze, causes := insertNat 5 v.stat.causes, integrating := false } }).withdrawMute p

/-- A bound engine is marked failed: the spare takes over, or the port falls silent (16 R369, R371). -/
def State.mendPort (s : State) (p : Nat) : State :=
  if (s.port p).engine != spareOf p && s.spareFree p then s.startRemap p (spareOf p) else s.silencePort p

/-- A port that waits to be rebound to a spare that has failed is not: one whose own engine has failed falls silent, and the
PORT_REMAP that asked for the spare ends with NO_RESOURCE (16 R371, log entry 158). -/
def State.dropRemaps (s : State) (e : Nat) : State :=
  let ports := (nums 64).filter fun p => (s.port p).stat.remap = some e
  forAll (fun p (s : State) =>
    let s1 := s.modPort p fun v => { v with stat := { v.stat with remap := none } }
    let mine := s1.cmds.actions.filter fun x => x.pkt.opcode = 0x0112 && x.pkt.target = p
    let s2 := forAll (fun (x : Sched) (s : State) => s.finishAction x { status := stNoResource }) mine s1
    if (s2.engine (s2.port p).engine).failed then s2.silencePort p else s2) ports s

/-- ENGINE_SELF_TEST_STEP: a failed step is repeated; the second failure marks the engine failed (16 R368). -/
def State.selfTest (s : State) (e : Nat) (pass : Bool) : State :=
  let g := s.engine e
  if g.failed then s
  else if pass then s.modEngine e fun g => { g with suspect := false }
  else if !g.suspect then s.modEngine e fun g => { g with suspect := true }
  else
    let s1 := s.modEngine e fun g => { g with failed := true, suspect := false }
    let p := (nums 64).find? fun q => (s.port q).engine = e
    let s2 := s1.event 0x010F (p.getD (if e < 64 then e else Config.noPort)) 3 e 0
    let s3 := s2.dropRemaps e
    match p with
    | some q => s3.mendPort q
    | none => s3

def execEngineSelfTestStep (engine : Fin 66) (pass : Bool) (s : State) : Answer := answer (s.selfTest engine.val pass)

/-- The status of PORT_REMAP, and the engine it asks for (13, 16 R371). The binding in place is OK (13 R301). -/
def State.remapStatus (s : State) (p op : Nat) : Nat :=
  let e := if op = 1 then spareOf p else p
  if (s.port p).engine = e && (s.port p).stat.remap.isNone then 0
  else if op = 1 then need (s.spareFree p) stNoResource
  else need (!(s.engine p).failed) stNotAuth

/-- The engine PORT_REMAP asks for. -/
def remapEngine (p op : Nat) : Nat := if op = 1 then spareOf p else p

/-- PORT_REMAP's result (13). -/
def remapResult (p op : Nat) : List Byte := leBytes 1 (remapEngine p op) ++ zeros 3

/-- The port's bus is idle: it enters GAUZE with cause 5, the crossbar rebinds it, and it integrates (16 R369). A port that has
become DISABLED or bus-off meanwhile is rebound at once, and its state is kept (07 R170). -/
def State.remapNow (s : State) (p : Nat) : State :=
  match (s.port p).stat.remap with
  | none => s
  | some e =>
    if (s.port p).bindsAtOnce then s.startRemap p e
    else if !(s.port p).mayIdle then s
    else
      let old := (s.port p).engine
      let s1 := (s.bindEngine p e).modPort p fun v =>
        { v with
          tx := { v.tx with staged := none }
          stat := { v.stat with state := .gauze, causes := insertNat 5 v.stat.causes, integrating := true, phase := 0,
                                busIdle := false } }
      let s2 := (s1.flagCh p 8).withdrawMute p
      if 64 ≤ old then s2.serveWaiting old else s2

/-- Actions whose remap has been made come to their end (13 R369). -/
def State.endRemaps (s : State) (p : Nat) : State :=
  let done := s.cmds.actions.filter fun x => x.pkt.opcode = 0x0112 && x.pkt.target = p && (s.port p).stat.remap.isNone
  forAll (fun (x : Sched) s => s.finishAction x { result := x.result }) done s

/-- ENGINE_REMAP. -/
def execEngineRemap (p : Port) (s : State) : Answer := answer ((s.remapNow p.val).endRemaps p.val)

/-! ## The canvas (16 R374-R376) -/

/-- The last `n` of the things held up to a number, each as its bytes, oldest first. -/
def lastOf (find : Word → Option (List Byte)) (newest : Option Word) (n : Nat) : List (List Byte) :=
  match newest with
  | none => []
  | some m => (nums n).filterMap fun i => find (m - BitVec.ofNat 32 (n - 1 - i))

/-- The header, but for LATER_FAULTS, LENGTH and CRC (16 R375). RSEQ is the number the fault's own record will get: it is the
last of those that wait for Buckram or, when the boot ROM writes, in the spill area. -/
def State.canvasHeader (s : State) (cause writer : Nat) (f : CoreFault) : List Byte :=
  let ahead := if writer = 1 then (s.rcd.spill.filter fun v => v.r.flags / 2 % 2 == 1).length else s.rcd.queue.length
  let rseq := nextOf s.rcd.newest + BitVec.ofNat 32 (ahead - 1)
  leBytes 4 0x5A43414E ++ leBytes 1 cause ++ leBytes 1 writer ++ leBytes 1 s.dev.mode.code ++ zeros 1 ++ p64 s.clk.plant ++
    p32 s.trk.cycle ++ leBytes 2 s.phase ++ [f.core] ++ zeros 1 ++ p32 (s.part 0).running ++ p32 (s.part 1).running ++
    p32 (s.part 2).running ++ p32 f.pc ++ p32 f.info0 ++ p32 f.info1 ++ zeros 8 ++ p32 rseq ++
    p32 (s.jnl.newest.getD 0xFFFFFFFF#32)

/-- A chain in the canvas: its fill count in words and the complement, the index of its last packet boundary, drop-tail's words and its
contents (12 R287, R289, 16 R375). -/
def chainImage (ws : List Word) (boundary : Nat) (drop : Option DropTail) : List Byte :=
  let n := ws.length
  [BitVec.ofNat 8 n, ~~~(BitVec.ofNat 8 n), BitVec.ofNat 8 boundary,
    match drop with | some d => BitVec.ofNat 8 (d.pos + 1) | none => 0] ++ wordsBytes ws

/-- A chain of whole packets. -/
def packetsImage (ps : List (List Word)) : List Byte := chainImage ps.flatten (ps.dropLast.flatten.length) none

/-- A host's command chain and reply chain. -/
def State.hostChains (s : State) (h : HostId) : List Byte :=
  let c := (s.host h).cmd
  chainImage c.words (c.words.length - (partialWords 16 c.words).length) c.drop ++ packetsImage (s.host h).replyChain

/-- Every chain: the ports' staging and notices, the mailboxes, and the hosts' (12 R287, 16 R375). -/
def State.chainsImage (s : State) : List Byte :=
  ((nums 64).flatMap fun p => chainImage (s.port p).tx.chain 0 none ++ packetsImage (s.dlv.notices.get [] p)) ++
    packetsImage s.link.mailOut ++ packetsImage s.link.mailIn ++ s.hostChains .a ++ s.hostChains .b

/-- A port's engine binding and what of its context has no place in its CH_ block: its causes of Gauze, its window and its counters (16
R375). -/
def State.contextImage (s : State) (p : Nat) : List Byte :=
  let v := s.port p
  leBytes 1 v.engine ++ leBytes 1 v.stat.state.code ++ leBytes 2 v.err.tec ++ leBytes 2 v.err.recv ++ leBytes 4 v.fence.n ++
    [BitVec.ofNat 8 v.stat.causes.length] ++ v.stat.causes.map (BitVec.ofNat 8)

/-- The interrupt state: INT_PEND, priorities, and per target the mask, THRESH, active set, RUN, SIGNALLED and INT_MOD (16 R375). -/
def State.irqImage (s : State) : List Byte :=
  let set (v : BitVec 256) : List Byte := wordsBytes ((nums 8).map (wordOf v))
  set s.irq.pend ++ wordsBytes ((nums 32).map s.irq.prioWord) ++ (nums 8).flatMap fun t =>
    let v := s.target t
    set v.mask ++ leBytes 1 v.thresh ++ set v.activeBits ++ leBytes 1 v.running ++ leBytes 1 v.signalled ++ leBytes 2 v.moderation

/-- DEV_ and GRD_ registers and both hosts' HST_ registers, a register of its own per host as that host reads it (16 R375). -/
def State.regsImage (s : State) : List Byte :=
  wordsBytes ((nums 12).map (fun i => s.devWord .a (4 * i)) ++ (nums 64).map (fun i => s.grdWord .a (4 * i)) ++
    [HostId.a, HostId.b].flatMap fun h => (nums 28).map fun i => s.hstWord h (4 * i))

/-- Whole codewords of message memory are written anew: none of them is uncorrectable any more (04 R102). -/
def MemCtl.rewritten (m : MemCtl) (first last : Nat) : MemCtl :=
  { m with bad := m.bad.filter fun b => !(b.1 == .message && decide (first ≤ b.2) && decide (b.2 < last)) }

/-- A fault writes the canvas and its summary, or counts in the ones held (16 R374). The summary goes to the keep die's
canvas lines (17 R378). -/
def State.writeCanvas (s : State) (cause writer : Nat) (f : CoreFault) : State :=
  if s.canvas.held != 0 then { s with canvas := { s.canvas with later := incSat s.canvas.later 255 } }
  else
    let c : Canvas :=
      { held := 1, header := s.canvasHeader cause writer f
        blocks := (nums 64).map fun p => wordsBytes ((nums 48).map fun i => s.chWord .a p (4 * i)) ++ zeros 64
        entries := lastOf (fun i => (s.heldEntry i).map JEntry.bytes) s.jnl.newest 256
        records := lastOf (fun i => (s.recFound i).map Prod.fst) s.rcd.newest 1024
        contexts := (nums 64).map s.contextImage, chains := s.chainsImage, irqs := s.irqImage, regs := s.regsImage
        table := s.copyNow, dense := s.dense.map Prod.snd, linked := s.link.up
        draw := s.clk.draws }
    { s with canvas := c, clk := { s.clk with draws := s.clk.draws + 1 }
             mem := s.mem.rewritten 0x940000 0x9C0000
             keep := (nums 128).foldl (fun k i => k.queueLine .f (0x280 + i) none []) s.keep }

/-- CANVAS_READY once the service firmware runs with something held (16 R374). -/
def State.canvasReady (s : State) : State := if s.canvas.held != 0 then s.raise 165 else s

/-! ## Images in chunks (13 R308) -/

/-- The open transfer of a destination. -/
def State.xfer (s : State) (d : Nat) : Option Xfer := s.cmds.xfers.find? fun x => x.dest == d

/-- What a transfer holds after a chunk, and the status of the chunk. -/
def State.chunkData (s : State) (d : Nat) (st : Stream) (c : Chunk) : Nat × List Byte :=
  let fit (data : List Byte) : Nat × List Byte := (need (decide (data.length ≤ c.total.toNat)) stBadParam, data)
  if c.offset = 0 then fit c.data
  else match s.xfer d with
    | none => (stBadParam, [])
    | some x =>
      if x.stream != st then (stNoResource, [])
      else if c.offset.toNat != x.data.length || c.total.toNat != x.total then (stBadParam, [])
      else fit (x.data ++ c.data)

/-- The chunk brings the image to its TOTAL. -/
def chunkCloses (c : Chunk) (data : List Byte) : Bool := data.length = c.total.toNat

/-- VERSION and CRC of a whole image, the closing chunk's result. -/
def imageResult (version : Nat) (b : List Byte) : List Byte := leBytes 4 version ++ p32 (crc32c b)

/-- A transfer is kept, or gone when it has closed. -/
def State.putXfer (s : State) (d : Nat) (st : Stream) (c : Chunk) (data : List Byte) : State :=
  let rest := s.cmds.xfers.filter fun x => x.dest != d
  { s with cmds := { s.cmds with
      xfers := if chunkCloses c data then rest else { dest := d, stream := st, total := c.total.toNat, data := data } :: rest } }

/-- PROFILE_STORE's outcome (13). -/
def State.storeRes (s : State) (st : Stream) (c : Chunk) : Res :=
  let (e, data) := s.chunkData c.dest.toNat st c
  if s.dev.profile = some c.dest.toNat then onlyStatus stWrongMode
  else if e != 0 then onlyStatus e
  else if !chunkCloses c data then {}
  else
    let v := s.profileStatus data
    if v != 0 then onlyStatus v else okWith (imageResult (profileVersion data) data)

/-- PROFILE_STORE: a profile that passes its checks is stored (log entry 21). -/
def State.storeDo (s : State) (st : Stream) (c : Chunk) (r : Res) : State :=
  let (e, data) := s.chunkData c.dest.toNat st c
  if s.dev.profile = some c.dest.toNat || e != 0 then s
  else
    let s1 := s.putXfer c.dest.toNat st c data
    if chunkCloses c data && r.status = 0 then
      { s1 with fw := { s1.fw with profiles := s1.fw.profiles.put c.dest.toNat data } }.norMove .f .norProgram data.length
    else s1.imageRefused (0x10 + c.dest.toNat) r.status (profileVersion data) (s.preg 0x043).toNat

/-- FW_STAGE's outcome (13, 16 R357). -/
def State.stageRes (s : State) (st : Stream) (c : Chunk) : Res :=
  let p := c.dest.toNat
  let (e, data) := s.chunkData (8 + p) st c
  if partMax p < c.total.toNat then onlyStatus stNoResource
  else if e != 0 then onlyStatus e
  else if chunkCloses c data then okWith (imageResult (fwVersion data) data) else {}

/-- A part's standby slot takes an image, or is emptied. -/
def State.putStandby (s : State) (p : Nat) (b : Option (List Byte)) (st : Nat) : State :=
  s.modPart p fun v => { v with slots := v.slots.set (1 - s.fwSlot p) b, standby := st, copy := none }

/-- FW_STAGE (16 R364). The chunk is programmed into the NOR over keep link `l`. -/
def State.stageDo (s : State) (l : KeepLink) (st : Stream) (c : Chunk) (r : Res) : State :=
  if r.status != 0 then s
  else
    let p := c.dest.toNat
    let (_, data) := s.chunkData (8 + p) st c
    let s1 := if c.offset = 0 then s.putStandby p none 0 else s
    let s2 := (s1.putXfer (8 + p) st c data).norMove l .norProgram c.data.length
    if chunkCloses c data then s2.putStandby p (some data) 1 else s2

/-- FW_VERIFY's outcome (13, 16 R359, R360). -/
def State.verifyRes (s : State) (p : Nat) : Res :=
  match (s.part p).image (1 - s.fwSlot p) with
  | none => onlyStatus stWrongMode
  | some b => if (s.part p).standby = 0 then onlyStatus stWrongMode
    else
      let e := s.fwStatusOf p b
      if e != 0 then onlyStatus e else okWith (leBytes 4 (fwVersion b))

/-- The bytes of a part's image in slot `k`. -/
def State.imageBytes (s : State) (p k : Nat) : Nat := (((s.part p).image k).getD []).length

/-- FW_VERIFY (16 R364). The standby image is read over keep link `l`, and copied into the standby SRAM slot but for Amioc's. -/
def State.verifyDo (s : State) (l : KeepLink) (p : Nat) (r : Res) : State :=
  if r.status = stWrongMode then s
  else
    let k := 1 - s.fwSlot p
    ((s.norMove l .norRead (s.imageBytes p k)).modPart p fun v =>
      { v with standby := if r.status = 0 then 2 else 3, copy := if p = 2 then none else v.image k }).imageRefused p r.status
        (s.standbyVersion p) (s.fwCounter p)

end Sys2Proof.Machine
end

