-- ==== Sys2Proof/Machine/Action.lean ====
section
/-! DEFINITION. Actions: what each comes to on the state it is executed in, and its effect (12 R275, 13). The outcome is
computed alone, so that a dry run gives it without the effect. -/

namespace Sys2Proof.Machine

/-- The host a stream belongs to; host A where it has none. -/
def streamSide (st : Stream) : HostId := (streamHost st).getD .a

/-! ## Power limits (13 PWR_LIMITS, 18 R426) -/

/-- The values lie within the bounds of register 0x101: TRIP_MAX, ILIM_MAX, TRIP_MIN, ILIM_MIN (18 R426). -/
def State.limitsOk (s : State) (ilim tripQ : Nat) : Bool :=
  let b := s.preg 0x101
  decide (bits b 10 0 ≤ ilim) && decide (ilim ≤ bits b 26 16) && decide (bits b 15 11 ≤ tripQ) && decide (tripQ ≤ bits b 31 27)

/-- Register 0x100's image of the settings. -/
def limitsWord (ilim tripQ retries : Nat) : Word := image [(24, retries), (16, tripQ), (0, ilim)]

/-- The settings are kept in register 0x100 and sent to the power die, or held while the link is down (18 R426, 01 R9). -/
def State.setLimits (s : State) (w : Word) : State :=
  let s1 := s.setPreg 0x100 w none
  if s1.link.up then { s1 with pwr := { s1.pwr with limits := w } }
  else { s1 with pwr := { s1.pwr with heldLimits := some w } }

/-! ## Recorder clear (13, 17 R395) -/

/-- The newest record's number as REC_NONCE gives it. -/
def State.newestRseq (s : State) : Word := s.rcd.newest.getD 0xFFFFFFFF#32

/-- REC_NONCE's outcome. -/
def State.nonceRes (s : State) : Res :=
  okWith (leBytes 8 s.serial ++ p32 s.newestRseq ++ zeros 4 ++ p64 (Config.nonce s.clk.draws))

/-- REC_NONCE: the stream's latest nonce. -/
def State.nonceDo (s : State) (st : Stream) : State :=
  let v := Config.nonce s.clk.draws
  let s1 := s.modStream st fun x => { x with nonce := some v }
  { s1 with clk := { s1.clk with draws := s1.clk.draws + 1 } }

/-- How many records a clear up to `r` makes absent. -/
def State.clearedCount (s : State) (r : Word) : Nat := (seqDiff r s.recOldest + 1).toNat

/-- The recorder-clear public key of registers 0x090-0x09F: x then y, big-endian (17 R382). -/
def State.clearKey (s : State) : List Byte := (nums 16).flatMap fun i => (wordBytes (s.preg (0x090 + i))).reverse

/-- The 20 bytes that the holder of the key signs: SERIAL, RSEQ and NONCE, little-endian (17 R395). -/
def State.clearMessage (s : State) (r : Word) (nonce : BitVec 64) : List Byte :=
  leBytes 8 s.serial ++ leBytes 4 r.toNat ++ leBytes 8 nonce.toNat

/-- REC_CLEAR's outcome: the nonce and RSEQ, then the signature. -/
def State.clearRes (s : State) (st : Stream) (r : Word) (nonce : BitVec 64) (sig : List Byte) : Res :=
  if (s.stream st).nonce != some nonce || s.rcd.newest != some r then onlyStatus stNotAuth
  else if !signatureValid s.clearKey (s.clearMessage r nonce) sig then onlyStatus stSignature
  else okWith (leBytes 4 (s.clearedCount r) ++ p32 (r + 1))

/-- REC_CLEAR: an attempt uses up the nonce. CLEAR_FLOOR becomes RSEQ, register 0x0F2 counts, and RECORDER_CLEARED is the
first record above the floor (17 R395). -/
def State.clearDo (s : State) (st : Stream) (r : Word) (ok : Bool) : State :=
  let n := s.clearedCount r
  let s1 := s.modStream st fun x => { x with nonce := none }
  if !ok then s1
  else
    let s2 := s1.setPregs 0x0F1 [(0x0F1, r), (0x0F2, s1.preg 0x0F2 + 1)] none
    s2.refreshRec.writeRecord { code := 0x0905, source := streamNum st, sev := 2, d0 := n, d1 := r.toNat,
                                time := s.clk.plant.toNat, at_us := s.us }

/-! ## Ports -/

/-- PORT_RECOVER and PORT_RELEASE when they act (13 R300, 07 R154, R159). -/
def State.recoverStatus (s : State) (p : Nat) : Nat := need ((s.port p).stat.state = .busOff) stWrongMode
def State.releaseStatus (s : State) (p : Nat) : Nat := need (s.port p).err.quarantined stWrongMode

def State.recoverDo (s : State) (p : Nat) : State := s.modPort p PortS.startRecovery

/-- Quarantine ends: the stored entry times are cleared, and a port in GAUZE integrates unless another cause holds it (07
R159). -/
def State.releaseDo (s : State) (p : Nat) : State :=
  (s.modPort p fun v => { v with err := { v.err with quarantined := false, entries := [] } }).dropCause p 2

/-! ## The outcome of an action -/

/-- What an action comes to on the state it is executed in (13); OK without a result for what is no action. -/
def State.actionRes (s : State) (k : Packet) : Params → Res
  | .portRecover _ => onlyStatus (s.recoverStatus k.target)
  | .portRelease _ => onlyStatus (s.releaseStatus k.target)
  | .portRemap op =>
    let st := s.remapStatus k.target op.toNat
    if st != 0 then onlyStatus st else okWith (remapResult k.target op.toNat)
  | .ringRearm =>
    let x := (s.host (streamSide k.stream)).cring
    if x.stopped then okWith (p32 x.head) else onlyStatus stWrongMode
  | .profileStore c => s.storeRes k.stream c
  | .recNonce => s.nonceRes
  | .recClear r n sg => s.clearRes k.stream r n sg
  | .pwrLimits i t _ => onlyStatus (need (s.limitsOk i.toNat t.toNat) stNotAuth)
  | .fldRestore => onlyStatus (need (s.fld.state = .uv && decide (1920 ≤ s.fld.volts)) stWrongMode)
  | .fwStage c => s.stageRes k.stream c
  | .fwVerify p => s.verifyRes p.toNat
  | .canvasRelease => onlyStatus (need (s.canvas.held != 0) stWrongMode)
  | _ => {}

/-- The effect of an action whose outcome on this state is `r`. -/
def State.actionDo (s : State) (k : Packet) (r : Res) : Params → State
  | .hbPeriod n =>
    s.modHost (if k.target = 0 then .a else .b) fun x => { x with period := n.toNat, lastBeat := s.us }
  | .portRecover _ => if r.status = 0 then s.recoverDo k.target else s
  | .portRelease _ => if r.status = 0 then s.releaseDo k.target else s
  | .portRemap op =>
    if r.status != 0 then s.requestRefused k.stream 4
    else
      let e := remapEngine k.target op.toNat
      if (s.port k.target).engine = e && (s.port k.target).stat.remap.isNone then s else s.startRemap k.target e
  | .ringRearm =>
    if r.status != 0 then s
    else s.modHost (streamSide k.stream) fun x => { x with cring := { x.cring with stopped := false, stopCause := 0 } }
  | .profileStore c => s.storeDo k.stream c r
  | .pregWrite i vs =>
    forAll (fun (e : Nat × Word) s => s.setPreg e.1 e.2 none) ((numsFrom i.toNat vs.length).zip vs) s
  | .recNonce => s.nonceDo k.stream
  | .recClear n _ _ =>
    let s1 := s.clearDo k.stream n (r.status = 0)
    if r.status != 0 then s1.requestRefused k.stream 9 else s1
  | .pwrLimits i t n =>
    if r.status != 0 then s.requestRefused k.stream 2 else s.setLimits (limitsWord i.toNat t.toNat n.toNat)
  | .fldRestore => if r.status = 0 then s.fldRestored else s
  | .fwStage c => s.stageDo .f k.stream c r
  | .fwVerify p => s.verifyDo .f p.toNat r
  | .canvasRelease => if r.status = 0 then { s with canvas := {} } else s
  | .intPrioSet f ps => forAll (fun (e : Nat × Byte) s => s.setPrio e.1 e.2.toNat) ((numsFrom f.toNat ps.length).zip ps) s
  | .intModSet m => s.setMod k.target m.toNat
  | _ => s

/-- What begins once the reply has been written: 1 DEV_RESET, 16 + WAKE SLEEP (13 R299). -/
def actionAfter : Params → Nat
  | .devReset _ => 1
  | .sleep w => 16 + w.toNat
  | _ => 0

/-- The action's outcome is not final when it is executed: a remap that waits for the port's bus (16 R369). -/
def State.actionWaits (s : State) (k : Packet) : Params → Bool
  | .portRemap _ => (s.port k.target).stat.remap.isSome
  | _ => false

end Sys2Proof.Machine
end

