-- ==== Sys2Proof/Machine/Settle.lean ====
section
/-! DEFINITION. Commands on their way: the tests when one is taken, sequence numbers and replay, dry runs, scheduling,
compilation and the commit point (12 R271-R286, R457, 13 R291). -/

namespace Sys2Proof.Machine

/-! ## Windows of commands (12 R278, R279) -/

/-- A window comes before another. -/
def before (a b : Word × Nat) : Bool := decide (seqDiff a.1 b.1 < 0) || (a.1 == b.1 && decide (a.2 < b.2))

/-- The window that has begun last. -/
def State.begunWin (s : State) : Word × Nat := if s.trk2.startDue then (s.trk.cycle, 0) else (s.trk.cycle, s.trk.win)

/-- The window has passed: its cycle's signed difference from CYCLE_COUNT is negative, or it has begun (12 R279). -/
def State.passed (s : State) (k : Word × Nat) : Bool :=
  decide (seqDiff k.1 s.begunWin.1 < 0) || (k.1 == s.begunWin.1 && decide (k.2 ≤ s.begunWin.2))

/-- The commit point of the window has passed (12 R279). -/
def State.tooLate (s : State) (k : Word × Nat) : Bool := s.passed k || (s.cmds.committed && k == s.upcoming)

/-- Commands whose effective window is window 0 (13, EW (window 0)). -/
def windowZero (op : Nat) : Bool := op = 0x0104 || (decide (0x0401 ≤ op) && decide (op ≤ 0x0404))

/-- The cycle settings of cycle `c`, but for changes that commands are scheduled to make: those due at the next window 0, from the
next cycle on (08 R177). -/
def State.cycleAt (s : State) (c : Word) : CycCfg :=
  if decide (0 < seqDiff c s.begunWin.1) then s.trk2.dueCyc.getD s.trk.cfg else s.trk.cfg

/-- The first window whose commit point is still ahead, for an opcode (12 R278). -/
def State.asapWin (s : State) (op : Nat) : Word × Nat :=
  let u := s.upcoming
  let f := if s.cmds.committed then nextWin (s.cycleAt u.1).winCount u.1 u.2 else u
  if windowZero op && f.2 != 0 then (f.1 + 1, 0) else f

/-- The WIN_COUNT that a command would set: CYC_WINDOWS, or PROFILE_LOAD by its packets or the default settings (08 R177, 15 R340). -/
def State.countOf (s : State) (k : Packet) : Option Nat :=
  match k.params with
  | some (.cycWindows _ _ n _) => some n.toNat
  | some (.profileLoad _ n) =>
    some ((((s.profileImage n.toNat).bind profilePackets).getD []).foldl (fun c q => match q.params with
      | some (.cycWindows _ _ m _) => m.toNat
      | _ => c) s.defaultCyc.winCount)
  | _ => none

/-- WIN_COUNT changes at a cycle: by settings due at its start, or at or before it by a command that is scheduled with another count
than that in force (12 R278). -/
def State.countChanges (s : State) (c : Word) : Bool :=
  let n := (s.cycleAt c).winCount
  (c == s.begunWin.1 + 1 && n != s.trk.cfg.winCount) || s.cmds.sched.any fun x =>
    (match s.countOf x.pkt with | some m => m != n | none => false) && (!x.placed || decide (seqDiff x.cycle c ≤ 0))

/-- A command of the same key is scheduled for the window by the same stream (12 R280). -/
def State.duplicate (s : State) (k : Packet) (w : Word × Nat) : Bool :=
  s.cmds.sched.any fun x => x.pkt.stream = k.stream && x.pkt.opcode = k.opcode && x.pkt.target = k.target &&
    x.placed && (x.cycle, x.win) == w

/-- The effective window's tests when a command is taken: BAD_PARAM, WRONG_MODE, LATE (12 R278-R280). -/
def State.windowTest (s : State) (k : Packet) (e : EW) : Nat :=
  let w := (e.cycle, e.win.toNat)
  if e.asap then need (!s.gated) stWrongMode
  else
    firstOf [need (!decide (64 < seqDiff e.cycle s.trk.cycle)) stBadParam,
      need (decide (w.2 < (s.cycleAt w.1).winCount) || (decide (w.2 < 64) && s.countChanges w.1)) stBadParam,
      need (!windowZero k.opcode || w.2 = 0) stBadParam, need (!s.duplicate k w) stBadParam, need (!s.tooLate w) stLate]

/-! ## The tests at taking (12 R457, 13 R291-R293) -/

/-- The class a command has now: PORT_RECOVER and PORT_RELEASE are configuration commands where CFG_POLICY applies, and
actions elsewhere (13 R300). -/
def State.classNow (s : State) (op : Nat) : Cls :=
  match opClass op with
  | some .dual => if s.gated then .config else .action
  | some c => c
  | none => .query

/-- Objects a command configures. -/
def objectsOf (k : Packet) : List Nat :=
  match k.params with
  | some (.objConfig _ _) => [k.target]
  | some (.objConfigN _ rs) => rs.map fun r => r.obj.toNat
  | _ => []

/-- Every test made when a command is taken, for a class (12 R457); a dry run makes them too. -/
def State.takeTest (s : State) (k : Packet) (c : Cls) : Res :=
  match k.params with
  | none => onlyStatus stBadParam
  | some p =>
    let host := (streamHost k.stream).isSome
    let plain := firstOf [need (k.bad != stHwFault) stHwFault, need (opModeOk k.opcode s.dev.mode) stWrongMode, need (targetOk k.opcode k.target) stBadTarget,
      need (c != .config || host || !s.gated) stWrongMode,
      need (!(objectsOf k).any s.mappedObject || k.stream = .intern) stWrongMode, packetTest k p,
      need (c != .action || (opClass k.opcode != some .dual) || zeroAt k.bytes 0 8) stBadParam]
    if plain != 0 then { status := plain, result := refusalResult p }
    else match c, Params.ew p with
      | .config, some e => onlyStatus (s.windowTest k e)
      | _, _ => {}

/-- The window a journal entry of a packet names: its effective window, or the window of execution (17 R397). -/
def State.entryWin (s : State) (k : Packet) (c : Cls) : Word × Nat :=
  if c = .config then (if 8 ≤ k.bytes.length then (b32 k.bytes 0, u8At k.bytes 4) else (0, 0)) else (s.trk.cycle, s.trk.win)

/-- ASAP as the packet asks for it. -/
def asksAsap (k : Packet) (c : Cls) : Bool := c = .config && (match k.params with
  | some p => (match Params.ew p with | some e => e.asap | none => false)
  | none => false)

/-! ## Sequence numbers and replay (12 R281, R282) -/

/-- The newest entry of a stream's command number. -/
def State.entryOf (s : State) (st : Stream) (seq : Word) : Option JEntry :=
  (s.jnl.ring.filter fun e => e.2.stream = st && e.2.cmdSeq = seq).foldl (fun (b : Option JEntry) e =>
    match b with
    | none => some e.2
    | some x => some (if 0 < seqDiff e.2.jseq x.jseq then e.2 else x)) none

/-- The command of a stream and number whose outcome is not final. -/
def State.openCommand (s : State) (st : Stream) (seq : Word) : Option Sched :=
  (s.cmds.sched ++ s.cmds.actions).find? fun x => x.pkt.stream = st && x.pkt.seq = seq

/-- A replay is answered: OK_REPLAYED, or BUSY where its reply path is gone (12 R282, R277). -/
def State.replay (s : State) (k : Packet) (e : JEntry) : State :=
  let o := s.openCommand k.stream k.seq
  let dead := match o with | some x => x.noReply || x.pkt.dead | none => false
  if k.dead then s
  else if dead && k.path = .fifo then s.answerPacket k (onlyStatus stBusy)
  else
    s.sendReply { stream := k.stream, path := k.path, opcode := k.opcode, status := stReplayed, seq := k.seq, jidx := jnlSlot e.jseq,
                  result := leBytes 2 e.status ++ leBytes 1 (flag o.isNone) ++ zeros 1 ++ p32 e.jseq ++ p32 e.effCycle
                  credit := false }

/-- SEQ_OUT_OF_ORDER with NEXT_SEQ (12 R277). -/
def State.outOfOrder (s : State) (k : Packet) (next : Word) : State :=
  s.answerPacket k { status := stSeq, result := p32 next }

/-! ## Taking (12 R273, R283) -/

/-- A taken command is refused at once: its entry carries the status, and the reply follows. -/
def State.refuse (s : State) (k : Packet) (c : Cls) (r : Res) : State :=
  let w := s.entryWin k c
  let s1 := s.enter k r.status (4 * flag (asksAsap k c)) w.1 w.2
  let s2 := if r.status = stNotAuth && k.opcode = 0x0701 then s1.requestRefused k.stream 1 else s1
  s2.replyTaken k s1.lastEntry r false 0

/-- An action is executed; its entry carries the status it gets (12 R275, R283). -/
def State.runAction (s : State) (k : Packet) (p : Params) : State :=
  let r := s.actionRes k p
  let s1 := s.enter k r.status 0 s.trk.cycle s.trk.win
  let j := s1.lastEntry
  let s2 := s1.actionDo k r p
  if r.status = 0 && s2.actionWaits k p then
    { s2 with cmds := { s2.cmds with actions := s2.cmds.actions ++
        [{ pkt := k, jseq := j, cycle := s.trk.cycle, win := s.trk.win, result := r.result }] } }
  else s2.replyTaken k j r false (if r.status = 0 then actionAfter p else 0)

/-- A configuration command is scheduled; a direct table counts as written from its taking (12 R283, 13 R303), and a profile's
image is read over keep link F (01 R7). -/
def State.schedule (s : State) (k : Packet) (e : EW) : State :=
  let s1 := s.enter k 0 (1 + 4 * flag e.asap) e.cycle e.win.toNat
  let x : Sched := { pkt := k, jseq := s1.lastEntry, cycle := e.cycle, win := e.win.toNat, asap := e.asap }
  let w := if k.opcode = 0x0302 && !e.asap then [(k.target, some (e.cycle, e.win.toNat))] else []
  let s2 : State := { s1 with cmds := { s1.cmds with sched := s1.cmds.sched ++ [x], written := s1.cmds.written ++ w } }
  match k.params with
  | some (.profileLoad _ n) => s2.norMove .f .norRead ((s2.profileImage n.toNat).getD []).length
  | _ => s2

/-- A command is taken: it consumes SEQ and holds a credit (12 R273, R275). -/
def State.take (s : State) (k : Packet) (c : Cls) : State :=
  let s1 := s.modStream k.stream fun x => { x with nextSeq := some (k.seq + 1), credits := x.credits + 1 }
  let r := s1.takeTest k c
  if r.status != 0 then s1.refuse k c r
  else
    match k.params with
    | none => s1
    | some p =>
      match c, Params.ew p with
      | .config, some e => s1.schedule k e
      | _, _ => s1.runAction k p

/-- The sequence check of a command that is to be taken (12 R281). -/
def State.sequence (s : State) (k : Packet) (c : Cls) : State :=
  match (s.stream k.stream).nextSeq with
  | none => s.take k c
  | some n =>
    if n = k.seq then s.take k c
    else if 0 < seqDiff n k.seq then
      match s.entryOf k.stream k.seq with
      | some e => if e.opcode = k.opcode && e.target = k.target && e.pcrc == crc32c k.bytes then s.replay k e
                  else s.outOfOrder k n
      | none => s.outOfOrder k n
    else s.outOfOrder k n

/-! ## Settling a window (12 R285, R286) -/

/-- DISAGREED's result (12 R277). -/
def disagreed (reason off : Nat) : Res := { status := stDisagreed, result := leBytes 1 reason ++ zeros 3 ++ leBytes 4 off }

/-- The first byte at which two parameter blocks differ, counted from `i`. -/
def paramDiff : Nat → List Byte → List Byte → Option Nat
  | _, [], [] => none
  | i, a :: as, b :: bs => if a = b then paramDiff (i + 1) as bs else some i
  | i, _, _ => some i

/-- Commands to apply, each with its equal copies, and commands refused. -/
structure Settled where
  apply  : List (Sched × List Sched) := []
  refuse : List (Sched × Res) := []

/-- One key with its copies of both hosts (12 R286). -/
def settleKey (policy : Nat) (lead : Stream) (counting : List Stream) (cs : List Sched) : Settled :=
  let out := (cs.filter fun x => !counting.contains x.pkt.stream).map fun x => (x, disagreed 2 0)
  let ins := cs.filter fun x => counting.contains x.pkt.stream
  match ins.filter (fun x => x.pkt.stream = lead) ++ ins.filter (fun x => x.pkt.stream != lead) with
  | [] => { refuse := out }
  | [x] =>
    if counting.length = 1 || policy = 0 || (policy = 1 && x.pkt.stream = lead) then { apply := [(x, [])], refuse := out }
    else { refuse := (x, disagreed 2 0) :: out }
  | x :: y :: _ =>
    match paramDiff 0 x.pkt.bytes y.pkt.bytes with
    | none => { apply := [(x, [y])], refuse := out }
    | some d =>
      if policy = 2 then { refuse := (x, disagreed 1 d) :: (y, disagreed 1 d) :: out }
      else { apply := [(x, [])], refuse := (y, disagreed 1 d) :: out }

/-- Ring commands and the commands of streams without a host never form pairs (12 R285, 13 R307). -/
def pairs_ (x : Sched) : Bool :=
  (streamHost x.pkt.stream).isSome && !(decide (0x0501 ≤ x.pkt.opcode) && decide (x.pkt.opcode ≤ 0x0504))

def keyOf (x : Sched) : Nat := x.pkt.opcode * 65536 + x.pkt.target

/-- The hosts that count: those that are LIVE, or both when neither is (12 R286). -/
def State.counting (s : State) : List Stream :=
  match s.live .a, s.live .b with
  | true, false => [.hostA]
  | false, true => [.hostB]
  | _, _ => [.hostA, .hostB]

/-- Every key of a window. -/
def State.settleAll (s : State) (xs : List Sched) : Settled :=
  let two := xs.filter pairs_
  let keys := two.foldl (fun l x => insertNat (keyOf x) l) []
  let rs := keys.map fun k => settleKey s.policy (hostStream s.dev.lead) s.counting (two.filter fun x => keyOf x = k)
  { apply := sortBy (fun (g : Sched × List Sched) => orderKey g.1.pkt)
      ((xs.filter fun x => !pairs_ x).map (fun x => (x, [])) ++ rs.flatMap Settled.apply)
    refuse := rs.flatMap Settled.refuse }

/-- Direct tables written by a command taken for a window at or before `w` (13 R303). -/
def State.tablesAt (s : State) (w : Word × Nat) : List Nat :=
  (s.cmds.written.filter fun e => match e.2 with | some v => !before w v | none => true).map Prod.fst

/-- Window `w` has come: what was taken for it, or for one before it, counts as written whatever the cycle count does next. -/
def State.comeWritten (s : State) (w : Word × Nat) : State :=
  { s with cmds := { s.cmds with written := s.cmds.written.map fun e =>
      (e.1, match e.2 with | some v => if before w v then some v else none | none => none) } }

/-! ## Tests at the boundary (15 R333-R345, 19 R438) -/

/-- The tracker was LOCKED or FREE before this boundary (15 R339). -/
def State.steady (s : State) : Bool :=
  (s.trk.state = .locked || s.trk.state = .free) && decide (s.trk2.since < s.clk.ticks)

/-- DI4 as this boundary samples it (15 R345). -/
def State.di4 (s : State) : Bool := s.fld.frameDi.getLsbD 4

/-- An object of a mapped channel is enabled in the configuration: no slot, but an object of its own (15 R335). -/
def State.foreignObject (s : State) : Bool :=
  s.objs.any fun e => e.2.en && decide (slotBase ≤ e.1) && (s.twd.portOf ((e.1 - slotBase) / 32)).isSome && (s.slotOf e.1).isNone

/-- TWEED may be entered: a channel is mapped, and no object of a mapped channel is enabled (15 R335). -/
def State.tweedOk (s : State) : Bool := (nums 16).any (fun c => (s.twd.portOf c).isSome) && !s.settled.foreignObject

/-- MODE_SET may take effect at this boundary (15 R333, R335, R339, R345). -/
def State.modeSetOk (s : State) (m : Mode) : Bool :=
  let old := s.dev.mode
  if old = .config && m = .config then true
  else if old = .config && s.dev.cfgFromStart && !s.steady then false
  else if m = .service then (old = .config || old = .hold || old = .service) && s.di4
  else if old = .service then m = .config
  else if m = .tweed && old != .tweed then s.tweedOk
  else old.isRun || old = .config || old = .hold

/-- A DO_SET would switch an output on (19 R438). -/
def State.switchesOn (s : State) (mask value : Byte) : Bool :=
  (nums 4).any fun o => mask.getLsbD o && value.getLsbD o && !(s.fld.output o).cmd

/-- DO_SET at its boundary: in UV one that switches an output on is refused (19 R438). -/
def State.doSetStatus (s : State) (mask value : Byte) : Nat :=
  need (!(s.fld.state = .uv && s.switchesOn mask value)) stWrongMode

/-- The status of a command's own test at its boundary, for those that have one. -/
def State.boundaryStatus (s : State) (k : Packet) : Nat :=
  match k.params with
  | some (.modeSet _ m) => need (s.modeSetOk ((Mode.ofCode m.toNat).getD s.dev.mode)) stWrongMode
  | some (.doSet _ m v) => s.doSetStatus m v
  | some (.portRecover _) => s.recoverStatus k.target
  | some (.portRelease _) => s.releaseStatus k.target
  | _ => 0

/-! ## Dry runs (12 R275, R457) -/

/-- The scheduled commands of a window. -/
def State.commandsAt (s : State) (w : Word × Nat) : List Sched :=
  s.cmds.sched.filter fun x => x.placed && (x.cycle, x.win) == w

/-- One packet for each key of a list. -/
def onePerKey : List Nat → List Packet → List Packet
  | _, [] => []
  | seen, k :: ks =>
    let o := k.opcode * 65536 + k.target
    if seen.contains o then onePerKey seen ks else k :: onePerKey (o :: seen) ks

/-- The packets of a window in the order of 12 R280. -/
def State.packetsAt (s : State) (w : Word × Nat) : List Packet :=
  onePerKey [] (sortBy orderKey ((s.commandsAt w).map fun x => x.pkt))

/-- The packets numbered. -/
def numbered (ks : List Packet) : List (Nat × Packet) := (nums ks.length).zip ks

/-- The commands of a window that pass, in their order. -/
def passing (rs : List (Nat × Packet × Res)) : List (Nat × Packet) :=
  (rs.filter fun x => x.2.2.status = 0).map fun x => (x.1, x.2.1)

/-- What acts once at a boundary, as far as later tests see it: the mode changes among the commands, in turn. -/
def State.actsOf (s : State) (ks : List (Nat × Packet)) : State :=
  ks.foldl (fun (t : State) x => match x.2.params with
    | some (.modeSet _ m) => if t.boundaryStatus x.2 = 0 then { t with dev := { t.dev with mode := (Mode.ofCode m.toNat).getD t.dev.mode } } else t
    | _ => t) s

/-- The state in which the commands scheduled for a window would have been applied; cycle settings that were due have taken effect by
a later cycle. -/
def State.foresee (s : State) (w : Word × Nat) : State :=
  let ks := s.packetsAt w
  let good := passing (s.settleTrials (s.tablesAt w) (ks.length + 1) (numbered ks))
  let t := ((s.draft.addAll good).1.st).actsOf good
  if w.2 = 0 || decide (0 < seqDiff w.1 s.begunWin.1) then { t with trk2 := { t.trk2 with dueCyc := none } }
  else { t with trk := { t.trk with cfg := s.trk.cfg } }

/-- Inserts a window in time order. -/
def insertWin (w : Word × Nat) : List (Word × Nat) → List (Word × Nat)
  | [] => [w]
  | v :: t => if v = w then v :: t else if before w v then w :: v :: t else v :: insertWin w t

/-- The windows before `w` that have commands. -/
def State.windowsBefore (s : State) (w : Word × Nat) : List (Word × Nat) :=
  (s.cmds.sched.filter fun x => x.placed && before (x.cycle, x.win) w).foldl
    (fun l x => insertWin (x.cycle, x.win) l) []

/-- A packet whose window ASAP chose: what a profile may change depends on the window it gets (15 R340). -/
def Packet.placedAt (k : Packet) (w : Word × Nat) : Packet :=
  match k.params with
  | some (.profileLoad e n) => { k with params := some (.profileLoad { e with cycle := w.1, win := BitVec.ofNat 8 w.2 } n) }
  | _ => k

/-- A configuration command checked against the configuration as then scheduled for its window, with the window's other commands and
at its own turn among them (12 R275, R280, R457). -/
def State.dryConfig (s : State) (k0 : Packet) (e : EW) : Res :=
  let w := if e.asap then s.asapWin k0.opcode else (e.cycle, e.win.toNat)
  let k := if e.asap then k0.placedAt w else k0
  let base := forAll (fun v (s : State) => s.foresee v) (s.windowsBefore w) s
  if (base.cycleAt w.1).winCount ≤ w.2 || s.duplicate k w then onlyStatus stBadParam
  else
    let others := (s.packetsAt w).filter fun x => !(x.opcode = k.opcode && x.target = k.target)
    let ks := sortBy (fun (x : Nat × Packet) => orderKey x.2) ((0, k) :: (numsFrom 1 others.length).zip others)
    let tables := s.tablesAt w ++ (if k.opcode = 0x0302 then [k.target] else [])
    let rs := base.settleTrials tables (ks.length + 1) ks
    let good := passing rs
    let at_ := ((base.draft.addAll good).1.st).actsOf (good.takeWhile fun x => x.1 != 0)
    match rs.find? fun x => x.1 = 0 with
    | some x => if x.2.2.status != 0 then x.2.2
      else match at_.boundaryStatus k with | 0 => x.2.2 | st => onlyStatus st
    | none => {}

/-- What a query or a dry run answers (12 R275). -/
def State.look (s : State) (k : Packet) (c : Cls) : Res :=
  let t := s.takeTest k c
  if t.status != 0 then t
  else match k.params with
    | none => onlyStatus stBadParam
    | some p =>
      match s.query k p with
      | some r => r
      | none =>
        match c, Params.ew p with
        | .config, some e => s.dryConfig k e
        | _, _ => s.actionRes k p

/-! ## Arrival (12 R273, R277, 13 R291) -/

/-- A host's credits are all held (12 R273). -/
def State.noCredit (s : State) (st : Stream) : Bool := (streamHost st).isSome && decide (32 ≤ (s.stream st).credits)

/-- The result of the command is too long for its path (13 R296). -/
def tooLongResult (k : Packet) : Bool :=
  k.path = .fifo && (match k.params with | some p => decide (240 < resultLen p) | none => false)

/-- A packet is executed or taken: packet refusals first, then the classes (12 R273-R277). -/
def State.process (s : State) (k : Packet) : State :=
  let c := s.classNow k.opcode
  if k.bad != 0 && k.bad != stHwFault then s.answerPacket k (onlyStatus k.bad)
  else if (opClass k.opcode).isNone then s.answerPacket k (onlyStatus stBadOpcode)
  else if tooLongResult k then s.answerPacket k (onlyStatus stBadLength)
  else if s.noCredit k.stream then s.answerPacket k (onlyStatus stBusy)
  else if c = .query || k.dry then
    let r := s.look k c
    (s.queryDo k r).answerPacket k r
  else if s.keep.down then s.answerPacket k (onlyStatus stPersist)
  else s.sequence k c

/-- Commands of a stream are taken now (13 R291, 11 R262). -/
def State.canTake (s : State) (st : Stream) : Bool :=
  s.run.svc && s.dev.mode.takes &&
    (match streamHost st with | some h => decide ((s.host h).replies.length < 64) | none => true)

/-- The packet can be executed now: while Buckram is cut over its commits wait, and with them every command that the journal gets;
queries and dry runs do not (16 R365). -/
def State.mayTake (s : State) (k : Packet) : Bool :=
  s.canTake k.stream && ((s.part 0).cutover.isNone || k.dry || opClass k.opcode == some .query)

/-- The whole packets at the front of a chain; `n` bounds them. -/
def wholePackets : Nat → List Word → Nat
  | 0, _ => 0
  | n + 1, ws => match headPacket ws with
    | some (_, rest) => wholePackets n rest + 1
    | none => 0

/-- Whole packets of the command chain of a packet's host, which a packet of the FIFO path follows (12 R272). -/
def State.chainAhead (s : State) (k : Packet) : Nat :=
  match streamHost k.stream with
  | some h => if k.path = .fifo then wholePackets 16 (s.host h).cmd.words else 0
  | none => 0

/-- A packet that waits is next to it in its path: each path is taken in its own order (12 R272). -/
def State.waitsBefore (s : State) (k : Packet) : Bool :=
  decide (0 < s.chainAhead k) || s.cmds.waiting.any fun x => x.stream == k.stream && x.path == k.path

/-- A packet reaches staging: it is executed, or waits (13 R291). -/
def State.acceptPacket (s : State) (k : Packet) : State :=
  if s.mayTake k && !s.waitsBefore k then s.process k
  else { s with cmds := { s.cmds with waiting := s.cmds.waiting ++ [{ k with behind := s.chainAhead k }] } }

/-- Amioc's oldest request is put into its mailbox when that is empty (12 R287). -/
def State.sendIn (s : State) : State :=
  if s.link.mailIn.isEmpty && !s.link.askIn.isEmpty then { s with link := { s.link with mailIn := [mailPacket s.clk.ticks] } } else s

/-- The frame die takes the request out of the mailbox while it takes commands. -/
def State.takeIn (s : State) : State :=
  let s1 := { s with link := { s.link with mailIn := [], askIn := s.link.askIn.drop 1 } }
  if !s.link.up || s.link.mailIn.isEmpty || !s.canTake .mgmt then s
  else match s.link.askIn with
    | [] => s1
    | k :: _ => if s.mayTake k then s1.process k else s

/-- Requests pass through the mailbox one after another, `n` at most; one that the mailbox has lost holds them up. -/
def State.passIn (s : State) : Nat → State
  | 0 => s
  | n + 1 => if s.link.mailIn.isEmpty then s else State.passIn s.takeIn.sendIn n

/-- A packet of the management port goes to the frame die through Amioc's mailbox (19 R440). -/
def State.mailPacket (s : State) (k : Packet) : State :=
  let s1 := { s with link := { s.link with askIn := s.link.askIn ++ [k] } }
  if s.link.askIn.isEmpty then s1.sendIn.takeIn else s1

/-- The first packet of the FIFO path that waits for a host. -/
def State.firstFifo (s : State) (h : HostId) : Option Nat :=
  s.cmds.waiting.findIdx? fun k => k.stream == hostStream h && k.path == .fifo

/-- The packets that wait on the host's FIFO path are behind `d` packets less of its chain. -/
def State.lessBehind (s : State) (h : HostId) (d : Nat) : State :=
  let less (k : Packet) : Packet := if k.stream == hostStream h && k.path == .fifo then { k with behind := k.behind - d } else k
  { s with cmds := { s.cmds with waiting := s.cmds.waiting.map less } }

/-- The packet at the head of a host's chain is taken once it is whole and can be. -/
def State.takeChain (s : State) (h : HostId) : Option State :=
  match headPacket (s.host h).cmd.words with
  | none => none
  | some (p, rest) =>
    let k := packetOf (hostStream h) .fifo p
    if s.mayTake k then
      some (((s.modHost h fun x => { x with cmd := { x.cmd with words := rest } }).lessBehind h 1).process k)
    else none

/-- The next packet of a host's FIFO path, of the chain or of those that wait, is taken; none where it cannot be (12 R272). -/
def State.takeFifo (s : State) (h : HostId) : Option State :=
  match s.firstFifo h with
  | none => s.takeChain h
  | some i =>
    match s.cmds.waiting[i]? with
    | none => none
    | some k =>
      if k.behind = 0 then
        (if s.mayTake k then some (({ s with cmds := { s.cmds with waiting := s.cmds.waiting.eraseIdx i } }).process k) else none)
      else s.takeChain h

/-- Packets of a host's FIFO path are taken while they can be; `n` bounds them (12 R272, R288). -/
def State.pump (s : State) (h : HostId) : Nat → State
  | 0 => s
  | n + 1 => match s.takeFifo h with
    | some t => State.pump t h n
    | none => s

/-- All of them: a chain holds 16 packets at most. -/
def State.pumpAll (s : State) (h : HostId) : State := s.pump h (16 + s.cmds.waiting.length)

/-- Packets that wait are taken: those of each host's FIFO path first, then those of the ring (12 R272, 13 R291), and what waits
in Amioc's mailbox. -/
def State.drain (s : State) : State :=
  let s1 := (s.pumpAll .a).pumpAll .b
  let fifo (k : Packet) : Bool := k.path == .fifo
  let s2 := forAll (fun k (s : State) => s.acceptPacket k) (s1.cmds.waiting.filter fun k => !fifo k)
    { s1 with cmds := { s1.cmds with waiting := s1.cmds.waiting.filter fifo } }
  s2.passIn s2.link.askIn.length

/-! ## Compilation and the commit point (12 R278, R279, R457) -/

def State.modSched (s : State) (j : Word) (f : Sched → Sched) : State :=
  { s with cmds := { s.cmds with sched := s.cmds.sched.map fun x => if x.jseq = j then f x else x } }

/-- The journal records the window that ASAP chose (12 R278). -/
def State.recordChoice (s : State) (j : Word) (w : Word × Nat) : State :=
  match s.heldEntry j with
  | none => s
  | some e => { s with jnl := { s.jnl with ring := s.jnl.ring.put (jnlSlot j) { e with effCycle := w.1, effWin := w.2 } }
                       keep := s.keep.queueEntry (jnlSlot j) (some e) }

/-- The window of FLT_DTABLE is known: from when on its table counts as written. -/
def State.writtenAt (s : State) (x : Sched) (w : Word × Nat) : State :=
  if x.pkt.opcode = 0x0302 then
    { s with cmds := { s.cmds with written := s.cmds.written ++ [(x.pkt.target, some w)] } }
  else s

/-- The previous copy is still readable: the batch of a window before the switch is not sealed (05 R118). -/
def State.shadowBusy (s : State) : Bool :=
  s.copiesPrev.any fun e => e.2.base != 0 && s.dlv.wins.any fun y => decide (y.n < e.1)

/-- COMPILE_COMPLETE: a command's shadow copy is ready, which is not written while it is the previous copy. ASAP takes the first window whose commit point is still ahead; a key
that stands twice there is refused (12 R278, R280). -/
def State.compileDone (s : State) (j : Word) : State :=
  match s.cmds.sched.find? fun x => x.jseq = j && !x.compiled && x.phase = .waiting with
  | none => s
  | some x =>
    if !s.run.svc || s.shadowBusy then s
    else if x.placed then s.modSched j fun x => { x with compiled := true }
    else
      let w := s.asapWin x.pkt.opcode
      let y : Sched := { x with pkt := x.pkt.placedAt w, cycle := w.1, win := w.2, chosen := true, compiled := true }
      let s1 := ((s.modSched j fun _ => y).recordChoice j w).writtenAt x w
      if s.duplicate x.pkt w then s1.finish y (onlyStatus stBadParam) else s1

def execCompileComplete (jseq : Word) (s : State) : Answer := answer (s.compileDone jseq)

/-- The changes of a slot that are at least 1 ms old at this commit point (15 R350). -/
def State.dueChanges (s : State) (x : SlotTx) : List (Nat × Word × Word) := x.cfgPend.filter fun c => decide (c.1 + 1000 ≤ s.us)

/-- Slots with pending changes that are due: the last of each. -/
def State.dueSlots (s : State) : List (Nat × Word × Word) :=
  s.twd.slotTx.filterMap fun (e : Nat × SlotTx) => ((s.dueChanges e.2).getLast?).map fun c => (e.1, c.2.1, c.2.2)

/-- The internal command of a slot for a window, with its stream's next SEQ (15 R350, log entry 13). -/
def State.slotPacket (s : State) (w : Word × Nat) (e : Nat × Word × Word) : Packet :=
  let p := Params.tweedSlot { cycle := w.1, win := BitVec.ofNat 8 w.2, asap := false } e.1 e.2.1 e.2.2
  { stream := .intern, path := .inside, opcode := 0x0201, target := slotBase + e.1,
    seq := (s.stream .intern).nextSeq.getD 0, dry := false, params := some p, bytes := encodeParams p }

/-- The command is sent with the slot's due changes. Where CFG_POLICY applies it is refused WRONG_MODE as every internal
configuration command is, and its changes wait no longer (12 R285, log entry 75). -/
def State.slotCommand (s : State) (w : Word × Nat) (e : Nat × Word × Word) : State :=
  let k := s.slotPacket w e
  let n := (s.dueChanges (s.twd.tx e.1)).length
  if s.gated then
    ((s.modStream .intern fun x => { x with nextSeq := some (k.seq + 1) }).enter k stWrongMode 0 w.1 w.2).modSlotTx e.1
      fun x => { x with cfgPend := x.cfgPend.drop n, sent := 0 }
  else
    let s1 := (s.modStream .intern fun x => { x with nextSeq := some (k.seq + 1), credits := x.credits + 1 }).modSlotTx e.1
      fun x => { x with sent := n }
    let s2 := s1.enter k 0 1 w.1 w.2
    { s2 with cmds := { s2.cmds with sched := s2.cmds.sched ++
        [{ pkt := k, jseq := s2.lastEntry, cycle := w.1, win := w.2, compiled := true }] } }

/-- The internal commands of the window that is about to be committed. Without the firmware, or with no shadow copy or journal to
write, changes go on waiting. -/
def State.sendSlots (s : State) (w : Word × Nat) : State :=
  if !s.run.svc || s.keep.down || s.shadowBusy then s else forAll (fun e (s : State) => s.slotCommand w e) s.dueSlots s

/-- A slot's change with EN taken out (15 R350). -/
def slotOff (k : Packet) : Packet :=
  match k.params with
  | some (.tweedSlot ew i c m) => { k with params := some (.tweedSlot ew i (c &&& 0x7FFFFFFF#32) m) }
  | _ => k

def isSlotCommand (k : Packet) : Bool := match k.params with | some (.tweedSlot ..) => true | _ => false

/-- Every member of a group comes to one outcome: refused now, or applied at the switch with a result. -/
def State.groupOutcome (s : State) (g : Sched × List Sched) (k : Packet) (r : Res) : State :=
  let eq := !g.2.isEmpty
  if r.status != 0 then
    forAll (fun (x : Sched) (s : State) => s.finish { x with equal := eq } r) (g.1 :: g.2) s
  else
    let off := k.params != g.1.pkt.params
    let s0 := if off then s.enter g.1.pkt stNoResource (g.1.flags 2) g.1.cycle g.1.win else s
    let s1 := s0.modSched g.1.jseq fun x => { x with pkt := k, phase := .apply, result := r.result, equal := eq }
    forAll (fun (x : Sched) (s : State) => s.modSched x.jseq fun x => { x with phase := .paired, result := r.result, equal := eq }) g.2 s1

/-- The outcomes of the commands of a window on its final draft. A slot that finds no room is tried again without EN (15
R350). -/
def State.testGroups (s : State) (w : Word × Nat) (gs : List (Sched × List Sched)) : List (Nat × Packet × Res) :=
  let ks := numbered (gs.map fun g => g.1.pkt)
  let tables := s.tablesAt w
  let rs := s.settleTrials tables (ks.length + 1) ks
  if rs.any fun x => x.2.2.status != 0 && isSlotCommand x.2.1 then
    let ks1 := rs.map fun x => (x.1, if x.2.2.status != 0 && isSlotCommand x.2.1 then slotOff x.2.1 else x.2.1)
    s.settleTrials tables (ks1.length + 1) (sortBy (fun (x : Nat × Packet) => orderKey x.2) ks1)
  else rs

/-- What the accepted commands of the window will leave is laid out: the shadow copy, header changes and, for a window 0, cycle
settings. -/
def State.layOut (s : State) (w : Word × Nat) (ks : List (Nat × Packet)) : State :=
  let d := (s.draft.addAll ks).1
  { s with copyNext := if ks.isEmpty then none else some { d.st.copyNow with base := 0x40000 }
           cmds := { s.cmds with mods := lastMods d.mods }
           trk2 := { s.trk2 with dueCyc := if w.2 = 0 then some d.st.trk.cfg else s.trk2.dueCyc } }

/-- The commands of the window that is about to open are settled and tested; what passes is applied at the switch. -/
def State.settleWindow (s : State) (w : Word × Nat) (xs : List Sched) : State :=
  let st := s.settleAll xs
  let s1 := forAll (fun (e : Sched × Res) (s : State) => s.finish e.1 e.2) st.refuse s
  let rs := s1.testGroups w st.apply
  let s2 := s1.layOut w ((rs.filter fun x => x.2.2.status = 0).map fun x => (x.1, x.2.1))
  forAll (fun (r : Nat × Packet × Res) (s : State) =>
    match st.apply[r.1]? with
    | some g => s.groupOutcome g r.2.1 r.2.2
    | none => s) rs s2

/-- COMMIT_POINT: 50 us before the boundary. Where a command of the window is not compiled, or the shadow copy is still the previous
one, all of them are LATE at the boundary (12 R279, R286, R457, 05 R118). -/
def State.commitPoint (s : State) : State :=
  if s.cmds.committed || !s.run.domains.contains 3 then s
  else
    let w := s.upcoming
    let s0 := s.sendSlots w
    let s1 := { s0 with cmds := { s0.cmds with committed := true } }
    let xs := s1.commandsAt w
    if xs.isEmpty then s1
    else if !s1.run.svc || s1.shadowBusy || xs.any fun x => !x.compiled then
      forAll (fun (x : Sched) (s : State) => s.modSched x.jseq fun x => { x with phase := .refuse stLate [] }) xs s1
    else s1.settleWindow w xs

def execCommitPoint (s : State) : Answer := answer s.commitPoint

end Sys2Proof.Machine
end

