-- ==== Sys2Proof/Machine/Boundary.lean ====
section
/-! DEFINITION. The local window boundary: the table switch, what commands do at it, mode changes, latching, fences due and
calibration (08 R192, 12 R279-R286, 15 R333-R345). -/

namespace Sys2Proof.Machine

/-! ## Modes (15 R333-R345) -/

/-- On entry to CONFIG fences are no longer due (15 R336). -/
def PortS.quiet (v : PortS) : PortS :=
  { v with fence := { v.fence with due := false, backup := false }
           tx := { v.tx with staged := if v.tx.staged = some .fence || v.tx.staged = some .calibration then none
                                       else v.tx.staged } }

/-- On entry to CONFIG fences are no longer due and calibration frames no longer queued: one that has not begun is skipped (15 R336,
03 R75, log entry 95). -/
def State.quietPorts (s : State) : State :=
  let s1 := { s with ports := s.ports.map fun (e : Nat × PortS) => (e.1, e.2.quiet) }
  forAll (fun (e : Nat × PortS) (s : State) => if e.2.silk.queued then s.calSkip e.1 else s) s1.ports s1

/-- The device takes another mode; HOLD ends requests (15 R336). -/
def State.takeMode (s : State) (m : Mode) : State :=
  if m = s.dev.mode then s
  else
    let s0 := { s with dev := { s.dev with cfgExit := false, cfgFromStart := false, holdFrom := none } }
    if m = .hold then s0.enterHold false
    else if m = .config then s0.quietPorts.changeMode .config
    else s0.changeMode m

/-- MODE_SET takes effect (15 R333, R335). -/
def State.modeSetDo (s : State) (m : Mode) : State :=
  if m = s.dev.mode then { s with dev := { s.dev with cfgExit := false, cfgFromStart := s.dev.cfgFromStart && m != .config,
                                                      holdFrom := none } }
  else s.takeMode m

/-- CONFIG_WAIT and DEFAULT_MODE of BOOT_POLICY (15). -/
def State.configWait (s : State) : Nat := let n := bits (s.preg 0x200) 7 4; if n = 0 then 8 else n
def State.defaultMode (s : State) : Mode :=
  match bits (s.preg 0x200) 15 12 with
  | 5 => .grid | 6 => .direct | 7 => .dense | 8 => .tweed | _ => .config

/-- The target of the exit of CONFIG (15 R339). -/
def State.exitTarget (s : State) : Mode :=
  match s.dev.faultFrom with
  | some m => if m.isRun || m = .hold then m else s.defaultMode
  | none => s.defaultMode

/-- The ends of modes that no command makes: of a HOLD entered by lapse, of SERVICE, of CONFIG (15 R333, R339, R344, R345). -/
def State.modeEnds (s : State) (zero : Bool) : State :=
  match s.dev.mode with
  | .hold =>
    match s.dev.holdFrom with
    | some m => if s.live .a || s.live .b then s.takeMode m else s
    | none => s
  | .service => if s.di4 then s else s.takeMode .config
  | .config =>
    if zero && s.dev.cfgExit && decide (1 ≤ s.dev.cfgStarts) && (s.steady || decide (s.configWait ≤ s.dev.cfgStarts)) then
      let t := s.exitTarget
      { s with dev := { s.dev with cfgExit := false, faultFrom := none } }.takeMode t
    else s
  | _ => s

/-- Outside SERVICE every port's loopback bits are 0 (15 R345). -/
def PortS.noLoop (v : PortS) : PortS :=
  let off (c : PortConfigP) : PortConfigP := { c with ctrl := c.ctrl &&& 0xFFFFFFCF#32 }
  { v with cfg := { v.cfg with pc := off v.cfg.pc }, stat := { v.stat with pend := v.stat.pend.map off } }

def State.stripLoops (s : State) : State :=
  if s.dev.mode = .service then s else { s with ports := s.ports.map fun (e : Nat × PortS) => (e.1, e.2.noLoop) }

/-! ## The table switch (01 R18, 08 R192 step 1) -/

/-- A port's fence settings as the service firmware compiles them: loaded at the table switch of a window 0, and held in the table
SRAM until the next one else (08 R181). -/
def State.compileFence (s : State) (p : Nat) (w : Word) (zero : Bool) : State :=
  if zero then (if w = (s.port p).cfg.fenceCfg then s else s.setFence p w)
  else if w = s.trk2.dueFence.get (s.port p).cfg.fenceCfg p then s
  else { s with trk2 := { s.trk2 with dueFence := s.trk2.dueFence.put p w } }

/-- The fence settings that the table switch of a window 0 loads (08 R181). -/
def State.loadFences (s : State) : State :=
  { forAll (fun (e : Nat × Word) (s : State) => s.compileFence e.1 e.2 true) s.trk2.dueFence s with
    trk2 := { s.trk2 with dueFence := [] } }

/-- The settings of a port are those of the draft (02 R52, 03 R74); a port that is enabled bus-off follows the new policy (07 R164,
log entry 129). -/
def State.applyPortCfg (s : State) (p : Nat) (c : PortCfg) (zero : Bool) : State :=
  let v := s.port p
  let pc := v.stat.pend.getD v.cfg.pc
  let sc := v.stat.pendSilk.getD v.cfg.silkCtrl
  let s0 := if v.enabled then s else s.modPort p fun v => { v with cfg := { v.cfg with recPolicy := c.recPolicy } }
  let s1 := if c.silkCtrl != sc || c.peInit != v.cfg.peInit then s0.applySilk p c.silkCtrl c.peInit else s0
  let s2 := if c.pc != pc then s1.applyPort p c.pc else s1
  let s3 := s2.modPort p fun v => { v with cfg := { c with pc := v.cfg.pc, silkCtrl := v.cfg.silkCtrl, peInit := v.cfg.peInit,
                                                           fenceCfg := v.cfg.fenceCfg } }
  let s4 := if c.recPolicy != v.cfg.recPolicy then s3.policyNow p else s3
  (s4.compileFence p c.fenceCfg zero).withdrawMute p

/-- Channels whose port changes: their slots in force are disabled and configured anew (13 TWD_MAP). -/
def State.remapChannels (s : State) (map : List Nat) : State :=
  let old := s.twd.map
  forAll (fun c (s : State) =>
    if old.getD c 255 = map.getD c 255 then s
    else forAll (fun k (s : State) =>
      let i := 32 * c + k
      if bit (s.twd.tx i).inForce 31 then
        let w := (s.twd.tx i).inForce &&& 0x7FFFFFFF#32
        ((s.modSlotTx i fun x => { x with inForce := w }).switchHeader (slotBase + i)
          (slotRecord i (old.getD c 0) w) 0).pendSlot i
      else if bit (s.twd.slot i).scfg 31 then s.pendSlot i else s) (nums 32) s) (nums 16)
    { s with twd := { s.twd with map := map } }

/-- A B-port is in M-LVDS mode, so that PD11 is called for (01 R26). -/
def State.silkWanted (s : State) : Bool := (nums 16).any fun p => (s.port p).mlvds p

/-- PD11 is powered down with the last B-port in M-LVDS mode (01 R26). -/
def State.silkPower (s : State) : State :=
  if s.silkWanted then s
  else { s with run := { s.run with domains := s.run.domains.filter (fun d => d != 11), pll0 := 0, pll1 := 0 } }

/-- The settings of the draft take the place of those in force, and header changes are made or staged (04 R86). -/
def State.switchTo (s : State) (t : State) (zero : Bool) : State :=
  let s1 := forAll (fun (e : Nat × PortS) (s : State) => s.applyPortCfg e.1 (t.port e.1).cfg zero) t.ports s
  let s2 := { s1 with twd := { s1.twd with slotTx := t.twd.slotTx.foldl (fun (l : Tbl SlotTx) e =>
      l.put e.1 { s1.twd.tx e.1 with inForce := (t.twd.tx e.1).inForce, mask := (t.twd.tx e.1).mask }) s1.twd.slotTx } }
  let s3 := forAll (fun (x : Nat × ObjRecord × Nat) (s : State) => s.switchHeader x.1 x.2.1 x.2.2) s.cmds.mods s2
  let s4 := forAll (fun (e : Nat × Obj) (s : State) =>
    if (s.obj e.1).sched = (t.obj e.1).sched then s else s.switchSched e.1 (t.obj e.1).sched) t.objs s3
  let s5 := forAll (fun (e : Nat × Route) (s : State) =>
    let v := t.route e.1
    if (s.route e.1).entry = v.entry && (s.route e.1).ext = v.ext then s else s.setRoute e.1 v.entry v.ext) t.routes s4
  let s6 := forAll (fun (e : Nat × Pair) (s : State) =>
    { s with pairs := s.pairs.put e.1 { s.pairs.get {} e.1 with entry := (t.pairs.get {} e.1).entry } }) t.pairs s5
  let di := t.fld.di.foldl (fun (l : Tbl DiFilt) (e : Nat × DiFilt) =>
    l.put e.1 ((l.get {} e.1).setFilter (t.fld.di.get {} e.1).filter)) s6.fld.di
  { s6 with flt := t.flt, dense := t.dense
            fld := { s6.fld with autoRestore := t.fld.autoRestore, di := di } }.remapChannels t.twd.map |>.silkPower

/-- The switch exchanges the two copies: what is known of their codewords goes with them (01 R18, log entry 30). -/
def MemCtl.exchange (m : MemCtl) : MemCtl :=
  let go (l : List (MemRegion × Nat)) : List (MemRegion × Nat) :=
    l.map fun b => if b.1 = .table then (b.1, if b.2 < 0x40000 then b.2 + 0x40000 else b.2 - 0x40000) else b
  { m with bad := go m.bad, lastPass := go m.lastPass, copying := go m.copying }

/-- The copy of the settings before the switch to window number `n` is kept, and those before it that a window not yet sealed has
(05 R118, 15 R349); `switched` says that the copies of the table SRAM have been exchanged. -/
def State.keepCopy (s old : State) (n : Nat) (switched : Bool) : State :=
  let kept := s.copiesPrev.filter fun e => s.dlv.wins.any fun y => decide (y.n < e.1)
  let all := (n, old.copyNow) :: kept
  { s with copiesPrev := if switched then all.map fun e => (e.1, { e.2 with base := 0x40000 }) else all
           mem := if switched then s.mem.exchange else s.mem }

/-- The accepted commands of a window, in the order of 12 R280. -/
def State.acceptedAt (s : State) (w : Word × Nat) : List Sched :=
  sortBy (fun (x : Sched) => orderKey x.pkt) (s.cmds.sched.filter fun x => x.phase = .apply && (x.cycle, x.win) = w)

/-! ## Commands that act once -/

/-- A ring setting: BASE 0 with SIZE_LOG 0 unconfigures (13 R307). -/
def newRing (base : BitVec 64) (log : Byte) : Ring :=
  { en := !(base = 0 && log = 0), base := base, sizeLog := log.toNat }

/-- RING_DELIVERY: batches sealed before go on to the old ring (09, coinciding events). -/
def State.setDring (s : State) (h : HostId) (r : Ring) : State :=
  let old := (s.host h).dring
  let keep (b : Batch) : Batch :=
    if b.waits.get h && (b.oldRing.get h).isNone then { b with oldRing := b.oldRing.set h (some old) } else b
  let s1 := { s with dlv := { s.dlv with batches := s.dlv.batches.map keep } }
  (s1.modHost h fun x => { x with dring := r, gapTotal := 0, gapSince := 0 }).writeback h

/-- RING_COMMAND: packets of the old ring not yet read are abandoned (13 R307). -/
def State.setCring (s : State) (h : HostId) (base : BitVec 64) (log : Byte) : State :=
  let r := newRing base log
  (s.modHost h fun x => { x with cring := { en := r.en, base := base, sizeLog := log.toNat } }).writeback h

/-- RING_REPLY. -/
def State.setRring (s : State) (h : HostId) (r : Ring) : State := (s.modHost h fun x => { x with rring := r }).writeback h

/-- RING_WRITEBACK (11 R263, 13 R307). -/
def State.setWriteback (s : State) (h : HostId) (addr : BitVec 64) : State :=
  (s.modHost h fun x => { x with wbEn := addr != 0, wbAddr := addr, wbLast := none }).writeback h

/-- The outputs of a profile: off, but for its own DO_SET packets (15 R340). In UV the commanded states change only by a DO_SET that
switches none on (19 R437). -/
def State.profileOuts (s : State) (ks : List Packet) : State :=
  let off (o : Nat) (s : State) : State := s.modOut o fun v => { v with cmd := false, held := v.held && !s.link.up }
  let s1 := if s.fld.state = .uv then s else forAll off (nums 4) s
  forAll (fun (k : Packet) (s : State) => match k.params with
    | some (.doSet _ m v) => if s.doSetStatus m v = 0 then s.doSet m v else s
    | _ => s) ks s1

/-- A profile takes effect: PROFILE_CHANGE and its record (15 R343). -/
def State.takeProfile (s : State) (n : Nat) (pins : Bool) (w : Word × Nat) : State :=
  let b := (s.profileImage n).getD []
  let ks := (profilePackets b).getD []
  let s1 := { s with dev := { s.dev with profile := some n, profilePins := pins }
                     cmds := { s.cmds with written := s.cmds.written ++ (tablesOf ks).map fun t => (t, some w) } }
  ((s1.profileOuts ks).raise 173).event 0x0A03 0 1 n (profileVersion b)

/-- Commands that were not committed are compiled again from staging (12 R284, 16 R366). -/
def State.uncompile (s : State) : State :=
  { s with cmds := { s.cmds with sched := s.cmds.sched.map fun (x : Sched) =>
      if x.phase = .waiting then { x with compiled := false } else x } }

/-- FW_ACTIVATE at its boundary: the part is halted and started again from the standby slot, and UPDATE_STATE is raised (16 R365,
worked example; log entry 159). Commands compiled by a service firmware that is replaced are compiled again. The command waits for
the new part's report. -/
def State.cutOver (s : State) (x : Sched) (p : Nat) : State :=
  let s1 := (s.raise 166).modPart p fun v => { v with cutover := some v.running, running := if p = 0 then v.running else 0 }
  let mine (y : Sched) : Bool := y.jseq = x.jseq || (y.phase = .paired && keyOf y = keyOf x && y.cycle = x.cycle && y.win = x.win)
  let s2 := { s1 with cmds := { s1.cmds with sched := s1.cmds.sched.filter fun y => !mine y
                                             actions := s1.cmds.actions ++ s1.cmds.sched.filter mine } }
  match p with
  | 1 => { s2 with run := { s2.run with svc := false }, fw := { s2.fw with restarting := true } }.uncompile
  | 2 => ({ s2 with link := { s2.link with amioc := false, sensStale := true, stale := true } }.norMove .p .norRead
      (((s.standbyImage 2).getD []).length)).resetTarget 7
  | _ => s2

/-- What a command does once at its boundary, and its status there. -/
def State.actOnce (s : State) (x : Sched) : Params → State × Nat
  | .modeSet _ m =>
    let mode := (Mode.ofCode m.toNat).getD s.dev.mode
    let st := s.boundaryStatus x.pkt
    (if st = 0 then s.modeSetDo mode else s, st)
  | .cfgPolicySet _ n => ({ s with run := { s.run with cfgPolicy := n.toNat } }, 0)
  | .leadSet _ src lead =>
    ({ s with dev := { s.dev with leadSrc := src.toNat, cmdLead := if lead = 0 then .a else .b } }, 0)
  | .portRecover _ =>
    let st := s.boundaryStatus x.pkt
    (if st = 0 then s.recoverDo x.pkt.target else s, st)
  | .portRelease _ =>
    let st := s.boundaryStatus x.pkt
    (if st = 0 then s.releaseDo x.pkt.target else s, st)
  | .ringDelivery _ b n => (s.setDring (streamSide x.pkt.stream) (newRing b n), 0)
  | .ringCommand _ b n => (s.setCring (streamSide x.pkt.stream) b n, 0)
  | .ringReply _ b n => (s.setRring (streamSide x.pkt.stream) (newRing b n), 0)
  | .ringWriteback _ a => (s.setWriteback (streamSide x.pkt.stream) a, 0)
  | .profileLoad _ n => (s.takeProfile n.toNat false (x.cycle, x.win), 0)
  | .doSet _ m v =>
    let st := s.boundaryStatus x.pkt
    (if st = 0 then s.doSet m v else s, st)
  | .fwActivate _ p => (s.cutOver x p.toNat, 0)
  | _ => (s, 0)

/-- A slot's change has been made: it no longer waits, nor does any before it; CFG_ERR says that EN was taken out (15 R350). -/
def State.slotMade (s : State) (x : Sched) (i : Nat) : State :=
  let w := b32 x.pkt.bytes 12
  let off := match x.pkt.params with | some (.tweedSlot _ _ c _) => c != w | _ => false
  s.modSlotTx i fun v => { v with cfgPend := v.cfgPend.drop v.sent, sent := 0, cfgErr := off }

/-- The accepted commands act, each with its copies, and are answered once the switch is made (12 R275, R286, 15 R298). A
command of FW_ACTIVATE is answered later. -/
def State.act (s : State) (xs : List Sched) : State :=
  forAll (fun (x : Sched) (s : State) =>
    match x.pkt.params with
    | none => s
    | some p =>
      let r := s.actOnce x p
      let s0 := match p with | .tweedSlot _ i _ _ => r.1.slotMade x i | _ => r.1
      let s1 : State := if r.2 = 0 then { s0 with dlv := { s0.dlv with took := true } } else s0
      let all := s1.cmds.sched.filter fun y => y.jseq = x.jseq ||
        (y.phase = .paired && keyOf y = keyOf x && (y.cycle, y.win) = (x.cycle, x.win))
      forAll (fun (y : Sched) (s : State) =>
        s.finish y (if r.2 = 0 then { result := y.result } else onlyStatus r.2)) all s1) xs s

/-- MODE_SET among the commands decided the mode. -/
def State.modeDecided (s : State) (xs : List Sched) : Bool :=
  xs.any fun x => match x.pkt.params with
    | some (.modeSet _ m) => s.modeSetOk ((Mode.ofCode m.toNat).getD s.dev.mode)
    | _ => false

/-- The ports that PORT_CONFIG commands among those of a switch name, a profile's own among them. -/
def State.portsNamed (s : State) (xs : List Sched) : List Nat :=
  let named (k : Packet) : List Nat := match k.params with | some (.portConfig ..) => [k.target] | _ => []
  xs.flatMap fun x => match x.pkt.params with
    | some (.profileLoad _ n) => (((s.profileImage n.toNat).bind profilePackets).getD []).flatMap named
    | _ => named x.pkt

/-- TS_IGNORED is set at the moment a configuration takes effect, one that repeats the settings in force too (02 R45). -/
def State.flagPorts (s : State) (ps : List Nat) : State :=
  forAll (fun p (s : State) => if (s.port p).stat.pend.isNone then s.timingFlags p else s) ps s

/-- The table switch to window `w`, number `n`: deadlines are judged by the settings that end (10 R249), then settings, header changes, what acts once, and the mode (08 R192 step 1). -/
def State.tableSwitch (s : State) (w : Word × Nat) (n : Nat) : State :=
  let xs := if s.cmds.committed then s.acceptedAt w else []
  let sd := forAll (fun (e : Nat × Obj) (s : State) => s.checkMedia e.1) s.objs s
  let s0 := if w.2 = 0 then sd.loadFences else sd
  let s1 := if xs.isEmpty then s0
    else (s0.switchTo (s.draft.addAll (numbered (xs.map fun x => x.pkt))).1.st (w.2 = 0)).flagPorts (s.portsNamed xs)
  let s2 := s1.act xs
  let s3 := if s1.modeDecided xs then s2 else s2.modeEnds (w.2 = 0)
  let s4 := s3.stripLoops.comeWritten w
  if xs.isEmpty && s4.dev.mode = s.dev.mode then s4 else s4.keepCopy s n (!xs.isEmpty)

/-- At window 0, number `n`, the cycle settings of the commands take effect (08 R177). -/
def State.cycleSettings (s : State) (n : Nat) : State :=
  match s.trk2.dueCyc with
  | none => s
  | some y =>
    let s1 := s.setSource y.src (BitVec.ofNat 32 y.period)
    { s1 with trk := { s1.trk with cfg := y }
              trk2 := { s1.trk2 with dueCyc := none, cfgFrom := n, cfgBefore := s.trk.cfg } }

/-- Commands of windows that have passed, or that the new cycle does not have (12 R278, R279). They wait for the service
firmware. -/
def State.endPassed (s : State) : State :=
  if !s.run.svc then s
  else
    let late := s.cmds.sched.filter fun x => x.placed && s.passed (x.cycle, x.win)
    let s1 := forAll (fun (x : Sched) (s : State) => s.finish x (onlyStatus stLate)) late s
    let gone := s1.cmds.sched.filter fun x => x.placed && x.cycle = s1.trk.cycle && decide (s1.trk.cfg.winCount ≤ x.win)
    forAll (fun (x : Sched) (s : State) => s.finish x (onlyStatus stBadParam)) gone s1

/-! ## Step 2 (08 R178, R182, R183) -/

/-- A cycle count that a command sets, and a plant time, at window `w`. -/
def State.setCount (xs : List Sched) : Option Word :=
  xs.findSome? fun x => match x.pkt.params with | some (.cycCountSet _ c) => some c | _ => none
def State.setTime (xs : List Sched) : Option (BitVec 64) :=
  xs.findSome? fun x => match x.pkt.params with | some (.timeSet _ t) => some t | _ => none

/-- The cycle count becomes `c`; the windows of ports keep their place beside the local one, and requests their age. -/
def State.recount (s : State) (c : Word) : State :=
  let d := c - s.trk.cycle
  { s with trk := { s.trk with cycle := c }
           objs := s.objs.map fun (e : Nat × Obj) => (e.1, { e.2 with tx := { e.2.tx with since := e.2.tx.since + d } })
           ports := s.ports.map fun (e : Nat × PortS) => (e.1, { e.2 with fence := { e.2.fence with cyc := e.2.fence.cyc + d } }) }

/-- The count nearest to `c` whose bits [23:0] are those of `a` (08 R178). -/
def nearestCount (c a : Word) : Word := c + (((a - c) <<< 8).sshiftRight 8)

/-- The CYCLE_COUNT adoption or a commanded set, which comes first. -/
def State.countNow (s : State) (cmd : Option Word) : State :=
  match cmd, s.trk2.adoptNow with
  | some c, _ => { s.recount c with trk2 := { s.trk2 with adoptNow := none } }
  | none, some a =>
    let old := s.trk.cycle
    let c := nearestCount old a
    (({ s with trk2 := { s.trk2 with adoptNow := none } }.recount c).flagGrd 0x40).event 0x0208 (srcPort s.trk.cfg.src) 2 old.toNat
      c.toNat
  | none, none => s

/-- The plant-time set or step. -/
def State.timeNow (s : State) (cmd : Option (BitVec 64)) : State :=
  match cmd with
  | some t => ({ s with clk := { s.clk with stepDue := none } }).stepPlant t
  | none => s.stepDueNow

/-! ## Step 3 (19 R432, 11 R267) -/

/-- The field inputs are sampled, and the lead with them. -/
def State.sampleDi (s : State) : State :=
  let v := s.fld.frameDi
  let lead := if s.dev.leadSrc = 0 then (if v.getLsbD 3 then HostId.b else HostId.a) else s.dev.cmdLead
  let s1 := { s with fld := { s.fld with sampled := v }, run := { s.run with maintKey := v.getLsbD 4 } }
  if lead = s.dev.lead then s1
  else (({ s1 with dev := { s1.dev with lead := lead } }).event 0x0304 lead.num 1 s.dev.leadSrc 0).writebacks

/-! ## Steps 4 and 5 -/

/-- The deadlines of planned requests that fell by the end of window (c, w) and have not been counted as missed: object and
port (07 R162, 10 R246). Those of slots are seen to when the port opens the next window. -/
def State.deadlinesBy (s : State) (c : Word) (w : Nat) : List (Nat × Nat) :=
  if s.dev.mode != .dense then []
  else s.objs.flatMap fun e =>
    let v := e.2
    if v.req.latched && v.slotMode = 0 && s.deadlineBefore e.1 c (s.trk.cfg.endOf w + 1) then
      (v.tx.media.filter fun p => !v.tx.missOn.contains p).map fun p => (e.1, p)
    else []

/-- At the boundary that closes the window a deadline fell in: a request whose deadline passed in BUS_OFF or RECOVERING ends,
another goes on and its miss is counted (07 R162, 10 R249). -/
def State.endDeadlines (s : State) (l : List (Nat × Nat)) (n : Nat) : State :=
  forAll (fun (e : Nat × Nat) (s : State) =>
    let v := s.obj e.1
    if !(v.req.latched && v.tx.media.contains e.2 && !v.tx.missOn.contains e.2) then s
    else if !(v.tx.lateOn.contains e.2 || s.offBus e.2) then s.missDeadline e.1 e.2
    else if (s.onBus e.1 [e.2]).isEmpty then s.deadlineMissed e.1 e.2 n
    else s) l s

/-- FAULTED headers without a begun frame are rewritten from the configuration (04 R102). -/
def State.rewriteFaulted (s : State) : State :=
  forAll (fun (e : Nat × Obj) (s : State) =>
    let v := s.obj e.1
    if v.faulted && !v.req.begun then
      let r : ObjReq := {}
      ((s.setObj e.1 { v.zeroed with req := r }).headerWritten e.1 4).resolveSlots
    else s) s.objs s

/-- Requests are latched; in DIRECT and SERVICE those that found a free image wait for nothing (06 R120, R121). -/
def State.latchAll (s : State) (c : Word) (w : Nat) : State :=
  let s1 := s.latchBoundary c w
  forAll (fun (e : Nat × Obj) (s : State) => s.latchNow e.1) s1.objs s1

/-- Ports in BUS_OFF or RECOVERING open every window up to the local one, number `n`, synthetically (08 R188). -/
def State.synthBusOff (s : State) (n : Nat) : State :=
  forAll (fun (e : Nat × PortS) (s : State) =>
    if s.offBus e.1 then forAll (fun _ (s : State) => s.synthFence e.1) (nums (n - e.2.fence.n)) s else s) s.ports s

/-- A fence becomes due on a MASTER port that has not opened the window (08 R189, R190). -/
def PortS.fenceDue (v : PortS) (n : Nat) : PortS :=
  if v.enabled && v.fence.role = .master && decide (v.fence.n < n) then
    { v with fence := { v.fence with due := true, backup := false } }
  else v

/-- CAL_WIN and CAL_PERIOD (03). -/
def PortCfg.calWin (c : PortCfg) : Nat := bits c.silkCtrl 23 18
def PortCfg.calPeriod (c : PortCfg) : Nat := bits c.silkCtrl 31 24

/-- A calibration frame is queued at the start of window (c, w), number `n` (03 R75). -/
def PortS.queueCal (v : PortS) (c : Word) (w n : Nat) : PortS :=
  let due := match v.silk.cal with
    | .waitFirst => v.silk.ready
    | .waitPeriod => v.cfg.calPeriod != 0 && w = v.cfg.calWin && c.toNat % v.cfg.calPeriod = 0
    | _ => false
  if v.enabled && due then
    { v with silk := { v.silk with cal := .sending, queued := true, calOpen := v.fence.n = n } }
  else v

/-- Step 5 of 08 R192. -/
def State.dueAll (s : State) (c : Word) (w n : Nat) : State :=
  let s1 := s.synthBusOff n
  if s1.dev.mode.sendsFences then
    { s1 with ports := s1.ports.map fun (e : Nat × PortS) => (e.1, (e.2.fenceDue n).queueCal c w n) }
  else s1

/-! ## The boundary -/

/-- Ports that are DISABLED before the switch or after it follow the local boundaries (08 R188). -/
def State.followers (s : State) (before : State) (n : Nat) (c : Word) (w : Nat) : State :=
  forAll (fun p (s : State) =>
    if !(before.port p).enabled || !(s.port p).enabled then s.followLocal p n c w else s) (nums 64) s

/-- The window that opens is now the local one. -/
def State.openLocal (s : State) (w : Nat) : State :=
  { s with trk := { s.trk with win := w }, trk2 := { s.trk2 with startDue := false }, copyNext := none
           cmds := { s.cmds with committed := false, mods := [] }
           ports := s.ports.map fun (e : Nat × PortS) => (e.1, { e.2 with fence := { e.2.fence with synthMap := false } }) }

/-- WINDOW_OPEN and CYCLE_START are raised (08 R192 step 6). -/
def State.raiseOpen (s : State) (w : Nat) : State :=
  let s1 := s.raise 131
  if w = 0 then s1.raise 132 else s1

/-- A local boundary has come: window 0 of a cycle that has started, or the next window of the cycle (08 R171). -/
def State.boundaryDue (s : State) : Bool :=
  s.run.domains.contains 3 && (s.trk2.startDue || decide (s.trk.win + 1 < s.trk.cfg.winCount))

/-- The boundary in a mode other than SLEEP (08 R192). -/
def State.boundary (s : State) : State :=
  let k := s.upcoming
  let w := k.2
  let n := s.dlv.cur + 1
  let xs := if s.cmds.committed then s.acceptedAt k else []
  let s1 := s.tableSwitch k n
  let s2 := if w = 0 then (((s1.cycleSettings n).countNow (State.setCount xs)).timeNow (State.setTime xs)) else s1
  let c := s2.trk.cycle
  let s3 := (s2.openLocal w).sampleDi
  let s4 := s3.endDeadlines (s.deadlinesBy (if s.trk2.startDue then s.trk.cycle - 1 else s.trk.cycle) s.trk.win) s.dlv.cur
  let s5 := ((s4.followers s n c w).startWin n c w).settleEarly n
  let s6 := (s5.rewriteFaulted.latchAll c w).dueAll c w n
  s6.endPassed.sweepWins.raiseOpen w

/-- In SLEEP the tracker alone goes on (01 R22, 15 R346). -/
def State.sleepBoundary (s : State) : State :=
  { s with trk := { s.trk with win := s.upcoming.2 }, trk2 := { s.trk2 with startDue := false } }

/-- WINDOW_BOUNDARY (08 R192). -/
def execWindowBoundary (s : State) : Answer :=
  answer (if !s.boundaryDue then s else if s.dev.mode = .sleep then s.sleepBoundary else s.boundary)

end Sys2Proof.Machine
end

