-- ==== Sys2Proof/Machine/Host.lean ====
section
/-! DEFINITION. What a host does at its endpoint: BAR0 writes, the two chains, the command and reply rings, the heartbeat,
resets of the endpoint (11, 12 R287-R290, 17 R384). -/

namespace Sys2Proof.Machine

/-! ## The command chain (12 R287-R290) -/

/-- Words of a packet whose third word announces `plen` bytes, also where they are no multiple of 4 (12 R289). -/
def announced (plen : Nat) : Nat := 4 + (plen + 3) / 4

/-- One word more of a packet in drop-tail; none after its last word (12 R289). -/
def DropTail.word (d : DropTail) (v : Word) : Option DropTail :=
  let len := if d.pos = 2 && d.len.isNone then some (announced (v.toNat / 65536)) else d.len
  match len with
  | some n => if n ≤ d.pos + 1 then none else some { pos := d.pos + 1, len := len }
  | none => some { pos := d.pos + 1, len := none }

/-- Drop-tail after the words of an incomplete packet. -/
def dropAfter (ws : List Word) : Option DropTail :=
  if ws.isEmpty then none
  else some { pos := ws.length, len := if 3 ≤ ws.length then some (announced (wordsPlen ws)) else none }

/-- A chain's contents are discarded; a producer mid-packet goes into drop-tail (12 R289, R290). -/
def CmdChain.flush (c : CmdChain) : CmdChain :=
  { c with words := [], drop := if c.drop.isSome then c.drop else dropAfter (partialWords 16 c.words) }

/-- The command packet that the last word made refusable: its PARAM_LEN cannot be taken (12 R289). -/
def CmdChain.refusable (c : CmdChain) : Option (List Word) :=
  let p := partialWords 16 c.words
  let n := wordsPlen p
  if p.length = 3 && (decide (240 < n) || n % 4 != 0) then some p else none

/-- The refusal of an announced length: BAD_LENGTH, and drop-tail for the rest (12 R289). -/
def State.refuseLength (s : State) (h : HostId) : State :=
  let c := (s.host h).cmd
  match c.refusable with
  | none => s
  | some p =>
    (s.modHost h fun x => { x with cmd := { x.cmd with words := x.cmd.words.take (x.cmd.words.length - 3), drop := dropAfter p } }).sendReply
      { stream := hostStream h, path := .fifo, opcode := bits (p.getD 0 0) 31 16, status := stBadLength, seq := p.getD 1 0,
        jidx := 0xFFFF, result := [], credit := false }

/-- CMD_FIFO_WRITE (12 R287-R289). -/
def State.fifoWrite (s : State) (h : HostId) (v : Word) : State :=
  let c := (s.host h).cmd
  match c.drop with
  | some d => s.modHost h fun x => { x with cmd := { x.cmd with drop := d.word v, dropWords := incSat x.cmd.dropWords 255 } }
  | none =>
    if 64 ≤ c.words.length then s.modHost h fun x => { x with cmd := { x.cmd with overrun := true } }
    else
      let s1 := s.modHost h fun x => { x with cmd := { x.cmd with words := x.cmd.words ++ [v] } }
      let s2 := if c.words.length + 1 = c.level then s1.raise (136 + h.num) else s1
      (s2.refuseLength h).pumpAll h

/-! ## The reply chain -/

/-- REPLY_FIFO_READ: one word; an empty chain reads 0 (12 R288). -/
def State.replyRead (s : State) (h : HostId) : State :=
  match (s.host h).replyChain with
  | (w :: ws) :: ps => (s.modHost h fun x => { x with replyChain := if ws.isEmpty then ps else ws :: ps }).emit (.read h w)
  | _ => s.emit (.read h 0)

def execReplyFifoRead (h : HostId) (s : State) : Answer := .next (s.served h .reply (s.replyRead h))

/-- The triggers and LEVEL of HST_FIFO_CTRL (11 R270, 12 R289). -/
def Hst.fifoCtrl (x : Hst) (v : Word) : Hst :=
  let x1 := if bit v 31 then { x with cmd := x.cmd.flush } else x
  let x2 := if bit v 30 then { x1 with replyChain := [] } else x1
  let x3 := if bit v 29 then { x2 with replyChain := x2.replyChain.drop 1 } else x2
  let x4 := if bit v 28 then { x3 with cmd := { x3.cmd with overrun := false } } else x3
  let x5 := if bit v 27 then { x4 with integrity := false } else x4
  let n := bits v 6 0
  if 1 ≤ n && n ≤ 64 then { x5 with cmd := { x5.cmd with level := n } } else x5

/-! ## The rings (11 R260-R263) -/

/-- CRING_TAIL (11 R260). -/
def State.cringTail (s : State) (h : HostId) (v : Word) : State :=
  let r := (s.host h).cring
  if !r.en then s.violation h 8 0 0x1044
  else if v.toNat % 16 != 0 || decide (seqDiff v r.tail < 0) || decide (2 ^ r.sizeLog < (v - r.head).toNat) then
    s.violation h 7 0 0x1044
  else s.modHost h fun x => { x with cring := { x.cring with tail := v } }

/-- The command ring stops; HEAD stays at the packet concerned (11 R261). -/
def State.cringStop (s : State) (h : HostId) (cause : Nat) : State :=
  (s.modHost h fun x => { x with cring := { x.cring with stopped := true, stopCause := cause } }).event 0x0305 h.num 3 cause
    (s.host h).cring.head.toNat

/-- Bytes of the ring that hold packets. -/
def CRing.filled (r : CRing) : Nat := (r.tail - r.head).toNat

/-- The ring can be read: configured, not stopped, with DMA, and with a header in it (11 R261, R269). -/
def State.cringReady (s : State) (h : HostId) : Bool :=
  let x := s.host h
  x.cring.en && !x.cring.stopped && x.pcie.dma && decide (16 ≤ x.cring.filled)

/-- Bytes a packet takes up in command staging: header and parameters, padded to 16 (11 R260, log entry 132). -/
def Packet.room (k : Packet) : Nat := 16 + (k.bytes.length + 15) / 16 * 16

/-- Bytes of command staging in use: packets not taken, taken commands that are not final, and 64 for each header change that
waits (04 R79, R86, log entry 132). -/
def State.stagingUsed (s : State) : Nat :=
  let ks := s.cmds.waiting ++ (s.cmds.sched ++ s.cmds.actions).map Sched.pkt
  (ks.map Packet.room).sum + 64 * (s.mem.staged.length + s.cmds.mods.length)

/-- CRING_PACKET_READ: the packet at HEAD is read into staging once it is whole, commands are taken and staging, of 256 KiB, has
room; its words are what host memory holds there (04 R79, 11 R260, R261, 12 R272). -/
def State.cringRead (s : State) (h : HostId) (words : List Word) : State :=
  let x := s.host h
  if !s.cringReady h || !s.canTake (hostStream h) then s
  else
    let n := wordsPlen words
    if bits (words.getD 0 0) 7 0 != 2 || decide (4080 < n) then s.cringStop h 3
    else
      let size := 16 + (n + 15) / 16 * 16
      let ws := (words ++ List.replicate (size / 4) 0).take (size / 4)
      let k := packetOf (hostStream h) .ring ws
      if x.cring.filled < size || decide (0x40000 < s.stagingUsed + size) || !s.mayTake k then s
      else
        let s1 := (s.ringRead h x.cring.base.toNat (2 ^ x.cring.sizeLog) x.cring.head.toNat size).modHost h fun x => { x with cring := { x.cring with head := x.cring.head + BitVec.ofNat 32 size } }
        (s1.writeback h).acceptPacket k

def execCringPacketRead (h : HostId) (packet : List Word) (s : State) : Answer := answer (s.cringRead h packet)

/-- CRING_READ_ERROR (11 R261). -/
def execCringReadError (h : HostId) (e : RingError) (s : State) : Answer :=
  .next (if s.cringReady h then s.cringStop h (match e with | .errorCompletion => 1 | .timeout => 2) else s)

/-- RRING_CONS (11 R262). -/
def State.rringCons (s : State) (h : HostId) (v : Word) : State :=
  let r := (s.host h).rring
  if !r.en then s.violation h 8 0 0x105C
  else if r.badCons 16 v then s.violation h 6 0 0x105C
  else s.modHost h fun x => { x with rring := { x.rring with cons := v } }

/-! ## Replies (11 R262, 12 R273, R276) -/

/-- A reply's bytes, padded for the ring. -/
def Reply.padded (r : Reply) : List Byte :=
  let b := wordsBytes (Reply.words r)
  b ++ zeros ((16 - b.length % 16) % 16)

/-- The reply finds room on its path (11 R262). -/
def State.replyFits (s : State) (h : HostId) (r : Reply) : Bool :=
  let x := s.host h
  if r.path = .fifo then decide (x.replyFill + (Reply.words r).length ≤ 64)
  else x.rring.en && x.pcie.dma && decide ((Reply.padded r).length ≤ x.rring.free)

/-- The place of the reply that is written next: the first of either path, in the order in which they came. -/
def State.nextReply (s : State) (h : HostId) : Option Nat :=
  let l := (s.host h).replies
  let firstOn (f : Bool) : Option Nat := l.findIdx? fun r => (r.path == .fifo) == f
  let fits (i : Nat) : Bool := match l[i]? with | some r => s.replyFits h r | none => false
  match (firstOn true).filter fits, (firstOn false).filter fits with
  | some a, some b => some (min a b)
  | some a, none => some a
  | none, b => b

/-- The reply goes into the chain or the ring (11 R257, R262, 12 R288). -/
def State.putReply (s : State) (h : HostId) (r : Reply) : State :=
  if r.path = .fifo then s.modHost h fun x => { x with replyChain := x.replyChain ++ [Reply.words r] }
  else
    let q := (s.host h).rring
    let b := Reply.padded r
    ((s.ringWrite h q.base.toNat q.size q.prod.toNat b).modHost h fun x =>
      { x with rring := { x.rring with prod := q.prod + BitVec.ofNat 32 b.length } }).writeback h

/-- REPLY_WRITE: the reply is written, its credit released, REPLY_READY raised, and packets that waited for room are taken
(11 R262, 12 R273, R287). -/
def State.replyWrite (s : State) (h : HostId) : State :=
  if !s.run.svc then s
  else match s.nextReply h with
  | none => s
  | some i =>
    match (s.host h).replies[i]? with
    | none => s
    | some r =>
      let s1 := s.modHost h fun x => { x with replies := x.replies.eraseIdx i }
      ((((s1.putReply h r).raise (138 + h.num)).dropReply r)).drain

def execReplyWrite (h : HostId) (s : State) : Answer := answer (s.replyWrite h)

/-! ## Heartbeat (11 R264) -/

/-- A beat. -/
def State.beat (s : State) (h : HostId) (v : Word) : State :=
  let x := s.host h
  let s1 := (s.modHost h fun x => { x with hb := v, lastBeat := s.us }).modHost h.peer fun x => { x with peerHb := v }
  match x.state with
  | .absent => (s1.modHost h fun x => { x with state := .live }).writebacks
  | .lapsed =>
    if x.pcie.linkUp then ((s1.modHost h fun x => { x with state := .live }).event 0x0303 h.num 1 0 0).writebacks else s1
  | .live => s1

/-- HEARTBEAT_LAPSE: a 1 ms tick with PERIOD ms or more since the last beat. -/
def State.lapseTick (s : State) (h : HostId) : State :=
  let x := s.host h
  if x.state = .live && x.period != 0 && decide (x.lastBeat + 1000 * x.period ≤ s.us) then s.lapse h else s

def execHeartbeatLapse (h : HostId) (s : State) : Answer := answer (s.lapseTick h)

/-! ## MSI-X (11 R250, R251) -/

/-- Messages that waited behind a mask are sent once neither the vector nor the function is masked. -/
def State.sendPending (s : State) (h : HostId) : State :=
  forAll (fun v (s : State) =>
    let p := (s.host h).pcie
    if p.pba.getLsbD v && p.sends && !p.vectorMasked v then
      (s.modHost h fun x => { x with pcie := { x.pcie with pba := x.pcie.pba &&& ~~~(BitVec.ofNat 16 (2 ^ v)) } }).emit (.msix h v)
    else s) (nums 16) s

/-- A word of the MSI-X table; a vector control word holds its mask bit alone. -/
def State.writeMsix (s : State) (h : HostId) (i : Nat) (v : Word) : State :=
  let w : Word := if i % 4 = 3 then v &&& 1 else if i % 4 = 0 then v &&& 0xFFFFFFFC#32 else v
  (s.modHost h fun x => { x with pcie := { x.pcie with msixTable := x.pcie.msixTable.put i w } }).sendPending h

/-! ## Persistent registers (17 R384, R385) -/

/-- PREG_DATA word `j` (17 R384, R385). -/
def State.pregData (s : State) (h : HostId) (j : Nat) (v : Word) : State :=
  let i := 512 * (s.host h).pregPage + j
  if i < 0x400 then s.violation h 2 0 (0x7800 + 4 * j)
  else if s.keep.down then s
  else s.setPreg i v (some h)

/-! ## BAR0 writes (11 R251-R253) -/

/-- The DEV_, HST_ and INT_ blocks. -/
def State.writeLow (s : State) (h : HostId) (o : Nat) (v : Word) : State :=
  if o < 0x1000 then
    if o = 0x2C then s.modHost h fun x => { x with scratch := v }
    else s.violation h (if o < 0x2C then 2 else 1) 0 o
  else if o < 0x2000 then
    match o with
    | 0x1000 => forAll (fun i (s : State) => if bit v i then s.raise (192 + 8 * h.num + i) else s) (nums 8) s
    | 0x1004 => s.beat h v
    | 0x1010 => s.fifoWrite h v
    | 0x101C => (if bit v 31 then s.lessBehind h 64 else s).modHost h fun x => x.fifoCtrl v
    | 0x1030 => s.dringCons h v
    | 0x1044 => s.cringTail h v
    | 0x105C => s.rringCons h v
    | _ => s.violation h (if o < 0x1070 then 2 else 1) 0 o
  else
    let r := o - 0x2000
    match s.intWrite h.num r v with
    | some t => t
    | none =>
      let known := r = 0x28 || (0x100 ≤ r && r < 0x180) || (0x224 ≤ r && r < 0x238) || (0x240 ≤ r && r < 0x260) ||
        (0x400 ≤ r && r < 0x800)
      s.violation h (if known then 2 else 1) 0 o

/-- A cursor window's control and cursor registers: NEXT, MARK and REWIND in that order (17 R393). -/
def State.writeCursor (s : State) (h : HostId) (o : Nat) (v : Word) : State :=
  let rec_ := o < 0x5800
  let r := o % 0x800
  if r = 0 then
    let s1 := if bit v 0 then (if rec_ then s.recNext h else s.jnlNext h) else s
    let s2 := if bit v 1 then (if rec_ then s1.recMark h else s1.jnlMark h) else s1
    if bit v 2 then (if rec_ then s2.recRewind h else s2.jnlRewind h) else s2
  else if r = 4 then (if rec_ then s.recMove h v else s.jnlMove h v)
  else s.violation h (if r = 0x1C || 0x40 ≤ r then 1 else 2) 0 o

/-- A port's flag-clear registers. -/
def State.writePort (s : State) (h : HostId) (o : Nat) (v : Word) : State :=
  let p := (o - 0x10000) / 0x100
  let r := o % 0x100
  if r = 0x20 then s.clearFlags h p fun f => { f with ch := f.ch &&& ~~~v }
  else if r = 0x4C then s.clearFlags h p fun f => { f with err := f.err &&& ~~~v }
  else if r = 0x68 then s.clearFlags h p fun f => { f with tx := f.tx &&& ~~~v }
  else if r = 0x90 then s.clearFlags h p fun f => { f with silk := f.silk &&& ~~~v }
  else s.violation h (if r < 0xC0 then 2 else 1) 0 o

/-- A whole word written to BAR0 at the word's offset. -/
def State.writeWord (s : State) (h : HostId) (o : Nat) (v : Word) : State :=
  if o < 0x3E00 then s.writeLow h o v
  else if o < 0x3F00 then s.writeMsix h ((o - 0x3E00) / 4) v
  else if o < 0x4000 then s.violation h (if o < 0x3F08 then 2 else 1) 0 o
  else if o < 0x5000 then
    if o = 0x4030 then s.clearGrdFlags h v
    else s.violation h (if (0x4048 ≤ o && o < 0x4080) || 0x4100 ≤ o then 1 else 2) 0 o
  else if o < 0x6000 then s.writeCursor h o v
  else if o < 0x7000 then
    if o = 0x6018 then s.clearPwrFlags v
    else if o = 0x6138 then s.clearMgtFlags v
    else s.violation h (if (0x6028 ≤ o && o < 0x6100) || o = 0x613C || 0x6154 ≤ o then 1 else 2) 0 o
  else if o < 0x8000 then
    if o = 0x7000 then s.modHost h fun x => { x with pregPage := bits v 2 0 }
    else if 0x7800 ≤ o then s.pregData h ((o - 0x7800) / 4) v
    else s.violation h (if o < 0x700C then 2 else 1) 0 o
  else if o < 0xC000 then s.twdWrite h (o - 0x8000) v
  else if 0x10000 ≤ o && o < 0x14000 then s.writePort h o v
  else s.violation h 1 0 o

/-- A write TLP's word with its byte enables (11 R252). -/
def State.bar0Write (s : State) (h : HostId) (o : Nat) (be : BitVec 4) (v : Word) : State :=
  if be != 0xF#4 then s.violation h 3 0 o else s.writeWord h (o / 4 * 4) v

/-- A BAR0 write arrives: it is held while the host's queue of PREG_DATA writes is full, or others are held before it (17
R384). -/
def State.hostWrite (s : State) (h : HostId) (o : Nat) (be : BitVec 4) (v : Word) : State :=
  if s.holds h then s.hold h (.bar0 o be v) else s.bar0Write h o be v

/-- A held access is carried out. -/
def State.carryOut (s : State) (h : HostId) : HeldAccess → State
  | .bar0 o be v => s.bar0Write h o be v
  | .slot i w => s.slotWrite h i w
  | .bar2 o bytes => s.bar2Apply h o bytes
  | .bar2Read o n => s.bar2Serve h o n
  | .claim => s.claim h.num
  | .seen => s.readSeen h.num
  | .phase => s.readPhase h
  | .reply => s.replyRead h

/-- The access cannot be carried out yet: the queue is full, or message memory is not initialised (17 R384, 04 R80). -/
def State.blocked (s : State) (h : HostId) : HeldAccess → Bool
  | .bar0 .. | .slot .. => s.pregFull h
  | .bar2 .. | .bar2Read .. => !s.mem.ready
  | _ => false

/-- Accesses are carried out in their order. One that cannot be is held again; nothing passes a write, while what follows a read
goes on (11 R255). -/
def State.goOn (h : HostId) : List HeldAccess → State → State
  | [], s => s
  | a :: t, s =>
    if s.blocked h a then
      (if a.isWrite then s.modHost h fun x => { x with held := x.held ++ a :: t } else State.goOn h t (s.hold h a))
    else State.goOn h t (s.carryOut h a)

/-- The held accesses of a host are carried out as far as they can be. -/
def State.replayHeld (s : State) (h : HostId) : State :=
  State.goOn h (s.host h).held (s.modHost h fun x => { x with held := [] })

/-- A BAR0 word as a read of host `h` that arrives now returns it: served after the writes held before it (11 R255, log entry
79). -/
def State.hostRead (s : State) (h : HostId) (o : Nat) : Word :=
  (forAll (fun (a : HeldAccess) (s : State) => match a with
    | .bar0 .. | .slot .. => s.carryOut h a
    | _ => s) (s.host h).held s).bar0Word h o

/-- MEMORY_INIT_DONE, with PD8 on; held accesses are released (04 R80). -/
def State.memReady (s : State) : State :=
  if s.mem.ready || !s.run.domains.contains 8 then s
  else (s.initMemory.replayHeld .a).replayHeld .b

def execMemoryInitDone (s : State) : Answer := answer s.memReady

def execHostRegisterWrite (w : Writer) (offset : BitVec 18) (be : BitVec 4) (v : Word) (s : State) : Answer :=
  match w with
  | .host h => answer (s.hostWrite h offset.toNat be v)
  | .processor t => answer (s.busWrite (t.val + 2) (offset.toNat / 4 * 4) v)

def execHeartbeat (h : HostId) (v : Word) (s : State) : Answer := answer (s.hostWrite h 0x1004 0xF v)
def execDoorbell (h : HostId) (v : Word) (s : State) : Answer := answer (s.hostWrite h 0x1000 0xF v)
def execCmdFifoWrite (h : HostId) (v : Word) (s : State) : Answer := answer (s.hostWrite h 0x1010 0xF v)
def execFlushCmd (h : HostId) (s : State) : Answer := answer (s.hostWrite h 0x101C 0xF 0x80000000#32)
def execFlushReply (h : HostId) (s : State) : Answer := answer (s.hostWrite h 0x101C 0xF 0x40000000#32)
def execDiscardPacket (h : HostId) (s : State) : Answer := answer (s.hostWrite h 0x101C 0xF 0x20000000#32)
def execOvrClr (h : HostId) (s : State) : Answer := answer (s.hostWrite h 0x101C 0xF 0x10000000#32)
def execIntegClr (h : HostId) (s : State) : Answer := answer (s.hostWrite h 0x101C 0xF 0x08000000#32)
def execCringTail (h : HostId) (v : Word) (s : State) : Answer := answer (s.hostWrite h 0x1044 0xF v)
def execRringCons (h : HostId) (v : Word) (s : State) : Answer := answer (s.hostWrite h 0x105C 0xF v)

/-- PREG_DATA_WRITE: a write in the window 0x0_7800-0x0_7FFF (17 R384); other offsets are no such write. -/
def execPregDataWrite (h : HostId) (offset : BitVec 18) (v : Word) (s : State) : Answer :=
  if 0x7800 ≤ offset.toNat && offset.toNat < 0x8000 then answer (s.hostWrite h offset.toNat 0xF v) else .next s

/-! ## Integrity (12 R290) -/

/-- A chain's contents are discarded. -/
def State.discardChain (s : State) : Chain → State
  | .staging p => s.modPort p.val fun v => { v with tx := { v.tx with staged := none } }
  | .mailboxOut => { s with link := { s.link with mailOut := [] } }
  | .mailboxIn => { s with link := { s.link with mailIn := [] } }
  | .notices p => { s with dlv := { s.dlv with notices := s.dlv.notices.put p.val [] } }
  | .command h => (s.lessBehind h 64).modHost h fun x => { x with cmd := x.cmd.flush, integrity := true }
  | .reply h => s.modHost h fun x => { x with replyChain := [], integrity := true }

/-- A chain's kind and instance in its record (12 R290). -/
def chainCode : Chain → Nat × Nat
  | .staging p => (1, p.val)
  | .mailboxOut => (2, 0)
  | .mailboxIn => (2, 1)
  | .notices p => (3, p.val)
  | .command h => (4, h.num)
  | .reply h => (5, h.num)

/-- FIFO_INTEGRITY. -/
def execFifoIntegrity (c : Chain) (s : State) : Answer :=
  answer (((s.discardChain c).raise 140).event 0x0405 (chainCode c).2 3 (chainCode c).1 0)

/-- MAILBOX_REQUEST_REPEAT: the oldest request of each sender that has had no answer is sent again, and what waited behind it
follows (12 R290). -/
def execMailboxRequestRepeat (s : State) : Answer :=
  let s1 := s.sendOut.passOut s.link.askOut.length
  answer (s1.sendIn.passIn s1.link.askIn.length)

/-! ## The link and its resets (11 R250, R268, R269) -/

/-- HOST_LINK_UP. Without power in the part's frame die no link comes up. -/
def execHostLinkUp (h : HostId) (s : State) : Answer :=
  answer (match s.dev.mode with
    | .latched | .sleep | .insert => s
    | _ => s.modHost h fun x => { x with pcie := { x.pcie with linkUp := true } })

/-- PCIE_CONFIG_WRITE: D-state, Bus Master Enable, MSI-X Enable and Function Mask, the two memory BARs of 256 KiB and 64 MiB,
and the two sizes (11 R250, R269). -/
def State.pcieWrite (s : State) (h : HostId) (c : PcieCfg) : State :=
  let s1 := s.modHost h fun x => { x with pcie := match c with
    | .powerState d => { x.pcie with d3hot := d }
    | .busMaster b => { x.pcie with busMaster := b }
    | .msix on m => { x.pcie with msixOn := on, msixMasked := m }
    | .bar0 a => { x.pcie with bar0 := a &&& ~~~(0x3FFFF#64) }
    | .bar2 a => { x.pcie with bar2 := a &&& ~~~(0x3FFFFFF#64) }
    | .maxPayload k => { x.pcie with maxPayload := 128 * 2 ^ k.val }
    | .maxRead k => { x.pcie with maxRead := 128 * 2 ^ k.val } }
  (s1.sendPending h).writeback h

def execPcieConfigWrite (h : HostId) (c : PcieCfg) (s : State) : Answer := answer (s.pcieWrite h c)

/-- Batches and Direct entries that wait for the host are skipped (09 R212, R222). -/
def State.skipAll (s : State) (h : HostId) : State :=
  let ns := (s.dlv.batches.filter fun b => b.waits.get h).map fun b => b.n
  let s1 := forAll (fun n (s : State) => s.skipBatch h n) ns s
  let es := s1.dlv.direct.filter fun e => e.waits.get h
  let s2 := forAll (fun _ (s : State) => s.ringGap h false) es s1
  let left := s2.dlv.direct.map fun (e : DEntry) => { e with waits := e.waits.set h false }
  { s2 with dlv := { s2.dlv with direct := left } }.sweepDirect

/-- The host's replies that wait are discarded, and those of its commands that are not final will be (11 R262, R268). -/
def State.cutReplies (s : State) (h : HostId) : State :=
  let st := hostStream h
  let mine (x : Sched) : Sched := if x.pkt.stream = st then { x with noReply := true } else x
  let rs := (s.host h).replies
  let s1 := s.modHost h fun x => { x with replies := [] }
  let s2 := { s1 with cmds := { s1.cmds with
    sched := s1.cmds.sched.map mine, actions := s1.cmds.actions.map mine,
    waiting := s1.cmds.waiting.map fun (k : Packet) => if k.stream = st then { k with dead := true, behind := 0 } else k } }
  forAll (fun r (s : State) => s.dropReply r) rs s2

/-- ENDPOINT_RESET (11 R268, 14 R329). The registers take their reset values, CMD_DROP_TAIL among them. Only a Function
Level Reset leaves the link up. -/
def State.endpointReset (s : State) (h : HostId) (kind : EndpointReset) : State :=
  let s0 := s.modHost h fun x => { x with pcie := { linkUp := kind = .flr && x.pcie.linkUp } }
  let s1 := ((s0.skipAll h).cutReplies h).modHost h fun x =>
    { state := x.state, lapses := x.lapses, pcie := x.pcie, replies := x.replies, lastBeat := x.lastBeat }
  let s2 := s1.resetTarget h.num
  if (s.host h).state = .live then s2.lapse h else s2

def execEndpointReset (h : HostId) (kind : EndpointReset) (s : State) : Answer := answer (s.endpointReset h kind)

end Sys2Proof.Machine
end

