-- ==== Sys2Proof/Machine/Code.lean ====
section
/-! DEFINITION. The Reed-Solomon codes of the frame die's SRAM and of the keep die's lines (04 R97, 17 R379). -/

namespace Sys2Proof.Machine

/-- Multiplication by α = 0x02 in GF(2^8) with x^8 + x^4 + x^3 + x^2 + 1. -/
def gfDouble (a : Byte) : Byte := if a.getLsbD 7 then (a <<< 1) ^^^ 0x1D#8 else a <<< 1

/-- The product of `a` with the low `n` bits of `b`. -/
def gfMulBits : Nat → Byte → Byte → Byte
  | 0, _, _ => 0
  | n + 1, a, b => (if b.getLsbD 0 then a else 0) ^^^ gfMulBits n (gfDouble a) (b >>> 1)

def gfMul (a b : Byte) : Byte := gfMulBits 8 a b

/-- The `n`-th power of α. -/
def gfAlpha : Nat → Byte
  | 0 => 1
  | n + 1 => gfDouble (gfAlpha n)

/-- `a` squared `n` times, the products gathered: for `n` = 7 the 254th power, the inverse. -/
def gfInvSteps : Nat → Byte → Byte → Byte
  | 0, _, r => r
  | n + 1, a, r => let q := gfMul a a; gfInvSteps n q (gfMul r q)

def gfInv (a : Byte) : Byte := gfInvSteps 7 a 1

/-- The polynomial whose coefficients are the symbols, highest degree first, at `x`. -/
def gfEval (x : Byte) (c : List Byte) : Byte := c.foldl (fun r b => gfMul r x ^^^ b) 0

/-- The four syndromes of a codeword: 0 for a valid one. -/
def syndromes (c : List Byte) : List Byte := (nums 4).map fun j => gfEval (gfAlpha j) c

/-- The locator of symbol `k` of `n`. -/
def locator (n k : Nat) : Byte := gfAlpha (n - 1 - k)

/-- What a decode comes to: the codeword as it stands, corrected symbols, or nothing. -/
inductive Ecc where
  | clean
  | fixed (symbols : List Byte)
  | bad
deriving DecidableEq, Repr

/-- One symbol in error, with locator `x`, explains the syndromes. -/
def oneError (s0 s1 s2 s3 x : Byte) : Bool :=
  s0 != 0 && gfMul s0 x == s1 && gfMul s1 x == s2 && gfMul s2 x == s3

/-- Two symbols in error, with locators `x` and `y`, explain the syndromes. -/
def twoErrors (s0 s1 s2 s3 x y : Byte) : Bool :=
  let sum := x ^^^ y
  let prod := gfMul x y
  (s2 ^^^ gfMul sum s1 ^^^ gfMul prod s0) == 0 && (s3 ^^^ gfMul sum s2 ^^^ gfMul prod s1) == 0

/-- The symbols with `e` added at `k`. -/
def fixSymbol (c : List Byte) (k : Nat) (e : Byte) : List Byte := c.set k (c.getD k 0 ^^^ e)

/-- The decode of `n` symbols, the last four of them check bytes: errors in up to two symbols are corrected. -/
def rsDecode (n : Nat) (c : List Byte) : Ecc :=
  let s := syndromes c
  let s0 := s.getD 0 0
  let s1 := s.getD 1 0
  let s2 := s.getD 2 0
  let s3 := s.getD 3 0
  if c.length != n then .bad
  else if s.all fun b => b == 0 then .clean
  else
    match (nums n).find? fun k => oneError s0 s1 s2 s3 (locator n k) with
    | some k => .fixed (fixSymbol c k s0)
    | none =>
      match ((nums n).flatMap fun k => (numsFrom (k + 1) (n - 1 - k)).map fun l => (k, l)).find? fun e =>
          twoErrors s0 s1 s2 s3 (locator n e.1) (locator n e.2) with
      | some (k, l) =>
        let y := locator n l
        let e := gfMul (s1 ^^^ gfMul s0 y) (gfInv (locator n k ^^^ y))
        .fixed (fixSymbol (fixSymbol c k e) l (s0 ^^^ e))
      | none => .bad

/-- The decode of a codeword of the frame die's SRAM: RS(20,16) (04 R97). -/
def eccDecode (c : List Byte) : Ecc := rsDecode 20 c

/-- The decode of a line of the keep die: RS(36,32) over the same field, with the same generator (17 R379). -/
def lineDecode (c : List Byte) : Ecc := rsDecode 36 c

/-- The remainder of a polynomial times x^4 by g(x) = (x + 1)(x + α)(x + α^2)(x + α^3), highest degree first, after one symbol
more of the dividend. -/
def rsStep (r : List Byte) (b : Byte) : List Byte :=
  let q := r.getD 0 0 ^^^ b
  [r.getD 1 0 ^^^ gfMul q 0x0F, r.getD 2 0 ^^^ gfMul q 0x36, r.getD 3 0 ^^^ gfMul q 0x78, gfMul q 0x40]

/-- The four check bytes of a codeword's data (04 R97, 17 R379). -/
def rsCheck (data : List Byte) : List Byte := data.foldl rsStep [0, 0, 0, 0]

end Sys2Proof.Machine
end

