-- ==== Sys2Proof/Machine/Startup.lean ====
section
/-! DEFINITION. Start-up, firmware faults, FAULT and the cutover of firmware (15 R334-R348, 16 R361-R373). -/

namespace Sys2Proof.Machine

/-! ## Slots -/

/-- VERSION of an image as a register shows it; 0 for none. -/
def versionOf : Option (List Byte) → Word
  | some b => BitVec.ofNat 32 (fwVersion b)
  | none => 0

/-- A part runs an image, in its SRAM, that came from slot `k`. -/
def State.runImage (s : State) (p k : Nat) (b : Option (List Byte)) : State :=
  s.modPart p fun v => { v with active := k, sram := b, running := versionOf b }

/-- A part runs the image in NOR slot `k`, copied into its SRAM (16 R362). -/
def State.runSlot (s : State) (p k : Nat) : State := s.runImage p k ((s.part p).image k)

/-- A slot other than the active one is started: SLOT_FALLBACK (16 R362). -/
def State.startPart (s : State) (p k : Nat) : State :=
  let s1 := s.runSlot p k
  if k = s.fwSlot p then s1 else s1.event 0x0702 p 3 k 0

/-! ## The service firmware runs (16 R366, 12 R284) -/

/-- The service firmware is halted: it restarts later. -/
def State.haltSvc (s : State) : State :=
  ({ s with run := { s.run with svc := false }, fw := { s.fw with restarting := true } }.modPart 1 fun v =>
    { v with running := 0 }).uncompile

/-- The service firmware runs: its targets are reset, commands whose window has passed end, CANVAS_READY follows, and commands
that wait are taken (14 R329, 12 R284, 16 R374). -/
def State.svcRuns (s : State) : State :=
  let s1 := { s with run := { s.run with svc := true }, fw := { s.fw with restarting := false, halted := false } }.uncompile
  let s2 := forAll (fun t (s : State) => s.resetTarget t) [2, 3, 4, 5] s1
  s2.endPassed.canvasReady.drain

/-- The newest journal entry of a stream. -/
def State.newestEntry (s : State) (st : Stream) : Option JEntry :=
  (s.jnl.ring.filter fun e => e.2.stream = st).foldl (fun (b : Option JEntry) e =>
    match b with
    | none => some e.2
    | some x => some (if 0 < seqDiff e.2.jseq x.jseq then e.2 else x)) none

/-- At BOOT NEXT_SEQ is rebuilt from the journal (12 R271). -/
def State.rebuildStreams (s : State) : State :=
  forAll (fun st (s : State) => s.modStream st fun x => { x with nextSeq := (s.newestEntry st).map fun e => e.cmdSeq + 1 })
    [Stream.hostA, .hostB, .mgmt, .intern] s

/-! ## Start-up (15 R334, R337, 16 R362) -/

/-- BUCKRAM_START: the boot ROM reads the image, Buckram reads the recorder's lines (01 R7, 17 R389), and the records and
MODE_CHANGE of 15 R334 follow. When neither slot verifies the device stays in BOOT, with an
entry through the spill path (15 R333). -/
def State.buckramStart (s : State) : State :=
  if s.dev.mode != .boot || s.run.buckram || !s.run.domains.contains 4 then s
  else
    match s.startSlot 0 with
    | none => s.event 0x0701 0 4 0x13 0
    | some k =>
      let s0 := ({ s with run := { s.run with buckram := true } }.norMove .f .norRead (s.imageBytes 0 k)).lineReads s.rcd.ring.length
      let s1 := (s0.startPart 0 k).internalPrios
      let s2 := (s1.raise 171).event 0x0A01 0 1 s.dev.prevMode.code Mode.boot.code
      (s2.event 0x0A02 0 2 s.dev.resetCause s.dev.frameResets).raiseHeld

def execBuckramStart (s : State) : Answer := answer s.buckramStart

/-- SERVICE_FW_START: Buckram has loaded and verified the image, it runs (15 R337 step 5), and reads the journal. -/
def State.svcStart (s : State) : State :=
  if s.dev.mode != .boot || !s.run.buckram || s.run.svc || !s.run.domains.contains 5 then s
  else
    match s.startSlot 1 with
    | none => s
    | some k =>
      let s0 := ({ s with run := { s.run with svc := true } }.norMove .f .norRead (s.imageBytes 1 k)).lineReads s.jnl.ring.length
      ((s0.startPart 1 k).rebuildStreams).canvasReady

def execServiceFwStart (s : State) : Answer := answer s.svcStart

/-- A profile's load as a command, for the tests of one (15 R337 step 6). -/
def profileLoadOf (n : Nat) : Packet :=
  { stream := .intern, path := .inside, opcode := 0x0601, target := 0xFFFF, seq := 0, dry := false,
    params := some (.profileLoad { cycle := 0, win := 0, asap := false } (BitVec.ofNat 8 n)), bytes := [] }

/-- What applying profile `n` comes to, checked as though in CONFIG (15 R337 step 6, R342). -/
def State.tryProfile (s : State) (n : Nat) : Nat :=
  let t := { s with dev := { s.dev with mode := .config } }
  match s.profileImage n with
  | none => stBadParam
  | some b =>
    let v := s.profileStatus b
    if v != 0 then v
    else match t.trials [] [(0, profileLoadOf n)] with
      | x :: _ => x.2.2.status
      | [] => stBadParam

/-- PROFILE_FAILED, and the security record of the image (15 R342, 17 R399). -/
def State.profileFailed (s : State) (n st : Nat) : State :=
  let v := profileVersion ((s.profileImage n).getD [])
  (s.imageRefused (0x10 + n) st v (s.preg 0x043).toNat).event 0x0A04 0 3 n st

/-- The first profile of a list that can be applied, with the failures before it recorded. -/
def State.chooseProfile (s : State) : List Nat → State × Option Nat
  | [] => (s, none)
  | n :: ns =>
    let st := s.tryProfile n
    if st = 0 then (s, some n) else (s.profileFailed n st).chooseProfile ns

/-- The profile is applied at once, its cycle settings at the next window 0 (15 R340, 08 R177). -/
def State.applyProfile (s : State) (n : Nat) (pins : Bool) : State :=
  let t := { s with dev := { s.dev with mode := .config } }
  let d := (t.draft.addAll [(0, profileLoadOf n)]).1
  let s1 := { s with cmds := { s.cmds with mods := lastMods d.mods } }.switchTo d.st false
  let ks := (profilePackets ((s.profileImage n).getD [])).getD []
  let s2 := { s1 with
    trk2 := { s1.trk2 with dueCyc := some d.st.trk.cfg }
    cmds := { s1.cmds with mods := [], written := s1.cmds.written ++ (tablesOf ks).map fun t => (t, none) }
    dev := { s1.dev with profile := some n, profilePins := pins } }
  s2.profileOuts ks

/-- On wake a port takes back its error state under 07 R165. -/
def wakeErr (errState : Nat) (quar : Bool) (times : List Nat) : PortErr :=
  { errState := if errState = 2 then 2 else 0, tec := if errState = 2 then 256 else 0, quarantined := quar, entries := times }

/-- The error states saved in PD3, before any port is enabled. -/
def State.wakeErrors (s : State) : State :=
  forAll (fun (e : Nat × PortCfg × Nat × Bool × List Nat) (s : State) =>
    s.modPort e.1 fun v => { v with err := wakeErr e.2.2.1 e.2.2.2.1 e.2.2.2.2 }) s.kept.ports s

/-- A port that was bus-off starts in BUS_OFF under its own policy, which the kept settings give (07 R165). -/
def State.wakeBusOff (s : State) (p : Nat) : State :=
  (s.modPort p fun v => if v.stat.state = .recovering then
    { v with stat := { v.stat with state := .busOff }, err := { v.err with recovSeq := 0 } } else v).policyNow p

/-- A port that a profile has just enabled is DISABLED still. -/
def State.undoEnable (s : State) (p : Nat) : State :=
  (s.disablePort p).modPort p fun v => { v with cfg := { v.cfg with pc := { v.cfg.pc with ctrl := setBit v.cfg.pc.ctrl 0 false } } }

/-- The port settings saved in PD3 replace those of the profile (15 R348). They act on the port as though the profile had not
enabled it: its interface changes while it is DISABLED alone (02 R32). -/
def State.wakePorts (s : State) : State :=
  let s1 := forAll (fun (e : Nat × PortCfg × Nat × Bool × List Nat) (s0 : State) =>
    let v := (s0.port e.1).cfg
    let s := s0.undoEnable e.1
    s.applyPortCfg e.1 { e.2.1 with quota := v.quota, errAllow := v.errAllow } false) s.kept.ports s
  let s2 := forAll (fun (e : Nat × PortCfg × Nat × Bool × List Nat) (s : State) => s.wakeBusOff e.1) s.kept.ports s1
  { s2 with kept := {} }

/-- The start-up profiles in the order in which they are tried (15 R341, R342, R348). -/
def State.startProfiles (s : State) : List Nat :=
  let pol := s.preg 0x200
  let dflt := bits pol 10 8
  if s.dev.resetCause = 4 then
    match s.kept.profile with
    | none => []
    | some n => if n = dflt then [n] else [n, dflt]
  else
    let sel := if bit pol 0 then s.run.diLatch else dflt
    if sel = dflt then [dflt] else [sel, dflt]

/-- The pins chose the profile that was applied. -/
def State.pinsChose (s : State) (n : Nat) : Bool :=
  s.dev.resetCause != 4 && bit (s.preg 0x200) 0 && s.run.diLatch = n

/-- CONFIG is entered from BOOT or FAULT (15 R333, R339). -/
def State.enterConfig (s : State) : State :=
  let s1 := s.quietPorts.changeMode .config
  { s1 with dev := { s1.dev with cfgExit := s1.dev.profile.isSome, cfgFromStart := true, cfgStarts := 0, holdFrom := none } }

/-- PROFILE_APPLY (15 R337 steps 6 and 7, R342, R348). -/
def State.profileApply (s : State) : State :=
  let up := s.run.domains.contains 9 && s.run.domains.contains 10 && s.mem.ready
  if s.dev.mode != .boot || !s.run.svc || !up then s
  else
    let wake := s.dev.resetCause = 4
    let (s1, n) := (if wake then s.wakeErrors else s).chooseProfile s.startProfiles
    let s2 := match n with
      | some n => (s1.norMove .f .norRead ((s1.profileImage n).getD []).length).applyProfile n (s1.pinsChose n)
      | none => s1
    let s3 := if wake && n.isSome then s2.wakePorts else if wake then { s2 with kept := {} } else s2
    s3.enterConfig.drain

def execProfileApply (s : State) : Answer := answer s.profileApply

/-! ## Service-firmware faults (16 R372) -/

/-- Amioc answers the FW_ACTIVATE that it executed itself (16 R367). -/
def State.answerAct (s : State) (st : Nat) : State :=
  match s.mgt.act with
  | none => s
  | some (k, r) => { s with mgt := { s.mgt with act := none } }.mgmtReply
      { stream := .mgmt, path := k.path, opcode := k.opcode, status := st, seq := k.seq, jidx := 0xFFFF, result := r, credit := false }

/-- The commands that have activated a part come to their end (16 R365, 13 R309). -/
def State.endCommands (s : State) (p : Nat) (st : Nat) : State :=
  let mine := s.cmds.actions.filter fun x => match x.pkt.params with
    | some (.fwActivate _ q) => q.toNat = p
    | _ => false
  forAll (fun (x : Sched) (s : State) =>
    { s with cmds := { s.cmds with actions := s.cmds.actions.filter fun y => y.jseq != x.jseq } }.finish x
      { status := st, result := x.result }) mine s

/-- The activation of a part ends with a status. -/
def State.endActivation (s : State) (p : Nat) (st : Nat) : State :=
  if p = 2 then (s.endCommands p st).answerAct st else s.endCommands p st

/-- The Amioc ROM copies the active slot over keep link P, verifies it and falls back to the other one, whatever the frame die does
(16 R363); with neither Amioc does not run. -/
def State.amiocStart (s : State) : State :=
  let s0 := { s with link := { s.link with amioc := false, sensStale := true } }.modPart 2 fun v =>
    { v with running := 0, sram := none, cutover := none }
  match s.startSlot 2 with
  | none => s0
  | some k =>
    let s1 := (s0.norMove .p .norRead (s.imageBytes 2 k)).runSlot 2 k
    if k = s.fwSlot 2 then s1 else s1.event 0x0702 2 3 k 0

/-- POWER_DIE_START: the machine enters START and reads its configuration; every input filter starts (18 R402, R407,
19 R431); the mode is INSERT (15 R333); Amioc starts whatever the frame die does (16 R363). -/
def State.powerStart (s : State) : State :=
  if s.pwr.hs == .off && (s.pwr.feedA.ok || s.pwr.feedB.ok) then
    let s1 := { s with
      pwr := { s.pwr with present := true, pgood := false }
      pwr2 := { s.pwr2 with powered := true }
      fld := { s.fld with di := [], samples := 0 }
      fw := s.fw.amiocOff
      link := { s.link with amioc := false, sensStale := true, askIn := [] } }
    (s1.enterStart.frameDown .insert).amiocStart
  else s

def execPowerDieStart (s : State) : Answer := .next s.powerStart

/-- The old slot is started again after an activation that has failed (16 R365). -/
def State.cutoverFailed (s : State) (p : Nat) (old : Word) : State :=
  let v := versionOf (s.standbyImage p)
  let s1 := s.modPart p fun x => { x with cutover := none, running := if p = 1 then 0 else old }
  let s2 := if p = 2 then s1.amiocStart.resetTarget 7 else s1
  (s2.event 0x0704 p 3 v.toNat 0).endActivation p stHwFault

/-- A trusted fault breaks off a cutover of Buckram or the service firmware: the slot in FW_SLOTS stands (16 R377). -/
def State.breakCutovers (s : State) : State :=
  forAll (fun p (s : State) => s.modPart p fun v => { v with cutover := none }) [0, 1] s

/-- FW_ACTIVATE waits for the report of a part. -/
def State.activating (s : State) (p : Nat) : Bool :=
  s.cmds.actions.any fun x => match x.pkt.params with
    | some (.fwActivate _ q) => q.toNat = p
    | _ => false

/-- An activation that the fault broke off fails once the old slots run (13 R309, 16 R377). -/
def State.failBroken (s : State) : State :=
  forAll (fun p (s : State) => if s.activating p && (s.part p).cutover.isNone then
    (s.cutoverFailed p 0).modPart p fun v => { v with running := (s.part p).running } else s) [0, 1] s

/-- The fourth fault within 60 s of the first of the three before it. -/
def State.fourthFault (s : State) : Bool :=
  match s.fw.faults with
  | [d, _, _, a] => decide (d ≤ a + 60000000)
  | _ => false

/-- The slot that Buckram starts after the fault (16 R372). -/
def State.chooseSlot (s : State) : State :=
  if !s.fourthFault then s
  else
    let other := 1 - (s.part 1).active
    let good : Bool := match (s.part 1).image other with | some b => s.fwStatusOf 1 b = 0 | none => false
    if good then ((s.norMove .f .norRead (s.imageBytes 1 other)).modPart 1 fun v =>
      { v with active := other, sram := v.image other }).event 0x0702 1 3 other 0
    else { s with fw := { s.fw with halted := true } }.event 0x0702 1 3 (s.part 1).active 0

/-- Step 3 of 16 R372: the running SRAM slot is checked against its signature, and reloaded from NOR if the check fails; an
uncorrectable application-SRAM read fails it (log entry 160). -/
def State.checkSram (s : State) (cause : Nat) : State :=
  let v := s.part 1
  let sound := cause != 4 && (match v.sram with | some b => imageSigned Config.firmwareKey b | none => false)
  if sound then s
  else (s.norMove .f .norRead (s.imageBytes 1 v.active)).modPart 1 fun v => { v with sram := v.image v.active }

/-- SERVICE_FW_FAULT. -/
def State.svcFault (s : State) (f : CoreFault) : State :=
  let cut := (s.part 1).cutover
  if !s.run.buckram || !(s.run.svc || cut.isSome) then s
  else
    let cause := if cut.isSome then 5 else f.cause.toNat
    let s1 := if f.cause = 3 then
        { s with run := { s.run with gateViolations := s.run.gateViolations + 1 } }.event 0x0902 f.core.toNat 3 f.info0.toNat
          f.info1.toNat
      else s
    let s2 := ((s1.raise 164).event 0x0701 1 4 cause f.pc.toNat).writeCanvas cause 0 f
    let s3 := { s2.haltSvc with fw := { s2.haltSvc.fw with faults := (s.us :: s.fw.faults).take 4 } }
    let s4 := s3.checkSram cause
    match cut with
    | some old => s4.cutoverFailed 1 old
    | none => s4.chooseSlot

def execServiceFwFault (f : CoreFault) (s : State) : Answer := answer (s.svcFault f)

/-- What a watchdog's expiry shows of the core (log entry 23). -/
def State.watchdogFault (s : State) (cause : Byte) (core : Option Byte) : CoreFault :=
  let w := Config.watchdogSeen s.clk.draws
  { cause := cause, core := core.getD w.1, pc := w.2.1, info0 := w.2.2.1, info1 := w.2.2.2 }

/-- The draw is used up. -/
def State.drawn (s : State) : State := { s with clk := { s.clk with draws := s.clk.draws + 1 } }

/-- CORE_WATCHDOG_EXPIRY: application core k is processor 2 + k of the canvas (16 R372, R375). -/
def execCoreWatchdogExpiry (core : Fin 4) (s : State) : Answer :=
  answer ((s.svcFault (s.watchdogFault 2 (some (BitVec.ofNat 8 (2 + core.val))))).drawn)

/-- SERVICE_FW_RESTART (16 R366, R372): the SRAM copy is started. One whose version has fallen below its counter, or that is no
sound image, is not; a NOR slot that verifies is loaded in its place, with the record of R362 where it is not the active one (16
R360, log entry 160). -/
def State.svcRestart (s : State) : State :=
  if !s.fw.restarting || !s.run.buckram || (s.part 1).cutover.isSome || s.dev.mode = .fault then s
  else
    let s1 := { s with run := { s.run with svcRestarts := s.run.svcRestarts + 1 } }
    if s.startStatus 1 (s.part 1).sram = 0 then (s1.runImage 1 (s.part 1).active (s.part 1).sram).svcRuns
    else match s.startSlot 1 with
      | some k => ((s1.norMove .f .norRead (s.imageBytes 1 k)).startPart 1 k).svcRuns
      | none => s

def execServiceFwRestart (s : State) : Answer := answer s.svcRestart

/-! ## Trusted faults and FAULT (16 R373, 07 R166, 14 R322) -/

/-- Modes in which the trusted pair may fail into FAULT (15 R333). -/
def Mode.faultable : Mode → Bool
  | .boot | .config | .grid | .direct | .dense | .tweed | .service | .hold => true
  | _ => false

/-- A port is held in Gauze by one more cause; copies that have not begun on it are withdrawn (07 R161, 10 R242). -/
def State.gauzePort (s : State) (p c : Nat) : State :=
  let s1 := s.addCause p c
  if (s1.port p).stat.state = .gauze then s1.withdrawCopies p else s1

/-- Every port that is not DISABLED enters GAUZE with cause 4. -/
def State.gauzeAll (s : State) : State := forAll (fun p (s : State) => s.gauzePort p 4) s.enabledPorts s

/-- TRUSTED_FAULT: FAULT, with the canvas and the device-fatal signal; a second FAULT within 60 s, or a fault of the reload,
resets the frame die (15 R333). -/
def State.trustedFault (s : State) (f : CoreFault) : State :=
  if s.dev.mode = .fault then s.frameReset 2
  else if !s.dev.mode.faultable || !s.run.domains.contains 4 then s
  else
    let again := match s.fw.lastFault with | some t => decide (s.us ≤ t + 60000000) | none => false
    let was := s.dev.mode
    let s1 := { s with run := { s.run with buckram := false } }
    let s2 := ((s1.event 0x0701 0 4 f.cause.toNat f.pc.toNat).writeCanvas f.cause.toNat 1 f).haltSvc.modPart 0 fun v =>
      { v with running := 0 }
    let s3 := s2.breakCutovers.changeMode .fault
    let s4 := { s3 with dev := { s3.dev with faultFrom := some was, cfgExit := false, holdFrom := none }
                        fw := { s3.fw with lastFault := some s.us }
                        rcd := { s3.rcd with scanned := false } }
    let s5 := s4.gauzeAll.fatalSignal
    if again then s5.frameReset 2 else s5

def execTrustedFault (f : CoreFault) (s : State) : Answer := answer (s.trustedFault f)

/-- PAIR_WATCHDOG_EXPIRY (16 R373). -/
def execPairWatchdogExpiry (s : State) : Answer :=
  answer ((s.trustedFault (s.watchdogFault 0x12 none)).drawn)

/-- PD3 to PD10 are on, as CONFIG asks for (01 R26). -/
def State.allPowered (s : State) : Bool := (numsFrom 3 8).all fun d => s.run.domains.contains d

/-- FAULT_RECOVERED: Buckram has been reloaded, the service firmware runs, and the device returns through CONFIG (15 R333,
07 R166). When no Buckram slot verifies the reload fails. -/
def State.faultRecovered (s : State) : State :=
  if s.dev.mode != .fault || !s.allPowered then s
  else
    match s.startSlot 0, s.startSlot 1 with
    | none, _ => s.frameReset 2
    | some _, none => s
    | some k0, some k1 =>
      let s1 := { s with run := { s.run with buckram := true, svcRestarts := s.run.svcRestarts + 1 } }
      let s2 := ((((s1.norMove .f .norRead (s.imageBytes 0 k0)).resetTarget 6).startPart 0 k0).startPart 1 k1).stripLoops
      let s3 := forAll (fun p (s : State) => s.dropCause p 4) s2.enabledPorts s2
      s3.enterConfig.failBroken.svcRuns

def execFaultRecovered (s : State) : Answer := answer s.faultRecovered

/-! ## Cutover (16 R361, R365) -/

/-- The commit of 16 R361: FW_SLOTS and the counters, in one line write. -/
def State.commitSlots (s : State) (p : Nat) (b : List Byte) : State :=
  s.setPregs 0x044
    ([(0x044, s.preg 0x044 ^^^ BitVec.ofNat 32 (2 ^ p)), (0x040 + p, BitVec.ofNat 32 (max (s.fwCounter p) (fwFloor b)))] ++
      (if p = 1 then [(0x043, BitVec.ofNat 32 (max (s.preg 0x043).toNat (fwProfileFloor b)))] else [])) none

/-- CUTOVER_TIMEOUT: the old slot is started again (16 R365); for the service firmware that is a fault of cause 5 (16 R372,
R377), and a Buckram that cannot be started is a trusted fault (16 R373). -/
def State.cutoverTimeout (s : State) (p : Nat) : State :=
  match (s.part p).cutover with
  | none => s
  | some old =>
    if p = 1 && s.run.buckram then (s.svcFault (s.watchdogFault 5 none)).drawn
    else
      let s1 := s.cutoverFailed p old
      if p != 0 then s1
      else if (s.startSlot 0).isNone then (s1.trustedFault (s.watchdogFault 0x13 none)).drawn
      else (s1.resetTarget 6).drain

def execCutoverTimeout (part : Fin 3) (s : State) : Answer := answer (s.cutoverTimeout part.val)

/-- CUTOVER_CONFIRMED: the new part runs, the SRAM slots change places, and the commit of 16 R361 follows. A standby image that fails
its start checks does not start, and the old slot is started again (16 R360, R365). -/
def State.cutoverDone (s : State) (p : Nat) : State :=
  match (s.part p).cutover, s.standbyImage p with
  | some old, some b =>
    if s.fwStatusOf p b != 0 then s.cutoverTimeout p
    else
      let s0 := s.modPart p fun v => { v with cutover := none, copy := if p = 2 then none else v.sram }
      let s1 := (s0.runImage p (1 - s.fwSlot p) (some b)).commitSlots p b
      let s2 := s1.event 0x0703 p 1 old.toNat (fwVersion b)
      let s3 := if p = 0 then s2.resetTarget 6 else if p = 2 then { s2 with link := { s2.link with amioc := true } } else s2
      let s4 := s3.endActivation p 0
      if p = 1 then s4.svcRuns else if p = 0 then s4.drain else s4
  | _, _ => s

def execCutoverConfirmed (part : Fin 3) (s : State) : Answer := answer (s.cutoverDone part.val)

end Sys2Proof.Machine
end

