-- ==== Sys2Proof/Machine/Manage.lean ====
section
/-! DEFINITION. The management port and the UART console (19 R440, R441, 16 R367). -/

namespace Sys2Proof.Machine

/-- Amioc runs an image (16 R363). -/
def State.amiocRuns (s : State) : Bool := (s.part 2).sram.isSome && (s.part 2).cutover.isNone

/-- The port answers: PD1 is powered, and Amioc runs (19 R440, 16 R363, R365). -/
def State.portAnswers (s : State) : Bool := s.pwr2.powered && s.amiocRuns

/-- An SMBus command: NACK while Amioc is cut over; none answers without a running Amioc (16 R363). -/
def State.smbus (s : State) (f : State → State) : State :=
  if !s.pwr2.powered then s else if (s.part 2).cutover.isSome then s.emit .nack else if s.portAnswers then f s else s

/-- An SMBus write: one whose PEC fails is ignored and counted (19 R440). -/
def State.smbusWrite (s : State) (pec : Bool) (f : State → State) : State :=
  s.smbus fun s => if pec then f s else { s with mgt := { s.mgt with pec := incSat s.mgt.pec 65535 } }

/-- A console command: without an answer while Amioc is cut over. -/
def State.uart (s : State) (f : State → State) : State := if s.portAnswers then f s else s

/-- The highest of a list of temperatures. -/
def hottest (l : List (BitVec 16)) : Int :=
  match l with
  | [] => 0
  | x :: xs => xs.foldl (fun m y => max m y.toInt) x.toInt

/-- What STATUS shows, in the order of 19 R440; its bytes are not laid out there (log entry 27). -/
def State.statusValues (s : State) : List Int :=
  let r := s.mgt.sens
  let mode := match s.link.modeHeld with | some m => m | none => s.dev.mode.code
  [(s.pwr.hs.code : Int), s.pwr.count, s.pwr.cause, mode, s.fld.filtered.toNat, s.outBits DoS.held, s.outBits DoS.fault,
    s.fld.flags.toNat, r.vfeedA.toNat, r.vfeedB.toNat, r.vout.toNat, hottest r.fd, hottest r.pd, s.rcd.spill.length]

/-- STATUS: SMB_ALERT_N is released. -/
def State.status (s : State) : State :=
  { s with pwr2 := { s.pwr2 with alert := false }, mgt := { s.mgt with alert := false } }.emit (.status s.statusValues)

def execSmbusStatus (s : State) : Answer := .next (s.smbus State.status)
def execUartStatus (s : State) : Answer := .next (s.uart State.status)

/-- DI4 reads high on the power die (18 R417, 19 R440). -/
def State.di4High (s : State) : Bool := s.fld.filtered.getLsbD 4

/-- HS_RELEASE: NACK on the data byte while DI4 reads low, and on a byte other than 0xA5. -/
def execHsRelease (pec : Bool) (data : Byte) (s : State) : Answer :=
  .next (s.smbusWrite pec fun s => if s.di4High && data = 0xA5 then s.hsRelease else s.emit .nack)

def execUartRelease (s : State) : Answer := .next (s.uart fun s => if s.di4High then s.hsRelease else s)

/-- SPILL_READ: the next spill record, oldest first. -/
def State.spillRead (s : State) : State :=
  match s.rcd.spillOrder[s.mgt.spillAt]? with
  | some v => { s with mgt := { s.mgt with spillAt := s.mgt.spillAt + 1 } }.emit (.mgmt v.r.bytes)
  | none => (s.emit (.mgmt (Config.noSpill s.clk.draws))).drawn

def execSpillRead (s : State) : Answer := .next (s.smbus State.spillRead)
def execUartSpill (s : State) : Answer := .next (s.uart State.spillRead)

/-! ## Packets over SMBus -/

/-- PKT_WRITE: 1 to 255 bytes into a buffer of 4 KiB; what does not fit is not acknowledged (log entry 28). -/
def State.pktWrite (s : State) (b : List Byte) : State :=
  if b.isEmpty || decide (255 < b.length) || decide (4096 < s.mgt.req.length + b.length) then s.emit .nack
  else { s with mgt := { s.mgt with req := s.mgt.req ++ b } }

def execPktWrite (pec : Bool) (bytes : List Byte) (s : State) : Answer := .next (s.smbusWrite pec fun s => s.pktWrite bytes)

/-- The packet in the buffer. A buffer whose length is not that of its packet is BAD_LENGTH. -/
def State.bufferPacket (s : State) : Packet :=
  let ws := bytesWords 1024 s.mgt.req
  let k := packetOf .mgmt .port ws
  if s.mgt.req.length = 16 + wordsPlen ws then k else { k with bad := 0x0101 }

/-- Amioc answers a packet itself. -/
def State.amiocReply (s : State) (k : Packet) (r : Res) : State :=
  s.mgmtReply { stream := .mgmt, path := k.path, opcode := k.opcode, status := r.status, seq := k.seq, jidx := 0xFFFF,
                result := r.result, credit := false }

/-- Amioc logs a command in the spill area (16 R367, 17 R396, log entry 24). -/
def State.amiocLog (s : State) : State :=
  let w := Config.amiocRecord s.clk.draws
  let invalid := !s.run.domains.contains 3 || !s.link.up
  let r : Record := { rseq := 0, epoch := 0, code := w.1, time := if invalid then 0 else s.clk.plant.toNat, source := w.2.1,
                      sev := w.2.2.1, flags := 2 + 4 * flag invalid, d0 := w.2.2.2.1, d1 := w.2.2.2.2 }
  { s with rcd := s.rcd.pushSpill { r := r, wrote := s.us, last := s.us, live := false } }.drawn

/-- FW_ACTIVATE of PART 2 by Amioc itself: at once, with its reply once the new firmware reports. -/
def State.amiocActivate (s : State) (k : Packet) : State :=
  if (s.part 2).standby != 2 then s.amiocReply k (onlyStatus stWrongMode)
  else if s.startStatus 2 (s.standbyImage 2) != 0 then
    (s.imageRefused 2 (s.startStatus 2 (s.standbyImage 2)) (s.standbyVersion 2) (s.fwCounter 2)).amiocReply k
      (onlyStatus (s.startStatus 2 (s.standbyImage 2)))
  else
    let r := s.activateResult 2
    let s1 := (s.raise 166).modPart 2 fun v => { v with cutover := some v.running, running := 0 }
    let s2 := { (s1.norMove .p .norRead (s.imageBytes 2 (1 - s.fwSlot 2))) with
                        mgt := { s1.mgt with act := some (k, r) }
                        link := { s1.link with amioc := false, sensStale := true, stale := true } }
    s2.resetTarget 7

/-- The commands for PART 2 that Amioc executes itself; none where it does not (16 R367). -/
def State.amiocRun (s : State) (k : Packet) : Option State :=
  match k.params with
  | some (.fwStage c) =>
    if c.dest.toNat != 2 then none
    else
      let r := s.stageRes .mgmt c
      some (if k.dry then s.amiocReply k r else ((s.stageDo .p .mgmt c r).amiocLog).amiocReply k r)
  | some (.fwVerify p) =>
    if p.toNat != 2 then none
    else
      let r := s.verifyRes 2
      some (if k.dry then s.amiocReply k r else ((s.verifyDo .p 2 r).amiocLog).amiocReply k r)
  | some (.fwActivate _ p) =>
    if p.toNat != 2 then none
    else if k.dry then
      some (s.amiocReply k (if (s.part 2).standby != 2 then onlyStatus stWrongMode
        else if s.startStatus 2 (s.standbyImage 2) != 0 then onlyStatus (s.startStatus 2 (s.standbyImage 2))
        else okWith (s.activateResult 2)))
    else some (s.amiocLog.amiocActivate k)
  | some .fwStatus => (s.query k .fwStatus).map fun r => s.amiocLog.amiocReply k r
  | _ => none

/-- The packet is one of the firmware commands for PART 2 and its parameters are refused, by length or by a reserved field that is
not 0 (00 R5, 13 R292): the part is the first byte after any effective window. -/
def Packet.badPart2 (k : Packet) : Bool :=
  k.params.isNone &&
    (((k.opcode = 0x0901 || k.opcode = 0x0902) && k.bytes[0]? = some 2) || (k.opcode = 0x0903 && k.bytes[8]? = some 2) ||
      k.opcode = 0x0904)

/-- Amioc answers a submitted packet while the frame die runs no service firmware: packet refusals, the firmware commands of
PART 2, and BUSY for every other (19 R440). -/
def State.amiocAnswer (s : State) (k : Packet) : State :=
  if k.bad != 0 && (opClass k.opcode).isSome then s.amiocReply k (onlyStatus k.bad)
  else if k.badPart2 then s.amiocReply k (onlyStatus stBadParam)
  else
    match s.amiocRun k with
    | some t => t
    | none => s.amiocReply k (onlyStatus stBusy)

/-- PKT_SUBMIT. With the service firmware running and the power link down the packet cannot be passed on: NACK, and the
buffer is kept (log entry 28). -/
def State.pktSubmit (s : State) : State :=
  if s.run.svc && !s.link.up then s.emit .nack
  else
    let k := s.bufferPacket
    let s1 := { s with mgt := { s.mgt with req := [], packets := incSat s.mgt.packets 65535 } }
    if s.run.svc then s1.mailPacket k else s1.amiocAnswer k

def execPktSubmit (pec : Bool) (s : State) : Answer := answer (s.smbusWrite pec State.pktSubmit)

/-- PKT_READ: the next bytes of the reply; SMB_ALERT_N is not asserted for replies once none waits. -/
def State.pktRead (s : State) : State :=
  match s.mgt.replies with
  | [] => s.emit (.mgmt [])
  | r :: rs =>
    let rest := r.drop 255
    let left := if rest.isEmpty then rs else rest :: rs
    { s with mgt := { s.mgt with replies := left, alert := s.mgt.alert && !left.isEmpty } }.emit (.mgmt (r.take 255))

def execPktRead (s : State) : Answer := .next (s.smbus State.pktRead)

end Sys2Proof.Machine
end

