-- ==== Sys2Proof/Machine/Keep.lean ====
section
/-! DEFINITION. The keep die: its two links, line writes, spare lines, the scrub and wear (01 R7, 17 R379-R386). -/

namespace Sys2Proof.Machine

/-- One request of a transfer is served: a line write is in progress until KEEP_LINE_WRITE_DONE, any other request is carried
out whole, and what is left of a transfer stays at the front of its link (01 R7). -/
def Keep.serve (k : Keep) (l : KeepLink) (j : KeepJob) (rest : List KeepJob) : Keep :=
  let left := if j.move = .lineWrite || decide (j.parts ≤ 1) then rest else { j with parts := j.parts - 1 } :: rest
  let k1 := match l with
    | .f => { k with jobsF := left, lastLink := .f }
    | .p => { k with jobsP := left, lastLink := .p }
  if j.move = .lineWrite then { k1 with busy := some j } else k1

/-- KEEP_LINK_REQUEST: the next request is served, the links in turn when both wait (01 R7). Nothing begins after the
loss of both feeds (17 R381) nor while the keep die does not answer (17 R385), and Buckram's requests wait while it is cut over
(16 R365). -/
def State.linkRequest (s : State) : State :=
  let k := s.keep
  if k.busy.isSome || k.feedsLost || k.down then s
  else
    match (if (s.part 0).cutover.isSome then [] else k.jobsF), k.jobsP with
    | [], [] => s
    | j :: js, [] => { s with keep := k.serve .f j js }
    | [], j :: js => { s with keep := k.serve .p j js }
    | i :: is_, j :: js => { s with keep := if k.lastLink = .p then k.serve .f i is_ else k.serve .p j js }

def execKeepLinkRequest (s : State) : Answer := .next s.linkRequest

/-! ## Wear (17 R386, R387) -/

/-- A line is written once more; the wear table's own line counts too. `n` bounds the tables of tables. -/
def Keep.countWrite (k : Keep) (line : Nat) : Nat → Keep
  | 0 => k
  | n + 1 =>
    let c := k.wearLow.get 0 line + 1
    if c < 65536 then { k with wearLow := k.wearLow.put line c }
    else Keep.countWrite { k with wearLow := k.wearLow.put line 0, wear := k.wear.put line (k.wear.get 0 line + 1) }
      (0x400 + line / 8) n

/-- The count of a line's writes. -/
def Keep.writes (k : Keep) (line : Nat) : Nat := 65536 * k.wear.get 0 line + k.wearLow.get 0 line

/-- The next free spare line takes over a line, if one is left. -/
def Keep.remap (k : Keep) (line : Nat) : Keep :=
  if k.spares = 0 then k
  else { k with spares := k.spares - 1, remaps := k.remaps + 1, remapped := insertNat line k.remapped,
                wear := k.wear.del line, wearLow := k.wearLow.del line }

/-- PERSIST_WEAR: a line's count reaches 8 x 10^10 writes. -/
def State.persistWear (s : State) (line : Nat) : State :=
  if s.keep.writes line < 80000000000 then s
  else
    let s1 := (s.raise 161).event 0x0801 0 2 line s.keep.spares
    { s1 with keep := if s1.keep.spares = 0 then { s1.keep with wear := s1.keep.wear.del line, wearLow := s1.keep.wearLow.del line }
                      else s1.keep.remap line }

def execPersistWear (line : BitVec 16) (s : State) : Answer := answer (s.persistWear line.toNat)

/-! ## Lines that fail (17 R379, R380) -/

/-- A persistent register takes a value; only values that differ from the factory's are listed. -/
def Keep.setReg (k : Keep) (i : Nat) (v : Word) : Keep :=
  { k with regs := if v = factoryReg i then k.regs.del i else k.regs.put i v }

/-- What the line held reads as 0 from now on: registers, a state line of the power die, a wear count, a journal entry, a record
(17 R380). The second copy and the canvas lines hold nothing that is read by number. -/
def State.clearLine (s : State) (line : Nat) : State :=
  if line < 0x200 then { s with keep := (nums 8).foldl (fun k i => k.setReg (8 * line + i) 0) s.keep }
  else if line = 0x240 || line = 0x241 then { s with keep := { s.keep with area := s.keep.area.del (line - 0x240) } }
  else if decide (0x4000 ≤ line) && decide (line < 0x8000) then
    { s with jnl := { s.jnl with ring := s.jnl.ring.del (line - 0x4000) } }
  else if decide (0x8000 ≤ line) && decide (line < 0x10000) then
    { s with rcd := { s.rcd with ring := s.rcd.ring.del (line - 0x8000) } }
  else if decide (0x400 ≤ line) && decide (line < 0x2400) then
    { s with keep := (nums 8).foldl (fun (k : Keep) i => { k with wear := k.wear.del (8 * (line - 0x400) + i) }) s.keep }
  else s

/-- PERSIST_LINE_LOST. -/
def State.loseLine (s : State) (line : Nat) : State :=
  let s1 := (s.clearLine line).refreshRec.refreshJnl
  { s1 with keep := { s1.keep with lineLost := true, lostLine := line } }.event 0x0805 0 4 line 0

/-- The line is remapped, with its record. -/
def State.remapLine (s : State) (line : Nat) : State :=
  if s.keep.spares = 0 then s
  else
    let k := s.keep.remap line
    { s with keep := k }.event 0x0404 4 2 line k.spares

/-- The accesses of a host that its full queue held back are carried out (17 R384). -/
def State.resumeHeld (s : State) (j : KeepJob) : State :=
  match j.owner with
  | some h => s.replayHeld h
  | none => s

/-- The line holds what was written. -/
def State.lineStored (s : State) (j : KeepJob) : State :=
  let k := j.write.foldl (fun (k : Keep) w => k.setReg w.1 w.2) s.keep
  { s with keep := match j.area with | some b => { k with area := k.area.put (j.line - 0x240) b } | none => k }

/-- A record's line has failed and no spare is left: the recorder is degraded, and the record goes to the spill area
(17 R396). -/
def State.spillRecordOf (s : State) (line : Nat) : State :=
  let s1 := s.degrade .noSpares line []
  match s1.rcd.ring.find (line - 0x8000) with
  | some v => { s1 with rcd := { s1.rcd.pushSpill v with ring := s1.rcd.ring.del (line - 0x8000) } }
  | none => s1

/-- A line that has failed twice. With a spare the spare holds what was written. Without one the content is lost; registers
0x000-0x1FF have their second copy (log entry 29). -/
def State.lineFailed (s : State) (j : KeepJob) : State :=
  if s.keep.spares != 0 then (s.lineStored j).remapLine j.line
  else if 0x8000 ≤ j.line then s.spillRecordOf j.line
  else if j.line < 0x40 then s.lineStored j
  else s.loseLine j.line

/-- KEEP_LINE_WRITE_DONE: the line is read back; a first failure repeats the write, a second one remaps the line. The keep die may
have become unreachable during the write (17 R400). -/
def State.lineDone (s : State) (r : ReadBack) : State :=
  match s.keep.busy with
  | none => s
  | some j =>
    let k := s.keep.countWrite j.line 3
    match r with
    | .equal => (({ s with keep := { k with busy := none } }).lineStored j).resumeHeld j
    | .differs =>
      if j.tries = 0 then { s with keep := { k with busy := some { j with tries := 1 } } }
      else (({ s with keep := { k with busy := none } }).lineFailed j).resumeHeld j
    | .noAnswer => s.keepLost

def execKeepLineWriteDone (r : ReadBack) (s : State) : Answer := answer (s.lineDone r)

/-! ## The scrub (17 R379, R380) -/

/-- A corrected line is counted and recorded as keep memory (04 R100, 17 R399). -/
def State.keepFixed (s : State) (line : Nat) : State :=
  let s1 := { s with keep := { s.keep with corrected := s.keep.corrected + 1 } }
  (s1.raise 159).event 0x0401 4 1 (32 * line) s1.keep.corrected

/-- An uncorrectable line is remapped; the first copy of registers 0x000-0x1FF is rebuilt from the second, unless that is
lost too. A ring line that fails with no spare left degrades the recorder (17 R396). -/
def State.keepBad (s : State) (bad : List Nat) (line : Nat) : State :=
  let s1 := { s with keep := { s.keep with uncorrectable := s.keep.uncorrectable + 1 } }
  let s2 := (s1.raise 160).event 0x0402 4 3 (32 * line) 0
  let s3 := if s2.keep.spares = 0 && decide (0x8000 ≤ line) then s2.degrade .noSpares line [] else s2.remapLine line
  if line < 0x40 && !bad.contains (0x200 + line) then s3 else s3.loseLine line

/-- The lines of a scrub whose 36 symbols cannot be corrected (17 R379). -/
def badLines (reads : List (BitVec 16 × List Byte)) : List Nat :=
  (reads.filter fun e => lineDecode e.2 = .bad).map fun e => e.1.toNat

/-- One line that the scrub has read. -/
def State.keepRead (s : State) (bad : List Nat) (line : Nat) (symbols : List Byte) : State :=
  match lineDecode symbols with
  | .clean => s
  | .fixed _ => s.keepFixed line
  | .bad => s.keepBad bad line

/-- KEEP_SCRUB: Buckram reads and decodes every line; `reads` are the symbols of the lines that may show an error. -/
def State.keepScrub (s : State) (reads : List (BitVec 16 × List Byte)) : State :=
  if !s.run.buckram || s.keep.down then s
  else forAll (fun (e : BitVec 16 × List Byte) (s : State) => s.keepRead (badLines reads) e.1.toNat e.2) reads s

def execKeepScrub (reads : List (BitVec 16 × List Byte)) (s : State) : Answer := answer (s.keepScrub reads)

/-! ## Commits in progress are completed (15 R346) -/

/-- Every line write that waits is made; `n` bounds them. -/
def State.finishWrites (s : State) : Nat → State
  | 0 => s
  | n + 1 => if s.keep.down || (s.keep.busy.isNone && s.keep.jobsF.isEmpty && s.keep.jobsP.isEmpty) then s
             else State.finishWrites (s.linkRequest.lineDone .equal) n

/-- Events that wait are recorded; `n` bounds them. -/
def State.finishRecords (s : State) : Nat → State
  | 0 => s
  | n + 1 => if s.rcd.queue.isEmpty then s else State.finishRecords s.recordFront n

/-- Records, their pending counts and the line writes are completed. -/
def State.finishCommits (s : State) : State :=
  let s1 := (s.finishRecords s.rcd.queue.length).commitCounts
  s1.finishWrites ((s1.keep.jobsF ++ s1.keep.jobsP).foldl (fun n j => n + max 1 j.parts) 1)

end Sys2Proof.Machine
end

