-- ==== Sys2Proof/Machine/Sleep.lean ====
section
/-! DEFINITION. SLEEP: entry, what PD3 keeps, and wake (15 R346-R348, 07 R165, 14 R330). -/

namespace Sys2Proof.Machine

/-! ## Wake events (15 R347) -/

/-- A wake event's number in WOKEN (17 R399), which is its WAKE bit but for SMBus. -/
def wakeNum : WakeEvent → Nat
  | .bus => 0 | .cycIn => 1 | .host => 2 | .fieldInput => 3 | .smbus => 4

/-- A port whose RXD pin can wake the device: F-ports, and B-ports in external mode. -/
def PortCfg.wakes (c : PortCfg) (p : Nat) : Bool := decide (16 ≤ p) || c.physel

/-- An enabled port of the list of those enabled at entry can wake the device. -/
def Retained.busWakes (k : Retained) (cfg : Nat → PortCfg) : Bool := k.enabled.any fun p => (cfg p).wakes p

/-- The event is a wake event under the WAKE mask kept in PD3. -/
def Retained.allows (k : Retained) (cfg : Nat → PortCfg) : WakeEvent → Bool
  | .bus => bit (BitVec.ofNat 32 k.wake) 0 && k.busWakes cfg
  | .cycIn => bit (BitVec.ofNat 32 k.wake) 1
  | .host => bit (BitVec.ofNat 32 k.wake) 2
  | .fieldInput => bit (BitVec.ofNat 32 k.wake) 3
  | .smbus => true

/-- The settings of a port as PD3 keeps them. -/
def Retained.cfg (k : Retained) (p : Nat) : PortCfg := (k.ports.get ((PortS.init p).cfg, 0, false, []) p).1

/-- Wake: the frame die is reset with cause 4, and the interrupt state returns. -/
def State.wake (s : State) (n : Nat) : State := ((s.frameReset 4).restoreIrq).event 0x0A06 0 1 n 0

/-- WAKE_EVENT: in SLEEP it wakes the device; during entry it is latched. -/
def State.wakeEvent (s : State) (w : WakeEvent) : State :=
  if s.dev.mode = .sleep then (if s.kept.allows s.kept.cfg w then s.wake (wakeNum w) else s)
  else if s.kept.entering && s.kept.allows (fun p => (s.port p).cfg) w && s.kept.latched.isNone then
    { s with kept := { s.kept with latched := some (wakeNum w) } }
  else s

def execWakeEvent (w : WakeEvent) (s : State) : Answer := .next (s.wakeEvent w)

/-- WAKE over SMBus, and the console's wake (19 R440, R441). -/
def execSmbusWake (pec : Bool) (s : State) : Answer := .next (s.smbusWrite pec fun s => s.wakeEvent .smbus)
def execUartWake (s : State) : Answer := .next (s.uart fun s => s.wakeEvent .smbus)

/-! ## Entry (15 R346) -/

/-- Every port is disabled: one with a frame in progress at its next bus idle (02 R53). -/
def State.sleepPorts (s : State) : State :=
  forAll (fun p (s : State) =>
    if s.inFrame p then s.modPort p fun v => { v with stat := { v.stat with disable := true } } else s.disablePort p)
    s.enabledPorts s

/-- Port settings and error states, the active profile and the WAKE mask go to PD3. -/
def State.savePorts (s : State) (wake : Nat) : State :=
  let one (p : Nat) : Nat × PortCfg × Nat × Bool × List Nat :=
    let v := s.port p
    (p, v.cfg, v.err.errState, v.err.quarantined, v.err.entries)
  { s with kept := { s.kept with ports := (nums 64).map one, profile := s.dev.profile, wake := wake } }

/-- The tracker keeps SRC 0 or 1; with SRC 2 or 3 it enters HOLDOVER (15 R346). -/
def Trk.asleep (t : Trk) : Trk :=
  if 2 ≤ bits t.cfg.src 2 0 then { t with state := .holdover, missing := 0 } else t

/-- Power leaves PD4 to PD11: what PD3, the keep die and the power die do not hold is lost (01 R29). -/
def State.powerDown (s : State) : State :=
  let t := s.frameWipe true
  { t with dev := { t.dev with mode := .sleep, prevMode := s.dev.mode }, run := { t.run with domains := [3] }
           fld := { t.fld with dos := s.fld.dos }, trk := t.trk.asleep, kept := { t.kept with entering := false } }

/-- The last part of entry, once every port is disabled. -/
def State.fallAsleep (s : State) (wake : Nat) : State :=
  let s1 := (s.raise 171).event 0x0A01 0 1 s.dev.mode.code Mode.sleep.code
  let s2 := s1.event 0x0A05 0 1 wake 0
  let s3 := ((s2.finishCommits).savePorts wake).saveIrq.powerDown
  match s3.kept.latched with
  | some n => { s3 with kept := { s3.kept with latched := none } }.wake n
  | none => s3

/-- SLEEP_ENTRY, 10 ms after the reply to SLEEP (13 R299): ports with a frame in progress go first, and the entry is completed
once they are disabled. -/
def State.sleepEntry (s : State) : State :=
  match s.cmds.sleepDue with
  | none => s
  | some wake =>
    if s.dev.mode != .config && s.dev.mode != .hold then s
    else
      let on := s.enabledPorts
      let s1 := { s with kept := { s.kept with enabled := on.foldl (fun l p => insertNat p l) s.kept.enabled, wake := wake,
                                               entering := true } }.sleepPorts
      if s1.enabledPorts.isEmpty then s1.fallAsleep wake else s1

def execSleepEntry (s : State) : Answer := answer s.sleepEntry

end Sys2Proof.Machine
end

