-- ==== Sys2Proof/Machine/Link.lean ====
section
/-! DEFINITION. The power link and its mirror, the reference clock, the Silk PLLs, the power domains, Amioc's watchdog and the
resets of the frame die (01 R8, R9, R21-R30, R458, 18 R428, 20 R447). -/

namespace Sys2Proof.Machine

/-! ## The power link (01 R8, R9) -/

/-- POWER_LINK_TRANSFER: failed transfers are counted while the link is up, good ones while it is down. -/
def State.linkTransfer (s : State) (ok : Bool) : State :=
  if s.link.up then { s with link := { s.link with bad := if ok then 0 else s.link.bad + 1 } }
  else { s with link := { s.link with good := if ok then s.link.good + 1 else 0 } }

def execPowerLinkTransfer (crcOk : Bool) (s : State) : Answer := .next (s.linkTransfer crcOk)

/-- POWER_LINK_DOWN: after 8 failed transfers in a row. -/
def State.linkDown (s : State) : State :=
  if !s.link.up || decide (s.link.bad < 8) then s
  else
    { s with link := { s.link with up := false, good := 0, stale := true, downAt := s.us,
                                   modeHeld := some s.dev.mode.code } }.event 0x050B 2 3 s.link.bad 0

def execPowerLinkDown (s : State) : Answer := .next s.linkDown

/-- POWER_LINK_TRAINING: the training sequence changes no state; its transfers are POWER_LINK_TRANSFER. -/
def execPowerLinkTraining (s : State) : Answer := .next s

/-- What waits in the mailboxes for the link passes. -/
def State.releaseReplies (s : State) : State := (s.passOut s.link.askOut.length).passIn s.link.askIn.length

/-- The limits and the commanded outputs as they now stand are sent to the power die. -/
def State.sendHeld (s : State) : State :=
  { s with
    pwr := { s.pwr with limits := s.pwr.heldLimits.getD s.pwr.limits, heldLimits := none }
    fld := { s.fld with dos := s.fld.dos.map fun e => (e.1, e.2.take) } }

/-- POWER_LINK_UP: after 16 good transfers in a row; the first two steps of 01 R9. The other two come with the complete
mirror. -/
def State.linkUp (s : State) : State :=
  if s.link.up || decide (s.link.good < 16) then s
  else
    let s1 := { s with link := { s.link with up := true, bad := 0, good := 0, modeHeld := none, spillDue := true } }
    (s1.sendHeld.sendDi.releaseReplies.event 0x050C 2 1 ((s.us - s.link.downAt) / 1000) 0).raiseHeld

def execPowerLinkUp (s : State) : Answer := answer s.linkUp

/-- A running Amioc reports for the first time since its start: DEV_FW_MGMT and AMIOC_RUN (11). -/
def State.amiocReports (s : State) : State := { s with link := { s.link with amioc := s.amiocRuns } }

/-- The spill records follow the first complete mirror after the link has come up (01 R9, 17 R396). -/
def State.sendSpill (s : State) : State :=
  if !s.link.spillDue then s
  else
    let s1 := { s with link := { s.link with spillDue := false } }
    if s1.run.buckram && s1.rcd.scanned && s1.rcd.degraded = .no then s1.absorbSpill else s1

/-- MIRROR_UPDATE: a complete mirror arrives, and the stale marks clear. -/
def State.mirrorUpdate (s : State) : State :=
  if !s.link.up || !s.pwr2.powered || (s.part 2).cutover.isSome then s
  else
    let s1 := s.amiocReports
    if !s1.link.amioc then s1
    else
      let words := mirrorOffsets.foldl (fun (t : Tbl Word) o => t.put o (s1.pwrWord o)) []
      { s1 with link := { s1.link with mirror := words, lowSeen := s1.fld.low, stale := false, sensStale := false } }.sendSpill

def execMirrorUpdate (s : State) : Answer := answer s.mirrorUpdate

/-- AMIOC_WATCHDOG_EXPIRY: Amioc is reset and reloaded (01 R21, 14 R329). -/
def State.amiocWatchdog (s : State) : State :=
  let s1 := { s with link := { s.link with askIn := [] } }.amiocStart
  (s1.resetTarget 7).event 0x0705 2 3 0 0

/-- A watchdog expiry during Amioc's own cutover resets the target of the interrupt controller and is otherwise left to
CUTOVER_TIMEOUT (14 R329). -/
def execAmiocWatchdogExpiry (s : State) : Answer :=
  answer (if (s.part 2).cutover.isSome then s.resetTarget 7 else s.amiocWatchdog)

/-! ## The reference clock (01 R23, R458) -/

/-- Modes from which a clock fault or a rail drop resets the frame die (15 R333). -/
def Mode.resettable (m : Mode) : Bool := m.faultable || m == .fault

/-- REFERENCE_CLOCK_FAULT: the frame die is held in BOOT, and Amioc writes the record. In SLEEP the record is
written, and the wake finds the frame die held. -/
def State.clockFault (s : State) : State :=
  if !s.run.domains.contains 3 then s
  else if s.dev.mode.resettable then
    let w := Config.clockRecord s.clk.draws
    ((s.frameReset 1).event 0x050A w.1 4 w.2.1 w.2.2).drawn
  else
    let w := Config.clockRecord s.clk.draws
    ({ s with run := { s.run with refFault := true, refGood := false } }.event 0x050A w.1 4 w.2.1 w.2.2).drawn

def execReferenceClockFault (s : State) : Answer := .next s.clockFault

/-- REFERENCE_CLOCK_GOOD: the frame die goes on from BOOT. -/
def execReferenceClockGood (s : State) : Answer := .next { s with run := { s.run with refFault := false, refGood := true } }

/-! ## The Silk PLLs (01 R24) -/

def State.pll (s : State) (k : Nat) : Nat := if k = 0 then s.run.pll0 else s.run.pll1

def State.setPll (s : State) (k v : Nat) : State :=
  if k = 0 then { s with run := { s.run with pll0 := v } } else { s with run := { s.run with pll1 := v } }

/-- The enabled M-LVDS ports that a PLL serves. -/
def State.pllPorts (s : State) (k : Nat) : List Nat :=
  (numsFrom (8 * k) 8).filter fun p => (s.port p).enabled && (s.port p).mlvds p

/-- SILK_PLL_LOCK_LOST: the ports that the PLL serves enter Gauze. -/
def State.pllLost (s : State) (k : Nat) : State :=
  if s.pll k = 0 then s
  else forAll (fun p (s : State) => (s.dropFrame p).gauzePort p 3) (s.pllPorts k) (s.setPll k 0)

def execSilkPllLockLost (pll : Fin 2) (s : State) : Answer := answer (s.pllLost pll.val)

/-- SILK_PLL_RELOCK_ATTEMPT: every 1 ms while PD11 is on. -/
def State.pllRelock (s : State) (k : Nat) (locks : Bool) : State :=
  if s.run.domains.contains 11 && s.pll k = 0 && locks then s.setPll k 1 else s

def execSilkPllRelockAttempt (pll : Fin 2) (locks : Bool) (s : State) : Answer := .next (s.pllRelock pll.val locks)

/-- SILK_PLL_LOCK_HELD: lock has been held for 1 ms, and the ports integrate. -/
def State.pllHold (s : State) (k : Nat) : State :=
  if s.pll k = 1 then forAll (fun p (s : State) => s.dropCause p 3) (s.pllPorts k) (s.setPll k 2) else s

def execSilkPllLockHeld (pll : Fin 2) (s : State) : Answer := .next (s.pllHold pll.val)

/-! ## Power domains (01 R26-R30) -/

/-- The domains that must be on before a domain, in the order of 01 R27. -/
def domainsBefore : Nat → List Nat
  | 3 => [] | 4 => [3] | 8 => [3, 4] | 6 => [3, 4, 8] | 7 => [3, 4, 8] | 9 => [3, 4, 8, 6, 7] | 10 => [3, 4, 8, 6, 7]
  | 5 => [3, 4, 8, 6, 7, 9, 10] | 11 => [3, 4, 8, 6, 7, 9, 10, 5]
  | _ => []

/-- The rails that a domain asks for, in MGT_RAIL order: VDD_CORE, VDD_SRAM, VDD_APP, VDD_IO18 and VDD_IO33 for the first step;
VDDA_PCIE and VDDH_PCIE; VDD_SILK (20 R446). -/
def domainRails : Nat → List Nat
  | 3 => [4, 5, 6, 7, 8] | 6 | 7 => [10, 11] | 11 => [9]
  | _ => []

/-- The domain's turn has come: the frame die runs, its predecessors are on, no rail it asks for stands outside its window, and
what R26, R23 and 15 R337 step 2 ask for holds: PD4 waits for the reference clock to be good. In FAULT PD5 is powered without
Buckram, its cores in reset. The command stands for the rails' 1 ms in range (20 R446, log entry 155). -/
def State.domainDue (s : State) (d : Nat) : Bool :=
  decide (3 ≤ d) && !s.run.domains.contains d && (domainsBefore d).all (fun e => s.run.domains.contains e) &&
    (if d = 11 then s.silkWanted && s.dev.mode.faultable && s.dev.mode != .boot
     else s.dev.mode == .boot || s.dev.mode == .fault) &&
    (domainRails d).all (fun r => !s.mgt.railOut.contains r) && (d != 4 || s.run.refGood) && (d != 5 || s.run.buckram || s.dev.mode == .fault)

/-- DOMAIN_SUPPLY_GOOD; with PD3 the tracker starts (08 R175). -/
def State.domainGood (s : State) (d : Nat) : State :=
  if !s.domainDue d then s
  else
    let s1 := { s with run := { s.run with domains := insertNat d s.run.domains } }
    if d = 3 then { s1 with trk := Trk.started s1.defaultCyc s1.now, trk2 := { s1.trk2 with since := s1.clk.ticks } } else s1

def execDomainSupplyGood (domain : Fin 12) (s : State) : Answer := .next (s.domainGood domain.val)

/-- BANK_RETENTION_EXIT: the access proceeds after 200 ns (01 R30). -/
def execBankRetentionExit (bank : Fin 32) (s : State) : Answer :=
  .next { s with run := { s.run with retention := s.run.retention.filter fun b => b != bank.val } }

/-! ## Resets of the frame die (01 R458, 20 R447) -/

/-- RAIL_DROP: cause 0, with a record by Amioc, in every mode with PGOOD; a drop with PGOOD low is no rail drop. -/
def State.railDrop (s : State) (rail : Nat) : State :=
  if !s.pwr.pgood then s
  else
    let w := Config.railRecord s.clk.draws
    ((s.frameReset 0).event w.1 w.2.1 w.2.2.1 w.2.2.2 rail).drawn

def execRailDrop (rail : Fin 12) (s : State) : Answer := .next (s.railDrop rail.val)

/-- FRAME_DIE_RESET, by its cause. A reset by command comes 10 ms after the reply to DEV_RESET (13 R299). -/
def State.dieReset (s : State) : ResetCause → State
  | .pgood => if s.dev.mode.resettable || s.dev.mode == .sleep then s.frameReset 0 else s
  | .clockMonitor => s.clockFault
  | .fault => if s.dev.mode == .fault then s.frameReset 2 else s
  | .command =>
    if s.cmds.resetDue && (s.dev.mode == .config || s.dev.mode == .service || s.dev.mode == .hold) then s.frameReset 3 else s
  | .wake => if s.dev.mode == .sleep then (s.frameReset 4).restoreIrq else s

def execFrameDieReset (cause : ResetCause) (s : State) : Answer := .next (s.dieReset cause)

end Sys2Proof.Machine
end

