-- ==== Sys2Proof/Machine/Memory.lean ====
section
/-! DEFINITION. The scrubber of the frame die's SRAM: corrections, row remapping, and uncorrectable
codewords by place (04 R97-R102, 05 R117). -/

namespace Sys2Proof.Machine

/-! ## Regions and addresses -/

/-- A region's number in records (17 R399). -/
def regionNum : MemRegion → Nat
  | .message => 0 | .application => 1 | .trusted => 2 | .table => 3

/-- Bytes of a region (01, 04 R79, 05 R110). Table addresses below 0x40000 name the active copy (log entry 30). -/
def regionSize : MemRegion → Nat
  | .message => 0xA00000 | .application => 0x180000 | .trusted => 0x40000 | .table => 0x80000

/-- The address names a codeword of the region. -/
def codewordOk (r : MemRegion) (a : Nat) : Bool := decide (a < regionSize r) && a % 16 = 0

/-- The domain that powers a region (01 R26). -/
def regionDomain : MemRegion → Nat
  | .message | .table => 8
  | .application => 5
  | .trusted => 4

/-- The bank of a codeword: address bits [8:4] (01 R10); the other regions are laid out alike (log entry 30). -/
def bankOf (a : Nat) : Nat := a / 16 % 32

/-- The first codeword of a codeword's row of 64 codewords in its bank. -/
def rowOf (a : Nat) : Nat := a / 0x8000 * 0x8000 + 16 * bankOf a

def spareKey (r : MemRegion) (a : Nat) : Nat := 32 * regionNum r + bankOf a

/-- Spare rows left in the codeword's bank, of 8 (04 R101). -/
def MemCtl.sparesLeft (m : MemCtl) (r : MemRegion) (a : Nat) : Nat := 8 - m.sparesUsed.get 0 (spareKey r a)

/-! ## SCRUB_READ (04 R99-R102) -/

/-- Rows of the codeword's bank that are being copied, each to a spare row of its own. -/
def MemCtl.copyingIn (m : MemCtl) (r : MemRegion) (a : Nat) : Nat :=
  (m.copying.filter fun e => e.1 == r && bankOf e.2 == bankOf a).length

/-- The second correction in a row: the row's copy begins, or with no spare row the record says so (04 R101). -/
def State.startCopy (s : State) (r : MemRegion) (a : Nat) : State :=
  if s.mem.copying.contains (r, rowOf a) then s
  else if s.mem.sparesLeft r a ≤ s.mem.copyingIn r a then s.event 0x0403 (regionNum r) 2 a 0
  else { s with mem := { s.mem with copying := s.mem.copying ++ [(r, rowOf a)] } }

/-- The corrected codeword is written back; of message memory the payload pool holds data by address. -/
def State.writeBack (s : State) (r : MemRegion) (a : Nat) (d : List Byte) : State :=
  let g := (a - 0x100000) / 64
  if r = .message && decide (0x100000 ≤ a) && decide (a < 0x500000) && !s.mem.zeroMarks.contains g then
    { s with pool := s.pool.writeN (a - 0x100000) (d.take 16) }
  else s

/-- ECC_CORRECTED (04 R100). -/
def State.eccFixed (s : State) (r : MemRegion) (a : Nat) (d : List Byte) : State :=
  let i := regionNum r
  let n := (s.mem.corrected.getD i 0 + 1) % 2 ^ 32
  let again := s.mem.lastPass.contains (r, a)
  let s1 := { s with mem := { s.mem with corrected := s.mem.corrected.set i n
                                         lastPass := if again then s.mem.lastPass else s.mem.lastPass ++ [(r, a)] } }
  let s2 := ((s1.writeBack r a d).raise 159).event 0x0401 i 1 a n
  if again then s2.startCopy r a else s2

/-- The packets and commands that lie in staging and are not settled: packets not taken, then taken ones. -/
def State.stagedCount (s : State) : Nat :=
  s.cmds.waiting.length + (s.cmds.sched.filter fun x => x.phase = .waiting).length

/-- The `n`-th command in staging is met uncorrectable: it is answered HW_FAULT and not executed (04 R102). -/
def State.faultStaged (s : State) (n : Nat) : State :=
  if n = 0 then s
  else if n ≤ s.cmds.waiting.length then
    { s with cmds := { s.cmds with waiting := s.cmds.waiting.modify (n - 1) fun k => { k with bad := stHwFault } } }
  else
    match (s.cmds.sched.filter fun x => x.phase = .waiting)[n - 1 - s.cmds.waiting.length]? with
    | some x => s.finish x (onlyStatus stHwFault)
    | none => s

/-- A codeword is uncorrectable until it is rewritten. -/
def State.markBad (s : State) (r : MemRegion) (a : Nat) : State :=
  if s.mem.bad.contains (r, a) then s else { s with mem := { s.mem with bad := s.mem.bad ++ [(r, a)] } }

/-- What an uncorrectable codeword of message memory leads to when the scrubber meets it. -/
def State.messageBad (s : State) (a : Nat) : State :=
  let s1 := s.markBad .message a
  if a < 0x100000 then s1.faultObj (a / 64)
  else if 0x9C0000 ≤ a then
    (s1.faultStaged (Config.stagingHit s1.clk.draws % (s1.stagedCount + 1))).drawn
  else s1

/-- The pass has not corrected the codeword: a correction on the next pass is no second one in a row (04 R101). -/
def State.scrubMissed (s : State) (r : MemRegion) (a : Nat) : State :=
  { s with mem := { s.mem with lastPass := s.mem.lastPass.filter fun e => e != (r, a) } }

/-- An uncorrectable codeword, by place (04 R102). Of the table SRAM the first detection alone is reported. -/
def State.scrubBad (s0 : State) (r : MemRegion) (a : Nat) : State :=
  let s := s0.scrubMissed r a
  match r with
  | .message => (s.eccBad 0 a).messageBad a
  | .application => ((s.eccBad 1 a).svcFault (s.watchdogFault 4 none)).drawn
  | .trusted => ((s.eccBad 2 a).trustedFault (s.watchdogFault 0x11 none)).drawn
  | .table => if s.mem.bad.contains (.table, a) then s else (s.eccBad 3 a).markBad .table a

/-- The scrubber has met the codeword without an error. -/
def State.scrubClean (s : State) (r : MemRegion) (a : Nat) : State := s.scrubMissed r a

/-- An object header of which codeword `a` reads as `d`: its CRC does not match, UPD taken as 0, or SELF of an enabled object is
not its index (04 R82). -/
def State.headerMismatch (s : State) (a : Nat) (d : List Byte) : Bool :=
  let o := a / 64
  let k := a % 64
  let h0 := (s.obj o).header o
  let h := h0.take k ++ d.take 16 ++ h0.drop (k + 16)
  let body := (h.take 62).modify 0x23 fun b => b &&& 0x7F#8
  leNat (h.drop 62) != (crc16 body).toNat || ((h.getD 3 0).getLsbD 7 && leNat (h.take 2) % 0x4000 != o)

/-- The object unit's checks on a codeword that the scrub pass has read without an uncorrectable error: a header that fails them is
handled as one (04 R82, R102). -/
def State.checkHeader (s : State) (r : MemRegion) (a : Nat) (d : List Byte) : State :=
  if r = .message && decide (a < 0x100000) && s.headerMismatch a d then (s.eccBad 0 a).faultObj (a / 64) else s

/-- SCRUB_READ of the 20 symbols that stand at an address. -/
def State.scrub (s : State) (r : MemRegion) (a : Nat) (symbols : List Byte) : State :=
  if !s.run.domains.contains (regionDomain r) then s
  else
    match eccDecode symbols with
    | .clean => (s.scrubClean r a).checkHeader r a symbols
    | .fixed d => (s.eccFixed r a d).checkHeader r a d
    | .bad => s.scrubBad r a

def execScrubRead (region : MemRegion) (address : Nat) (symbols : List Byte) (s : State) : Answer :=
  if codewordOk region address then answer (s.scrub region address symbols) else .fault .noSuchAddress

/-- ROW_REMAP_SWITCH: the copy is complete, and the spare row serves (04 R101). -/
def State.rowSwitch (s : State) (r : MemRegion) (a : Nat) : State :=
  if !s.mem.copying.contains (r, rowOf a) then s
  else
    let i := regionNum r
    let k := spareKey r a
    let m := { s.mem with
      copying := s.mem.copying.filter fun e => e != (r, rowOf a)
      sparesUsed := s.mem.sparesUsed.put k (s.mem.sparesUsed.get 0 k + 1)
      remaps := s.mem.remaps.set i ((s.mem.remaps.getD i 0 + 1) % 65536)
      lastPass := s.mem.lastPass.filter fun e => !(e.1 == r && rowOf e.2 == rowOf a) }
    { s with mem := m }.event 0x0403 i 2 a (m.sparesLeft r a)

def execRowRemapSwitch (region : MemRegion) (address : Nat) (s : State) : Answer :=
  if codewordOk region address then .next (s.rowSwitch region address) else .fault .noSuchAddress

/-- TABLE_REPAIR_WRITE: the service firmware has rewritten the codeword of the table SRAM, in the active copy through the repair
path, in the shadow copy itself (04 R102, 05 R117). -/
def State.tableRepair (s : State) (a : Nat) : State :=
  if s.run.svc then { s with mem := { s.mem with bad := s.mem.bad.filter fun e => e != (MemRegion.table, a) } } else s

def execTableRepairWrite (address : Nat) (s : State) : Answer :=
  if codewordOk .table address then .next (s.tableRepair address) else .fault .noSuchAddress

end Sys2Proof.Machine
end

