-- ==== Sys2Proof/Machine/Receive.lean ====
section
/-! DEFINITION. Reception: start of frame, validity, and the copies of a valid frame (01 R12, R13, 02 R47, R56, 05 R108,
R119, 07 R145, R167, 09 R196, 10 R234, R243, R245). -/

namespace Sys2Proof.Machine

/-- The port receives frames now: not while it integrates, nor without an engine to serve it (02 R50, 16 R370, R371). -/
def PortS.listens (v : PortS) : Bool :=
  (v.stat.state = .active || v.stat.state = .gauze) && !v.stat.integrating && !v.stat.causes.contains 5

/-- FRAME_SOF (02 R47): another node's frame starts; a port in suspend transmission becomes its receiver (07 R148). The 11 recessive
bits that end the frame before arm STUCK_DOMINANT again (02 R50, 07 R168, log entry 162). With LOOP_INT the receiver takes the
port's own TXD alone (02, CH_CTRL). -/
def State.frameSof (s : State) (p : Nat) : State :=
  let v := s.port p
  if !v.listens || v.cfg.loopInt || v.stat.rx.isSome || v.stat.tx.isSome then s
  else
    let rx : RxFrame := { sofTick := s.clk.ticks, sofPlant := s.clk.plant, sofWin := v.fence.n, ownWin := v.fence.n,
                          bound := v.mis.suspend }
    s.modPort p fun v => { v.takeCal with
      silk := { v.takeCal.silk with contention := false }
      stat := { v.stat with rx := some rx, phase := 1, busIdle := false }
      mis := { v.mis with suspend := false, lastSender := false, stuckArmed := true } }

def execFrameSof (p : Port) (s : State) : Answer := .next (s.frameSof p.val)

/-! ## Counters at validity -/

/-- CH_RX_FRAMES, the filter counters and REC (02 R56, 05, 07 R145). -/
def PortS.countValid (v : PortS) (rx : RxFrame) : PortS :=
  let c := v.cnt.filtered rx
  { v with
    cnt := { c with rxFrames := c.rxFrames + 1 }
    err := { v.err with recv := if v.stat.state = .active then recAfterGood v.err.recv else v.err.recv } }

/-- A valid frame counts towards BABBLE_MAX (07 R167). -/
def State.countBabble (s : State) (p : Nat) (f : Frame) : State :=
  let v := s.port p
  if v.cfg.babbleMax = 0 then s
  else
    let n := v.mis.babble + 1
    let s1 := s.modPort p fun v => { v with mis := { v.mis with babble := n } }
    if v.cfg.babbleMax < n && !v.mis.babbled then
      ((s1.modPort p fun v => { v with mis := { v.mis with babbled := true }
                                       err := { v.err with babbleEvents := incSat v.err.babbleEvents 65535 } }).flagErr p 0x20).event
        0x0109 p 2 f.id.toNat v.cfg.babbleMax
    else s1

/-! ## First and second copies of a pair (10 R243) -/

/-- Two frames match. -/
def sameFrame (a b : Frame) : Bool :=
  a.fmtByte == b.fmtByte && a.id == b.id && a.len == b.len && a.sdt == b.sdt && a.vcid == b.vcid && a.af == b.af &&
    crc32c a.data == crc32c b.data

/-- A first copy from the other medium that a frame valid at `now` matches. -/
def FirstCopy.matched (c : FirstCopy) (p : Nat) (f : Frame) (now skew : Nat) : Bool :=
  c.port != p && decide (now ≤ c.at_us + skew) && sameFrame c.frame f

/-- Keeps at most 32 unmatched first copies of medium `p`, forgetting the oldest. -/
def forgetOldest (p : Nat) (l : List FirstCopy) : List FirstCopy :=
  if 32 < (l.filter fun c => c.port == p).length then l.eraseP fun c => c.port == p else l

/-- Whether the frame is a first copy, and the pair's memory of first copies after it. -/
def State.firstCopy (s : State) (p win : Nat) (f : Frame) : Bool × State :=
  match (s.copyFor win).pairOf p with
  | none => (true, s)
  | some entry =>
    let v := s.pairs.get {} (p / 2)
    let now := s.us
    match v.first.findIdx? fun c => c.matched p f now (pairSkew entry) with
    | some i => (false, { s with pairs := s.pairs.put (p / 2) { v with first := v.first.eraseIdx i } })
    | none =>
      let c : FirstCopy := { port := p, frame := f, at_us := now }
      (true, { s with pairs := s.pairs.put (p / 2) { v with first := forgetOldest p (v.first ++ [c]) } })

/-- PAIR_COPY_EXPIRY: the oldest unmatched first copy of the pair is forgotten. -/
def execPairCopyExpiry (pair : Fin 32) (s : State) : Answer :=
  .next (let v := s.pairs.get {} pair.val
         if v.first.isEmpty then s else { s with pairs := s.pairs.put pair.val { v with first := v.first.drop 1 } })

/-! ## The copies (01 R13) -/

/-- The object copy of a KIND 1 result (05 R108, R119). -/
def State.objectCopy (s : State) (p : Nat) (rx : RxFrame) (f : Frame) : State :=
  let r := rx.result.getD 0
  if resKind r = 1 then
    let o := resObject (s.filterCopy p rx.sofWin).2 r
    s.frameUpdate o ((s.copyFor rx.sofWin).owner p) f
  else s

/-- TARGET of a received frame's record (09 R200). -/
def State.rxTarget (s : State) (p : Nat) (rx : RxFrame) : Nat :=
  let r := rx.result.getD 0
  if resKind r = 1 then 16384 + resObject (s.filterCopy p rx.sofWin).2 r else 32768 + resValue r

/-- The delivery copy (09 R195-R197, 10 R244, R245): admitted to the window's batch, or kept with the buffer half until the
copies complete. -/
def State.deliveryCopy (s : State) (p : Nat) (rx : RxFrame) (f : Frame) (first : Bool) : State × Option DRec :=
  let r := rx.result.getD 0
  if !(resKind r = 1 || resKind r = 2) then (s, none)
  else
    let rec_ := f.record p (s.rxTarget p rx) (16 * flag rx.fence)
    match s.kindOf rx.ownWin with
    | none => (s.keepEarly rx.ownWin { rec_ := rec_, first := first, late := s.halfBusy rx.ownWin, phase := s.phase,
                                       time := s.clk.plant }, none)
    | some .batch => (s.admitFrame p rx.ownWin rec_, none)
    | some .direct => if first then (s, some { rec_ with flags := rec_.flags + s.mediaFlags p rx.ownWin }) else (s.countDup p, none)
    | some .none => (s, none)

/-- The buffer half is held until the copies are complete. The routes take the frame 2 us after validity (10 R234); a remote
frame is never routed (02 R35). -/
def State.holdHalf (s : State) (p : Nat) (rx : RxFrame) (f : Frame) (d : Option DRec) (first : Bool) : State :=
  let h : RxFrame := { rx with frame := some f, vPhase := s.phase, vTime := s.clk.plant, direct := d }
  let routed := first && !f.rtr && !rx.routes.isEmpty
  s.modPort p fun v => { v with
    stat := { v.stat with rx := none, phase := 0, halves := v.stat.halves ++ [h] }
    silk := { v.silk with contention := false }
    tx := if routed then { v.tx with toRoute := v.tx.toRoute ++ [h] } else v.tx }

/-- A frame in the fence range that is no fence is counted (08 R186). -/
def State.strayFence (s : State) (p : Nat) (rx : RxFrame) (f : Frame) : State :=
  if !rx.fence && fenceIdRange (s.port p).cfg.fenceCfg f then
    (if isFence (s.port p).cfg.fenceCfg s.trk.cfg.winCount f then s else s.fenceAnomaly p 3 (bits f.id 10 0))
  else s

/-- A valid frame can stand in the buffer half: its filter result is released and belongs to it (05 R116), its format is
enabled (02 R36) and no contention was seen (03 R71). -/
def PortS.mayBeValid (v : PortS) (rx : RxFrame) (f : Frame) : Bool :=
  v.listens && rx.key == some f.key && rx.result.isSome && v.cfg.hasFmt f.fmt && !v.silk.contention

/-- The copies of a valid frame: object, delivery, and the half that holds it for the routes (01 R13). -/
def State.takeFrame (s : State) (p : Nat) (rx : RxFrame) (f : Frame) : State :=
  let (first, s1) := s.firstCopy p rx.ownWin f
  let s2 := if first then s1.objectCopy p rx f else s1
  let (s3, d) := s2.deliveryCopy p rx f first
  s3.holdHalf p rx f d first

/-- FRAME_VALID: a frame of another node is valid. -/
def State.frameValid (s : State) (p : Nat) (f : Frame) : State :=
  let v := s.port p
  match v.stat.rx with
  | none => s
  | some rx =>
    if !v.mayBeValid rx f then s
    else
      let s1 := ((s.modPort p fun v => (v.countValid rx).dataSeen f.fmt f.brs).errFollow p).countBabble p f
      (s1.strayFence p rx f).takeFrame p rx f

def execFrameValid (p : Port) (f : Frame) (s : State) : Answer := answer (s.frameValid p.val f)

/-- ATTEMPT_COMPLETED. A frame that a looped port accepts as its own is not filtered and updates no receive object (05 R107), and is
not among CH_RX_FRAMES (02 R56). -/
def execAttemptCompleted (p : Port) (delay : BitVec 12) (s : State) : Answer := answer (s.attemptDone p.val delay.toNat)

/-- COPIES_COMPLETE: the oldest held buffer half is released; in DIRECT its entry is formed (01 R13, 09 R221). -/
def State.copiesComplete (s : State) (p : Nat) : State :=
  match (s.port p).stat.halves with
  | [] => s
  | h :: rest =>
    let s1 := s.modPort p fun v => { v with stat := { v.stat with halves := rest } }
    match h.direct with
    | some r => s1.formDirect p r h.vPhase h.vTime
    | none => s1

def execCopiesComplete (p : Port) (s : State) : Answer := answer (s.copiesComplete p.val)

end Sys2Proof.Machine
end

