-- ==== Sys2Proof/Machine/Rows.lean ====
section
/-! DEFINITION. The rows of the command reference (13): each is a request packet that reaches command staging, with the operands
its entry lists. What becomes of it is decided by `State.acceptPacket`: it waits, is refused, is executed, or is scheduled
for its effective window. -/

namespace Sys2Proof.Machine

/-! ## Device (13, 0x00xx) -/

/-- SEQ_QUERY. -/
def execSeqQuery (hd : Head) (s : State) : Answer :=
  answer (s.acceptPacket (Head.packet hd .seqQuery))

/-- DEV_INFO. -/
def execDevInfo (hd : Head) (s : State) : Answer :=
  answer (s.acceptPacket (Head.packet hd .devInfo))

/-- MODE_SET. -/
def execModeSet (hd : Head) (ew : EW) (mode : Byte) (s : State) : Answer :=
  answer (s.acceptPacket (Head.packet hd (.modeSet ew mode)))

/-- CFG_POLICY_SET. -/
def execCfgPolicySet (hd : Head) (ew : EW) (policy : Byte) (s : State) : Answer :=
  answer (s.acceptPacket (Head.packet hd (.cfgPolicySet ew policy)))

/-- LEAD_SET. -/
def execLeadSet (hd : Head) (ew : EW) (leadSrc lead : Byte) (s : State) : Answer :=
  answer (s.acceptPacket (Head.packet hd (.leadSet ew leadSrc lead)))

/-- HB_PERIOD. -/
def execHbPeriod (hd : Head) (period : BitVec 16) (s : State) : Answer :=
  answer (s.acceptPacket (Head.packet hd (.hbPeriod period)))

/-- DEV_RESET. -/
def execDevReset (hd : Head) (key : Word) (s : State) : Answer :=
  answer (s.acceptPacket (Head.packet hd (.devReset key)))

/-- SLEEP. -/
def execSleep (hd : Head) (wake : Byte) (s : State) : Answer :=
  answer (s.acceptPacket (Head.packet hd (.sleep wake)))

/-! ## Ports (13, 0x01xx) -/

/-- PORT_CONFIG. -/
def execPortConfig (hd : Head) (ew : EW) (c : PortConfigP) (s : State) : Answer :=
  answer (s.acceptPacket (Head.packet hd (.portConfig ew c)))

/-- PORT_SILK. -/
def execPortSilk (hd : Head) (ew : EW) (ctrl peInit : Word) (s : State) : Answer :=
  answer (s.acceptPacket (Head.packet hd (.portSilk ew ctrl peInit)))

/-- PORT_ERRCFG. -/
def execPortErrcfg (hd : Head) (ew : EW) (policy babble : Word) (s : State) : Answer :=
  answer (s.acceptPacket (Head.packet hd (.portErrcfg ew policy babble)))

/-- PORT_FENCE. -/
def execPortFence (hd : Head) (ew : EW) (cfg : Word) (s : State) : Answer :=
  answer (s.acceptPacket (Head.packet hd (.portFence ew cfg)))

/-- PORT_DELIVERY. -/
def execPortDelivery (hd : Head) (ew : EW) (ownDlv mode : Byte) (frames : BitVec 16) (bytes : Word) (s : State) : Answer :=
  answer (s.acceptPacket (Head.packet hd (.portDelivery ew ownDlv mode frames bytes)))

/-- PORT_GUARD. -/
def execPortGuard (hd : Head) (ew : EW) (max : BitVec 16) (s : State) : Answer :=
  answer (s.acceptPacket (Head.packet hd (.portGuard ew max)))

/-- PORT_RECOVER. -/
def execPortRecover (hd : Head) (ew : EW) (s : State) : Answer :=
  answer (s.acceptPacket (Head.packet hd (.portRecover ew)))

/-- PORT_RELEASE. -/
def execPortRelease (hd : Head) (ew : EW) (s : State) : Answer :=
  answer (s.acceptPacket (Head.packet hd (.portRelease ew)))

/-- PORT_REMAP. -/
def execPortRemap (hd : Head) (op : Byte) (s : State) : Answer :=
  answer (s.acceptPacket (Head.packet hd (.portRemap op)))

/-- PORT_STATUS. -/
def execPortStatus (hd : Head) (s : State) : Answer :=
  answer (s.acceptPacket (Head.packet hd .portStatus))

/-! ## Objects (13, 0x02xx) -/

/-- OBJ_CONFIG. -/
def execObjConfig (hd : Head) (ew : EW) (r : ObjRecord) (s : State) : Answer :=
  answer (s.acceptPacket (Head.packet hd (.objConfig ew r)))

/-- OBJ_CONFIG_N. -/
def execObjConfigN (hd : Head) (ew : EW) (rs : List ObjRecord) (s : State) : Answer :=
  answer (s.acceptPacket (Head.packet hd (.objConfigN ew rs)))

/-- OBJ_READ. -/
def execObjRead (hd : Head) (offset len : BitVec 16) (s : State) : Answer :=
  answer (s.acceptPacket (Head.packet hd (.objRead offset len)))

/-- OBJ_POOL. -/
def execObjPool (hd : Head) (s : State) : Answer :=
  answer (s.acceptPacket (Head.packet hd .objPool))

/-! ## Filters, routes and pairs (13, 0x03xx) -/

/-- FLT_PORT. -/
def execFltPort (hd : Head) (ew : EW) (ctrl elem dflt dfltStd : Word) (s : State) : Answer :=
  answer (s.acceptPacket (Head.packet hd (.fltPort ew ctrl elem dflt dfltStd)))

/-- FLT_DTABLE. -/
def execFltDtable (hd : Head) (ew : EW) (first : BitVec 16) (results : List (BitVec 16)) (s : State) : Answer :=
  answer (s.acceptPacket (Head.packet hd (.fltDtable ew first results)))

/-- FLT_ELEM. -/
def execFltElem (hd : Head) (ew : EW) (first : BitVec 16) (elems : List Elem) (s : State) : Answer :=
  answer (s.acceptPacket (Head.packet hd (.fltElem ew first elems)))

/-- FLT_READ. -/
def execFltRead (hd : Head) (what table : Byte) (first count : BitVec 16) (s : State) : Answer :=
  answer (s.acceptPacket (Head.packet hd (.fltRead what table first count)))

/-- RTE_SET. -/
def execRteSet (hd : Head) (ew : EW) (entry : BitVec 64) (ext : Word) (s : State) : Answer :=
  answer (s.acceptPacket (Head.packet hd (.rteSet ew entry ext)))

/-- RTE_QUOTA. -/
def execRteQuota (hd : Head) (ew : EW) (cells : BitVec 16) (s : State) : Answer :=
  answer (s.acceptPacket (Head.packet hd (.rteQuota ew cells)))

/-- RTE_STATUS. -/
def execRteStatus (hd : Head) (s : State) : Answer :=
  answer (s.acceptPacket (Head.packet hd .rteStatus))

/-- PAIR_SET. -/
def execPairSet (hd : Head) (ew : EW) (pair : BitVec 64) (s : State) : Answer :=
  answer (s.acceptPacket (Head.packet hd (.pairSet ew pair)))

/-- PAIR_STATUS. -/
def execPairStatus (hd : Head) (s : State) : Answer :=
  answer (s.acceptPacket (Head.packet hd .pairStatus))

/-! ## Cycle, time and Dense (13, 0x04xx) -/

/-- CYC_SOURCE. -/
def execCycSource (hd : Head) (ew : EW) (src period : Word) (s : State) : Answer :=
  answer (s.acceptPacket (Head.packet hd (.cycSource ew src period)))

/-- CYC_WINDOWS. -/
def execCycWindows (hd : Head) (ew : EW) (jumpTol : BitVec 16) (count : Byte) (starts : List (BitVec 16)) (s : State) : Answer :=
  answer (s.acceptPacket (Head.packet hd (.cycWindows ew jumpTol count starts)))

/-- CYC_COUNT_SET. -/
def execCycCountSet (hd : Head) (ew : EW) (count : Word) (s : State) : Answer :=
  answer (s.acceptPacket (Head.packet hd (.cycCountSet ew count)))

/-- TIME_SET. -/
def execTimeSet (hd : Head) (ew : EW) (time : BitVec 64) (s : State) : Answer :=
  answer (s.acceptPacket (Head.packet hd (.timeSet ew time)))

/-- TIME_QUERY. -/
def execTimeQuery (hd : Head) (s : State) : Answer :=
  answer (s.acceptPacket (Head.packet hd .timeQuery))

/-- DENSE_SET. -/
def execDenseSet (hd : Head) (ew : EW) (port errAllow : Byte) (entries : List (BitVec 64)) (s : State) : Answer :=
  answer (s.acceptPacket (Head.packet hd (.denseSet ew port errAllow entries)))

/-- DENSE_READ. -/
def execDenseRead (hd : Head) (s : State) : Answer :=
  answer (s.acceptPacket (Head.packet hd .denseRead))

/-! ## Rings (13, 0x05xx) -/

/-- RING_DELIVERY. -/
def execRingDelivery (hd : Head) (ew : EW) (base : BitVec 64) (sizeLog : Byte) (s : State) : Answer :=
  answer (s.acceptPacket (Head.packet hd (.ringDelivery ew base sizeLog)))

/-- RING_COMMAND. -/
def execRingCommand (hd : Head) (ew : EW) (base : BitVec 64) (sizeLog : Byte) (s : State) : Answer :=
  answer (s.acceptPacket (Head.packet hd (.ringCommand ew base sizeLog)))

/-- RING_REPLY. -/
def execRingReply (hd : Head) (ew : EW) (base : BitVec 64) (sizeLog : Byte) (s : State) : Answer :=
  answer (s.acceptPacket (Head.packet hd (.ringReply ew base sizeLog)))

/-- RING_WRITEBACK. -/
def execRingWriteback (hd : Head) (ew : EW) (address : BitVec 64) (s : State) : Answer :=
  answer (s.acceptPacket (Head.packet hd (.ringWriteback ew address)))

/-- RING_REARM. -/
def execRingRearm (hd : Head) (s : State) : Answer :=
  answer (s.acceptPacket (Head.packet hd .ringRearm))

/-! ## Profiles (13, 0x06xx) -/

/-- PROFILE_LOAD. -/
def execProfileLoad (hd : Head) (ew : EW) (profile : Byte) (s : State) : Answer :=
  answer (s.acceptPacket (Head.packet hd (.profileLoad ew profile)))

/-- PROFILE_STORE. -/
def execProfileStore (hd : Head) (c : Chunk) (s : State) : Answer :=
  answer (s.acceptPacket (Head.packet hd (.profileStore c)))

/-- PROFILE_LIST. -/
def execProfileList (hd : Head) (s : State) : Answer :=
  answer (s.acceptPacket (Head.packet hd .profileList))

/-! ## Persistent registers, recorder and journal (13, 0x07xx) -/

/-- PREG_WRITE. -/
def execPregWrite (hd : Head) (index : BitVec 16) (values : List Word) (s : State) : Answer :=
  answer (s.acceptPacket (Head.packet hd (.pregWrite index values)))

/-- PREG_READ. -/
def execPregRead (hd : Head) (index count : BitVec 16) (s : State) : Answer :=
  answer (s.acceptPacket (Head.packet hd (.pregRead index count)))

/-- REC_NONCE. -/
def execRecNonce (hd : Head) (s : State) : Answer :=
  answer (s.acceptPacket (Head.packet hd .recNonce))

/-- REC_CLEAR. -/
def execRecClear (hd : Head) (rseq : Word) (nonce : BitVec 64) (sig : List Byte) (s : State) : Answer :=
  answer (s.acceptPacket (Head.packet hd (.recClear rseq nonce sig)))

/-- REC_READ. -/
def execRecRead (hd : Head) (rseq : Word) (count : BitVec 16) (s : State) : Answer :=
  answer (s.acceptPacket (Head.packet hd (.recRead rseq count)))

/-- JNL_READ. -/
def execJnlRead (hd : Head) (jseq : Word) (count : BitVec 16) (s : State) : Answer :=
  answer (s.acceptPacket (Head.packet hd (.jnlRead jseq count)))

/-! ## Power and field I/O (13, 0x08xx) -/

/-- PWR_LIMITS. -/
def execPwrLimits (hd : Head) (ilim : BitVec 16) (tripQ retries : Byte) (s : State) : Answer :=
  answer (s.acceptPacket (Head.packet hd (.pwrLimits ilim tripQ retries)))

/-- PWR_STATUS. -/
def execPwrStatus (hd : Head) (s : State) : Answer :=
  answer (s.acceptPacket (Head.packet hd .pwrStatus))

/-- DO_SET. -/
def execDoSet (hd : Head) (ew : EW) (mask value : Byte) (s : State) : Answer :=
  answer (s.acceptPacket (Head.packet hd (.doSet ew mask value)))

/-- FLD_CONFIG. -/
def execFldConfig (hd : Head) (ew : EW) (autoRestore : Byte) (filters : List (BitVec 16)) (s : State) : Answer :=
  answer (s.acceptPacket (Head.packet hd (.fldConfig ew autoRestore filters)))

/-- FLD_RESTORE. -/
def execFldRestore (hd : Head) (s : State) : Answer :=
  answer (s.acceptPacket (Head.packet hd .fldRestore))

/-- FLD_STATUS. -/
def execFldStatus (hd : Head) (s : State) : Answer :=
  answer (s.acceptPacket (Head.packet hd .fldStatus))

/-! ## Firmware (13, 0x09xx) -/

/-- FW_STAGE. -/
def execFwStage (hd : Head) (c : Chunk) (s : State) : Answer :=
  answer (s.acceptPacket (Head.packet hd (.fwStage c)))

/-- FW_VERIFY. -/
def execFwVerify (hd : Head) (part : Byte) (s : State) : Answer :=
  answer (s.acceptPacket (Head.packet hd (.fwVerify part)))

/-- FW_ACTIVATE. -/
def execFwActivate (hd : Head) (ew : EW) (part : Byte) (s : State) : Answer :=
  answer (s.acceptPacket (Head.packet hd (.fwActivate ew part)))

/-- FW_STATUS. -/
def execFwStatus (hd : Head) (s : State) : Answer :=
  answer (s.acceptPacket (Head.packet hd .fwStatus))

/-! ## Diagnostics and canvas (13, 0x0Axx) -/

/-- DIAG_MEM. -/
def execDiagMem (hd : Head) (s : State) : Answer :=
  answer (s.acceptPacket (Head.packet hd .diagMem))

/-- DIAG_PORT. -/
def execDiagPort (hd : Head) (s : State) : Answer :=
  answer (s.acceptPacket (Head.packet hd .diagPort))

/-- DIAG_GATE. -/
def execDiagGate (hd : Head) (s : State) : Answer :=
  answer (s.acceptPacket (Head.packet hd .diagGate))

/-- CANVAS_INFO. -/
def execCanvasInfo (hd : Head) (s : State) : Answer :=
  answer (s.acceptPacket (Head.packet hd .canvasInfo))

/-- CANVAS_READ. -/
def execCanvasRead (hd : Head) (offset len : Word) (s : State) : Answer :=
  answer (s.acceptPacket (Head.packet hd (.canvasRead offset len)))

/-- CANVAS_RELEASE. -/
def execCanvasRelease (hd : Head) (s : State) : Answer :=
  answer (s.acceptPacket (Head.packet hd .canvasRelease))

/-! ## Interrupt routing (13, 0x0Bxx) -/

/-- INT_PRIO_SET. -/
def execIntPrioSet (hd : Head) (first : BitVec 16) (prios : List Byte) (s : State) : Answer :=
  answer (s.acceptPacket (Head.packet hd (.intPrioSet first prios)))

/-- INT_MOD_SET. -/
def execIntModSet (hd : Head) (mod : BitVec 16) (s : State) : Answer :=
  answer (s.acceptPacket (Head.packet hd (.intModSet mod)))

/-! ## Tweed (13, 0x0Cxx) -/

/-- TWD_MAP. -/
def execTwdMap (hd : Head) (ew : EW) (ports : List Byte) (s : State) : Answer :=
  answer (s.acceptPacket (Head.packet hd (.twdMap ew ports)))

/-- TWD_STATUS. -/
def execTwdStatus (hd : Head) (s : State) : Answer :=
  answer (s.acceptPacket (Head.packet hd .twdStatus))

end Sys2Proof.Machine
end

