-- ==== Sys2Proof/Machine/Dispatch.lean ====
section
/-! DEFINITION. The one dispatch: each command of the table calls its own meaning. -/

namespace Sys2Proof.Machine

def exec (i : Instr) (s : State) : Host.Outcome State Fault Refusal :=
  match i with
  | .powerLinkTransfer crcOk => Sys2Proof.Machine.execPowerLinkTransfer crcOk s
  | .powerLinkDown => Sys2Proof.Machine.execPowerLinkDown s
  | .powerLinkTraining => Sys2Proof.Machine.execPowerLinkTraining s
  | .powerLinkUp => Sys2Proof.Machine.execPowerLinkUp s
  | .mirrorUpdate => Sys2Proof.Machine.execMirrorUpdate s
  | .keepLinkRequest => Sys2Proof.Machine.execKeepLinkRequest s
  | .keepLineWriteDone r => Sys2Proof.Machine.execKeepLineWriteDone r s
  | .keepScrub reads => Sys2Proof.Machine.execKeepScrub reads s
  | .referenceClockFault => Sys2Proof.Machine.execReferenceClockFault s
  | .referenceClockGood => Sys2Proof.Machine.execReferenceClockGood s
  | .silkPllLockLost pll => Sys2Proof.Machine.execSilkPllLockLost pll s
  | .silkPllRelockAttempt pll locks => Sys2Proof.Machine.execSilkPllRelockAttempt pll locks s
  | .silkPllLockHeld pll => Sys2Proof.Machine.execSilkPllLockHeld pll s
  | .amiocWatchdogExpiry => Sys2Proof.Machine.execAmiocWatchdogExpiry s
  | .bankRetentionExit bank => Sys2Proof.Machine.execBankRetentionExit bank s
  | .domainSupplyGood domain => Sys2Proof.Machine.execDomainSupplyGood domain s
  | .railDrop rail => Sys2Proof.Machine.execRailDrop rail s
  | .frameDieReset cause => Sys2Proof.Machine.execFrameDieReset cause s
  | .frameSof p => Sys2Proof.Machine.execFrameSof p s
  | .filterResultRelease p k => Sys2Proof.Machine.execFilterResultRelease p k s
  | .routeListRelease p => Sys2Proof.Machine.execRouteListRelease p s
  | .frameValid p f => Sys2Proof.Machine.execFrameValid p f s
  | .copiesComplete p => Sys2Proof.Machine.execCopiesComplete p s
  | .protocolException p => Sys2Proof.Machine.execProtocolException p s
  | .errorDetected p e => Sys2Proof.Machine.execErrorDetected p e s
  | .silkContention p => Sys2Proof.Machine.execSilkContention p s
  | .stuckDominant p => Sys2Proof.Machine.execStuckDominant p s
  | .integrationComplete p => Sys2Proof.Machine.execIntegrationComplete p s
  | .standbyWakeElapsed p => Sys2Proof.Machine.execStandbyWakeElapsed p s
  | .busIdleSettingsApply p => Sys2Proof.Machine.execBusIdleSettingsApply p s
  | .portDisableAtIdle p => Sys2Proof.Machine.execPortDisableAtIdle p s
  | .arbiterChoice p => Sys2Proof.Machine.execArbiterChoice p s
  | .frameBegin p => Sys2Proof.Machine.execFrameBegin p s
  | .arbitrationLost p winnerRank => Sys2Proof.Machine.execArbitrationLost p winnerRank s
  | .attemptCompleted p delay => Sys2Proof.Machine.execAttemptCompleted p delay s
  | .idCollision p => Sys2Proof.Machine.execIdCollision p s
  | .suspendTransmissionEnd p => Sys2Proof.Machine.execSuspendTransmissionEnd p s
  | .busOffEntry p => Sys2Proof.Machine.execBusOffEntry p s
  | .holdoffExpiry p => Sys2Proof.Machine.execHoldoffExpiry p s
  | .recoverySequence p => Sys2Proof.Machine.execRecoverySequence p s
  | .recoveryComplete p => Sys2Proof.Machine.execRecoveryComplete p s
  | .odtTrimDone p termCode => Sys2Proof.Machine.execOdtTrimDone p termCode s
  | .calibrationMeasured p loss preemph => Sys2Proof.Machine.execCalibrationMeasured p loss preemph s
  | .memoryInitDone => Sys2Proof.Machine.execMemoryInitDone s
  | .ndClr r obj => Sys2Proof.Machine.execNdClr r obj s
  | .ovwClr r obj => Sys2Proof.Machine.execOvwClr r obj s
  | .txReq h obj len => Sys2Proof.Machine.execTxReq h obj len s
  | .txCancel h obj => Sys2Proof.Machine.execTxCancel h obj s
  | .bar2Write h offset bytes => Sys2Proof.Machine.execBar2Write h offset bytes s
  | .bar2Read h offset len => Sys2Proof.Machine.execBar2Read h offset len s
  | .backgroundZeroing granule => Sys2Proof.Machine.execBackgroundZeroing granule s
  | .latchCopyDone obj => Sys2Proof.Machine.execLatchCopyDone obj s
  | .scrubRead region address symbols => Sys2Proof.Machine.execScrubRead region address symbols s
  | .rowRemapSwitch region address => Sys2Proof.Machine.execRowRemapSwitch region address s
  | .tableRepairWrite address => Sys2Proof.Machine.execTableRepairWrite address s
  | .sourceTick => Sys2Proof.Machine.execSourceTick s
  | .cycleStart => Sys2Proof.Machine.execCycleStart s
  | .missingStart => Sys2Proof.Machine.execMissingStart s
  | .windowBoundary => Sys2Proof.Machine.execWindowBoundary s
  | .fenceRecognised p own f => Sys2Proof.Machine.execFenceRecognised p own f s
  | .fenceDeadline p => Sys2Proof.Machine.execFenceDeadline p s
  | .backupWaitExpiry p => Sys2Proof.Machine.execBackupWaitExpiry p s
  | .higherSeenTimeout p => Sys2Proof.Machine.execHigherSeenTimeout p s
  | .grdPhaseRead h => Sys2Proof.Machine.execGrdPhaseRead h s
  | .batchSeal => Sys2Proof.Machine.execBatchSeal s
  | .batchCopyDone h => Sys2Proof.Machine.execBatchCopyDone h s
  | .dringCons h v => Sys2Proof.Machine.execDringCons h v s
  | .directEntryDeliver h => Sys2Proof.Machine.execDirectEntryDeliver h s
  | .routeEnqueue p => Sys2Proof.Machine.execRouteEnqueue p s
  | .pairCopyExpiry pair => Sys2Proof.Machine.execPairCopyExpiry pair s
  | .denseRelease obj => Sys2Proof.Machine.execDenseRelease obj s
  | .hostRegisterWrite w offset be v => Sys2Proof.Machine.execHostRegisterWrite w offset be v s
  | .heartbeat h v => Sys2Proof.Machine.execHeartbeat h v s
  | .heartbeatLapse h => Sys2Proof.Machine.execHeartbeatLapse h s
  | .endpointReset h kind => Sys2Proof.Machine.execEndpointReset h kind s
  | .doorbell h v => Sys2Proof.Machine.execDoorbell h v s
  | .cmdFifoWrite h v => Sys2Proof.Machine.execCmdFifoWrite h v s
  | .replyFifoRead h => Sys2Proof.Machine.execReplyFifoRead h s
  | .flushCmd h => Sys2Proof.Machine.execFlushCmd h s
  | .flushReply h => Sys2Proof.Machine.execFlushReply h s
  | .discardPacket h => Sys2Proof.Machine.execDiscardPacket h s
  | .ovrClr h => Sys2Proof.Machine.execOvrClr h s
  | .integClr h => Sys2Proof.Machine.execIntegClr h s
  | .cringTail h v => Sys2Proof.Machine.execCringTail h v s
  | .cringPacketRead h packet => Sys2Proof.Machine.execCringPacketRead h packet s
  | .cringReadError h e => Sys2Proof.Machine.execCringReadError h e s
  | .rringCons h v => Sys2Proof.Machine.execRringCons h v s
  | .replyWrite h => Sys2Proof.Machine.execReplyWrite h s
  | .hostLinkUp h => Sys2Proof.Machine.execHostLinkUp h s
  | .pcieConfigWrite h c => Sys2Proof.Machine.execPcieConfigWrite h c s
  | .commitPoint => Sys2Proof.Machine.execCommitPoint s
  | .compileComplete jseq => Sys2Proof.Machine.execCompileComplete jseq s
  | .fifoIntegrity c => Sys2Proof.Machine.execFifoIntegrity c s
  | .seqQuery hd => Sys2Proof.Machine.execSeqQuery hd s
  | .devInfo hd => Sys2Proof.Machine.execDevInfo hd s
  | .modeSet hd ew mode => Sys2Proof.Machine.execModeSet hd ew mode s
  | .cfgPolicySet hd ew policy => Sys2Proof.Machine.execCfgPolicySet hd ew policy s
  | .leadSet hd ew leadSrc lead => Sys2Proof.Machine.execLeadSet hd ew leadSrc lead s
  | .hbPeriod hd period => Sys2Proof.Machine.execHbPeriod hd period s
  | .devReset hd key => Sys2Proof.Machine.execDevReset hd key s
  | .sleep hd wake => Sys2Proof.Machine.execSleep hd wake s
  | .portConfig hd ew c => Sys2Proof.Machine.execPortConfig hd ew c s
  | .portSilk hd ew ctrl peInit => Sys2Proof.Machine.execPortSilk hd ew ctrl peInit s
  | .portErrcfg hd ew policy babble => Sys2Proof.Machine.execPortErrcfg hd ew policy babble s
  | .portFence hd ew cfg => Sys2Proof.Machine.execPortFence hd ew cfg s
  | .portDelivery hd ew ownDlv mode frames bytes => Sys2Proof.Machine.execPortDelivery hd ew ownDlv mode frames bytes s
  | .portGuard hd ew max => Sys2Proof.Machine.execPortGuard hd ew max s
  | .portRecover hd ew => Sys2Proof.Machine.execPortRecover hd ew s
  | .portRelease hd ew => Sys2Proof.Machine.execPortRelease hd ew s
  | .portRemap hd op => Sys2Proof.Machine.execPortRemap hd op s
  | .portStatus hd => Sys2Proof.Machine.execPortStatus hd s
  | .objConfig hd ew r => Sys2Proof.Machine.execObjConfig hd ew r s
  | .objConfigN hd ew rs => Sys2Proof.Machine.execObjConfigN hd ew rs s
  | .objRead hd offset len => Sys2Proof.Machine.execObjRead hd offset len s
  | .objPool hd => Sys2Proof.Machine.execObjPool hd s
  | .fltPort hd ew ctrl elem dflt dfltStd => Sys2Proof.Machine.execFltPort hd ew ctrl elem dflt dfltStd s
  | .fltDtable hd ew first results => Sys2Proof.Machine.execFltDtable hd ew first results s
  | .fltElem hd ew first elems => Sys2Proof.Machine.execFltElem hd ew first elems s
  | .fltRead hd what table first count => Sys2Proof.Machine.execFltRead hd what table first count s
  | .rteSet hd ew entry ext => Sys2Proof.Machine.execRteSet hd ew entry ext s
  | .rteQuota hd ew cells => Sys2Proof.Machine.execRteQuota hd ew cells s
  | .rteStatus hd => Sys2Proof.Machine.execRteStatus hd s
  | .pairSet hd ew pair => Sys2Proof.Machine.execPairSet hd ew pair s
  | .pairStatus hd => Sys2Proof.Machine.execPairStatus hd s
  | .cycSource hd ew src period => Sys2Proof.Machine.execCycSource hd ew src period s
  | .cycWindows hd ew jumpTol count starts => Sys2Proof.Machine.execCycWindows hd ew jumpTol count starts s
  | .cycCountSet hd ew count => Sys2Proof.Machine.execCycCountSet hd ew count s
  | .timeSet hd ew time => Sys2Proof.Machine.execTimeSet hd ew time s
  | .timeQuery hd => Sys2Proof.Machine.execTimeQuery hd s
  | .denseSet hd ew port errAllow entries => Sys2Proof.Machine.execDenseSet hd ew port errAllow entries s
  | .denseRead hd => Sys2Proof.Machine.execDenseRead hd s
  | .ringDelivery hd ew base sizeLog => Sys2Proof.Machine.execRingDelivery hd ew base sizeLog s
  | .ringCommand hd ew base sizeLog => Sys2Proof.Machine.execRingCommand hd ew base sizeLog s
  | .ringReply hd ew base sizeLog => Sys2Proof.Machine.execRingReply hd ew base sizeLog s
  | .ringWriteback hd ew address => Sys2Proof.Machine.execRingWriteback hd ew address s
  | .ringRearm hd => Sys2Proof.Machine.execRingRearm hd s
  | .profileLoad hd ew profile => Sys2Proof.Machine.execProfileLoad hd ew profile s
  | .profileStore hd c => Sys2Proof.Machine.execProfileStore hd c s
  | .profileList hd => Sys2Proof.Machine.execProfileList hd s
  | .pregWrite hd index values => Sys2Proof.Machine.execPregWrite hd index values s
  | .pregRead hd index count => Sys2Proof.Machine.execPregRead hd index count s
  | .recNonce hd => Sys2Proof.Machine.execRecNonce hd s
  | .recClear hd rseq nonce sig => Sys2Proof.Machine.execRecClear hd rseq nonce sig s
  | .recRead hd rseq count => Sys2Proof.Machine.execRecRead hd rseq count s
  | .jnlRead hd jseq count => Sys2Proof.Machine.execJnlRead hd jseq count s
  | .pwrLimits hd ilim tripQ retries => Sys2Proof.Machine.execPwrLimits hd ilim tripQ retries s
  | .pwrStatus hd => Sys2Proof.Machine.execPwrStatus hd s
  | .doSet hd ew mask value => Sys2Proof.Machine.execDoSet hd ew mask value s
  | .fldConfig hd ew autoRestore filters => Sys2Proof.Machine.execFldConfig hd ew autoRestore filters s
  | .fldRestore hd => Sys2Proof.Machine.execFldRestore hd s
  | .fldStatus hd => Sys2Proof.Machine.execFldStatus hd s
  | .fwStage hd c => Sys2Proof.Machine.execFwStage hd c s
  | .fwVerify hd part => Sys2Proof.Machine.execFwVerify hd part s
  | .fwActivate hd ew part => Sys2Proof.Machine.execFwActivate hd ew part s
  | .fwStatus hd => Sys2Proof.Machine.execFwStatus hd s
  | .diagMem hd => Sys2Proof.Machine.execDiagMem hd s
  | .diagPort hd => Sys2Proof.Machine.execDiagPort hd s
  | .diagGate hd => Sys2Proof.Machine.execDiagGate hd s
  | .canvasInfo hd => Sys2Proof.Machine.execCanvasInfo hd s
  | .canvasRead hd offset len => Sys2Proof.Machine.execCanvasRead hd offset len s
  | .canvasRelease hd => Sys2Proof.Machine.execCanvasRelease hd s
  | .intPrioSet hd first prios => Sys2Proof.Machine.execIntPrioSet hd first prios s
  | .intModSet hd mod => Sys2Proof.Machine.execIntModSet hd mod s
  | .twdMap hd ew ports => Sys2Proof.Machine.execTwdMap hd ew ports s
  | .twdStatus hd => Sys2Proof.Machine.execTwdStatus hd s
  | .chFlagsClr h p v => Sys2Proof.Machine.execChFlagsClr h p v s
  | .chSilkFlagsClr h p v => Sys2Proof.Machine.execChSilkFlagsClr h p v s
  | .chTxFlagsClr h p v => Sys2Proof.Machine.execChTxFlagsClr h p v s
  | .chErrFlagsClr h p v => Sys2Proof.Machine.execChErrFlagsClr h p v s
  | .grdFlagsClr h v => Sys2Proof.Machine.execGrdFlagsClr h v s
  | .pwrFlagsClr h v => Sys2Proof.Machine.execPwrFlagsClr h v s
  | .mgtFlagsClr h v => Sys2Proof.Machine.execMgtFlagsClr h v s
  | .intClaim t => Sys2Proof.Machine.execIntClaim t s
  | .intComplete t v => Sys2Proof.Machine.execIntComplete t v s
  | .intPendWrite t k v => Sys2Proof.Machine.execIntPendWrite t k v s
  | .intSetpend x => Sys2Proof.Machine.execIntSetpend x s
  | .intClrpend t v => Sys2Proof.Machine.execIntClrpend t v s
  | .intSetseenRead t => Sys2Proof.Machine.execIntSetseenRead t s
  | .moderationExpiry t => Sys2Proof.Machine.execModerationExpiry t s
  | .buckramStart => Sys2Proof.Machine.execBuckramStart s
  | .serviceFwStart => Sys2Proof.Machine.execServiceFwStart s
  | .profileApply => Sys2Proof.Machine.execProfileApply s
  | .sleepEntry => Sys2Proof.Machine.execSleepEntry s
  | .wakeEvent w => Sys2Proof.Machine.execWakeEvent w s
  | .twdScfgWrite h offset v => Sys2Proof.Machine.execTwdScfgWrite h offset v s
  | .twdLock h channel slot lock => Sys2Proof.Machine.execTwdLock h channel slot lock s
  | .txrq h channel slot => Sys2Proof.Machine.execTxrq h channel slot s
  | .txcan h channel slot => Sys2Proof.Machine.execTxcan h channel slot s
  | .twdTxevtClr h channel v => Sys2Proof.Machine.execTwdTxevtClr h channel v s
  | .txTimeout channel slot => Sys2Proof.Machine.execTxTimeout channel slot s
  | .lockLimitExpiry channel slot => Sys2Proof.Machine.execLockLimitExpiry channel slot s
  | .serviceFwFault f => Sys2Proof.Machine.execServiceFwFault f s
  | .coreWatchdogExpiry core => Sys2Proof.Machine.execCoreWatchdogExpiry core s
  | .serviceFwRestart => Sys2Proof.Machine.execServiceFwRestart s
  | .trustedFault f => Sys2Proof.Machine.execTrustedFault f s
  | .pairWatchdogExpiry => Sys2Proof.Machine.execPairWatchdogExpiry s
  | .faultRecovered => Sys2Proof.Machine.execFaultRecovered s
  | .cutoverConfirmed part => Sys2Proof.Machine.execCutoverConfirmed part s
  | .cutoverTimeout part => Sys2Proof.Machine.execCutoverTimeout part s
  | .engineSelfTestStep engine pass => Sys2Proof.Machine.execEngineSelfTestStep engine pass s
  | .engineRemap p => Sys2Proof.Machine.execEngineRemap p s
  | .pregDataWrite h offset v => Sys2Proof.Machine.execPregDataWrite h offset v s
  | .persistWear line => Sys2Proof.Machine.execPersistWear line s
  | .recorderScan => Sys2Proof.Machine.execRecorderScan s
  | .eventRecord => Sys2Proof.Machine.execEventRecord s
  | .repeatCommit rseq => Sys2Proof.Machine.execRepeatCommit rseq s
  | .recorderRestored => Sys2Proof.Machine.execRecorderRestored s
  | .recNext h => Sys2Proof.Machine.execRecNext h s
  | .recMark h => Sys2Proof.Machine.execRecMark h s
  | .recRewind h => Sys2Proof.Machine.execRecRewind h s
  | .recCursorWrite h v => Sys2Proof.Machine.execRecCursorWrite h v s
  | .recSnapshotCopy h => Sys2Proof.Machine.execRecSnapshotCopy h s
  | .jnlNext h => Sys2Proof.Machine.execJnlNext h s
  | .jnlMark h => Sys2Proof.Machine.execJnlMark h s
  | .jnlRewind h => Sys2Proof.Machine.execJnlRewind h s
  | .jnlCursorWrite h v => Sys2Proof.Machine.execJnlCursorWrite h v s
  | .feedStateChange f ok => Sys2Proof.Machine.execFeedStateChange f ok s
  | .powerDieStart => Sys2Proof.Machine.execPowerDieStart s
  | .oringClose f => Sys2Proof.Machine.execOringClose f s
  | .reverseTurnOff f mv => Sys2Proof.Machine.execReverseTurnOff f mv s
  | .feedOvervoltage f => Sys2Proof.Machine.execFeedOvervoltage f s
  | .overvoltageReclose f => Sys2Proof.Machine.execOvervoltageReclose f s
  | .feedWarn f warning mv => Sys2Proof.Machine.execFeedWarn f warning mv s
  | .bothFeedsLost => Sys2Proof.Machine.execBothFeedsLost s
  | .hsStartReadsDone configOk areaOk rfcSeen => Sys2Proof.Machine.execHsStartReadsDone configOk areaOk rfcSeen s
  | .pgoodAssert mv => Sys2Proof.Machine.execPgoodAssert mv s
  | .pgoodDeassert vds mv => Sys2Proof.Machine.execPgoodDeassert vds mv s
  | .pgLost mv => Sys2Proof.Machine.execPgLost mv s
  | .rampTimeout vout vbus => Sys2Proof.Machine.execRampTimeout vout vbus s
  | .pgoodHeld60s => Sys2Proof.Machine.execPgoodHeld60s s
  | .currentLimitEngage => Sys2Proof.Machine.execCurrentLimitEngage s
  | .fastTrip ma => Sys2Proof.Machine.execFastTrip ma s
  | .backupTrip ma => Sys2Proof.Machine.execBackupTrip ma s
  | .feltUpdate power tsense tsenseOpenShort => Sys2Proof.Machine.execFeltUpdate power tsense tsenseOpenShort s
  | .fetShort mv => Sys2Proof.Machine.execFetShort mv s
  | .diSample raw => Sys2Proof.Machine.execDiSample raw s
  | .doLimitTimeout o ma => Sys2Proof.Machine.execDoLimitTimeout o ma s
  | .doFaultLatch o why measured => Sys2Proof.Machine.execDoFaultLatch o why measured s
  | .extDriveDetect o mv => Sys2Proof.Machine.execExtDriveDetect o mv s
  | .extDriveClear o => Sys2Proof.Machine.execExtDriveClear o s
  | .fldLowEntry mv => Sys2Proof.Machine.execFldLowEntry mv s
  | .fldUvEntry mv => Sys2Proof.Machine.execFldUvEntry mv s
  | .sensorConversion r => Sys2Proof.Machine.execSensorConversion r s
  | .pktWrite pec bytes => Sys2Proof.Machine.execPktWrite pec bytes s
  | .smbusStatus => Sys2Proof.Machine.execSmbusStatus s
  | .hsRelease pec data => Sys2Proof.Machine.execHsRelease pec data s
  | .smbusWake pec => Sys2Proof.Machine.execSmbusWake pec s
  | .pktSubmit pec => Sys2Proof.Machine.execPktSubmit pec s
  | .pktRead => Sys2Proof.Machine.execPktRead s
  | .spillRead => Sys2Proof.Machine.execSpillRead s
  | .uartStatus => Sys2Proof.Machine.execUartStatus s
  | .uartSpill => Sys2Proof.Machine.execUartSpill s
  | .uartRelease => Sys2Proof.Machine.execUartRelease s
  | .uartWake => Sys2Proof.Machine.execUartWake s
  | .retryStart => Sys2Proof.Machine.execRetryStart s
  | .moduleRemoval => Sys2Proof.Machine.execModuleRemoval s
  | .fldLowExit => Sys2Proof.Machine.execFldLowExit s
  | .fldAutoRestore => Sys2Proof.Machine.execFldAutoRestore s
  | .currentLimitEnd => Sys2Proof.Machine.execCurrentLimitEnd s
  | .powerDiePowerLoss => Sys2Proof.Machine.execPowerDiePowerLoss s
  | .slewEnd => Sys2Proof.Machine.execSlewEnd s
  | .mailboxRequestRepeat => Sys2Proof.Machine.execMailboxRequestRepeat s

end Sys2Proof.Machine
end

