-- ==== Sys2Proof/WellFormed.lean ====
section
/-! DEFINITION. Which commands are well formed: operands that the outside world can give. A command that is not has no
meaning the statements speak of. -/

namespace Sys2Proof

/-- An identifier fits: 11 bits for base and XL frames, 29 for extended ones (02 R35, 05 R106). -/
def idWf (fmt : Fmt) (ide : Bool) (id : BitVec 29) : Bool :=
  match fmt with
  | .classical | .fd => ide || decide (id.toNat < 2048)
  | .xl | .silk => !ide && decide (id.toNat < 2048)

/-- A payload length that a format can carry (04 R89). -/
def lenWf (fmt : Fmt) (n : Nat) : Bool :=
  match fmt with
  | .classical => decide (n ≤ 8)
  | .fd => [0, 1, 2, 3, 4, 5, 6, 7, 8, 12, 16, 20, 24, 32, 48, 64].contains n
  | .xl | .silk => decide (1 ≤ n) && decide (n ≤ 2048)

/-- A frame as a bus can carry it: remote frames are Classical and without data, the rate switch is FD's, and SDT, VCID and
AF belong to XL and Silk frames. -/
def Frame.wf (f : Frame) : Bool :=
  idWf f.fmt f.ide f.id && lenWf f.fmt f.len.toNat && decide (f.data.length = if f.rtr then 0 else f.len.toNat) &&
    (!f.rtr || f.fmt == .classical) && (!f.brs || f.fmt == .fd) &&
    (f.fmt == .xl || f.fmt == .silk || (f.sdt == 0 && f.vcid == 0 && f.af == 0))

/-- A filter key (05 R106). -/
def FrameKey.wf (k : FrameKey) : Bool := idWf k.fmt k.ide k.id

/-- The address names a 16-byte codeword of the region (04 R79, R97, 05 R110). -/
def codewordWf (r : MemRegion) (a : Nat) : Bool :=
  a % 16 = 0 && decide (a < match r with | .message => 0xA00000 | .application => 0x180000 | .trusted => 0x40000
                                         | .table => 0x80000)

/-- A path that the stream has (12 R271, R272). -/
def Head.wf (h : Head) : Bool :=
  match h.stream, h.path with
  | .hostA, .fifo | .hostA, .ring | .hostB, .fifo | .hostB, .ring | .mgmt, .port | .intern, .inside => true
  | _, _ => false

/-- A chunk that fits a packet (12 R274, 13 R308). -/
def Chunk.wf (c : Chunk) : Bool := decide (c.data.length ≤ 4068) && c.data.length % 4 = 0

/-- One conversion of all sensors (19 R439). -/
def Sensors.wf (r : Sensors) : Bool :=
  decide (r.fd.length = 6) && decide (r.pd.length = 2) && decide (r.rails.length = 12)

/-- The command is well formed. -/
def Instr.wf : Instr → Bool
  | .keepScrub reads => reads.all fun e => decide (e.2.length = 36)
  | .filterResultRelease _ k => k.wf
  | .frameValid _ f => f.wf
  | .bar2Write _ offset bytes => decide (1 ≤ bytes.length) && decide (offset.toNat + bytes.length ≤ 2 ^ 26)
  | .scrubRead region address symbols => codewordWf region address && decide (symbols.length = 20)
  | .rowRemapSwitch region address => codewordWf region address
  | .tableRepairWrite address => codewordWf .table address
  | .fenceRecognised _ _ f => f.wf
  | .hostRegisterWrite _ offset _ _ => offset.toNat % 4 = 0
  | .cringPacketRead _ packet => decide (4 ≤ packet.length) && packet.length % 4 = 0 && decide (packet.length ≤ 1024)
  | .objConfigN hd _ rs => hd.wf && decide (rs.length ≤ 145)
  | .fltDtable hd _ _ results => hd.wf && decide (results.length ≤ 2034)
  | .fltElem hd _ _ elems => hd.wf && decide (elems.length ≤ 254)
  | .cycWindows hd _ _ _ starts => hd.wf && decide (starts.length ≤ 64)
  | .denseSet hd _ _ _ entries => hd.wf && decide (entries.length ≤ 508)
  | .profileStore hd c => hd.wf && c.wf
  | .pregWrite hd _ values => hd.wf && decide (values.length ≤ 1019)
  | .recClear hd _ _ sig => hd.wf && decide (sig.length = 64)
  | .fldConfig hd _ _ filters => hd.wf && decide (filters.length = 8)
  | .fwStage hd c => hd.wf && c.wf
  | .intPrioSet hd _ prios => hd.wf && decide (prios.length ≤ 4076)
  | .twdMap hd _ ports => hd.wf && decide (ports.length = 16)
  | .twdScfgWrite _ offset _ => offset.toNat % 4 = 0
  | .pregDataWrite _ offset _ => offset.toNat % 4 = 0
  | .sensorConversion r => r.wf
  | .pktWrite _ bytes => decide (1 ≤ bytes.length) && decide (bytes.length ≤ 255)
  | .bar2Read _ offset len => decide (1 ≤ len.toNat) && decide (offset.toNat + len.toNat ≤ 2 ^ 26)
  | .seqQuery hd | .devInfo hd | .modeSet hd _ _ | .cfgPolicySet hd _ _ | .leadSet hd _ _ _ | .hbPeriod hd _
  | .devReset hd _ | .sleep hd _ | .portConfig hd _ _ | .portSilk hd _ _ _ | .portErrcfg hd _ _ _
  | .portFence hd _ _ | .portDelivery hd _ _ _ _ _ | .portGuard hd _ _ | .portRecover hd _ | .portRelease hd _
  | .portRemap hd _ | .portStatus hd | .objConfig hd _ _ | .objRead hd _ _ | .objPool hd | .fltPort hd _ _ _ _ _
  | .fltRead hd _ _ _ _ | .rteSet hd _ _ _ | .rteQuota hd _ _ | .rteStatus hd | .pairSet hd _ _ | .pairStatus hd
  | .cycSource hd _ _ _ | .cycCountSet hd _ _ | .timeSet hd _ _ | .timeQuery hd | .denseRead hd
  | .ringDelivery hd _ _ _ | .ringCommand hd _ _ _ | .ringReply hd _ _ _ | .ringWriteback hd _ _ | .ringRearm hd
  | .profileLoad hd _ _ | .profileList hd | .pregRead hd _ _ | .recNonce hd | .recRead hd _ _ | .jnlRead hd _ _
  | .pwrLimits hd _ _ _ | .pwrStatus hd | .doSet hd _ _ _ | .fldRestore hd | .fldStatus hd | .fwVerify hd _
  | .fwActivate hd _ _ | .fwStatus hd | .diagMem hd | .diagPort hd | .diagGate hd | .canvasInfo hd
  | .canvasRead hd _ _ | .canvasRelease hd | .intModSet hd _ | .twdStatus hd => hd.wf
  | .powerLinkTransfer _ | .powerLinkDown | .powerLinkTraining | .powerLinkUp | .mirrorUpdate | .keepLinkRequest
  | .keepLineWriteDone _ | .referenceClockFault | .referenceClockGood | .silkPllLockLost _
  | .silkPllRelockAttempt _ _ | .silkPllLockHeld _ | .amiocWatchdogExpiry | .bankRetentionExit _
  | .domainSupplyGood _ | .railDrop _ | .frameDieReset _ | .frameSof _ | .routeListRelease _ | .copiesComplete _
  | .protocolException _ | .errorDetected _ _ | .silkContention _ | .stuckDominant _ | .integrationComplete _
  | .standbyWakeElapsed _ | .busIdleSettingsApply _ | .portDisableAtIdle _ | .arbiterChoice _ | .frameBegin _
  | .arbitrationLost _ _ | .attemptCompleted _ _ | .idCollision _ | .suspendTransmissionEnd _ | .busOffEntry _
  | .holdoffExpiry _ | .recoverySequence _ | .recoveryComplete _ | .odtTrimDone _ _ | .calibrationMeasured _ _ _
  | .memoryInitDone | .ndClr _ _ | .ovwClr _ _ | .txReq _ _ _ | .txCancel _ _ | .backgroundZeroing _
  | .latchCopyDone _ | .sourceTick | .cycleStart | .missingStart | .windowBoundary | .fenceDeadline _
  | .backupWaitExpiry _ | .higherSeenTimeout _ | .grdPhaseRead _ | .batchSeal | .batchCopyDone _ | .dringCons _ _
  | .directEntryDeliver _ | .routeEnqueue _ | .pairCopyExpiry _ | .denseRelease _ | .heartbeat _ _
  | .heartbeatLapse _ | .endpointReset _ _ | .doorbell _ _ | .cmdFifoWrite _ _ | .replyFifoRead _ | .flushCmd _
  | .flushReply _ | .discardPacket _ | .ovrClr _ | .integClr _ | .cringTail _ _ | .cringReadError _ _
  | .rringCons _ _ | .replyWrite _ | .commitPoint | .compileComplete _ | .fifoIntegrity _ | .chFlagsClr _ _ _
  | .chSilkFlagsClr _ _ _ | .chTxFlagsClr _ _ _ | .chErrFlagsClr _ _ _ | .grdFlagsClr _ _ | .pwrFlagsClr _ _
  | .mgtFlagsClr _ _ | .intClaim _ | .intComplete _ _ | .intPendWrite _ _ _ | .intSetpend _ | .intClrpend _ _
  | .intSetseenRead _ | .moderationExpiry _ | .buckramStart | .serviceFwStart | .profileApply | .sleepEntry
  | .wakeEvent _ | .twdLock _ _ _ _ | .txrq _ _ _ | .txcan _ _ _ | .twdTxevtClr _ _ _ | .txTimeout _ _
  | .lockLimitExpiry _ _ | .serviceFwFault _ | .coreWatchdogExpiry _ | .serviceFwRestart | .trustedFault _
  | .pairWatchdogExpiry | .faultRecovered | .cutoverConfirmed _ | .cutoverTimeout _ | .engineSelfTestStep _ _
  | .engineRemap _ | .persistWear _ | .recorderScan | .eventRecord | .repeatCommit _ | .recorderRestored
  | .recNext _ | .recMark _ | .recRewind _ | .recCursorWrite _ _ | .recSnapshotCopy _ | .jnlNext _ | .jnlMark _
  | .jnlRewind _ | .jnlCursorWrite _ _ | .feedStateChange _ _ | .powerDieStart | .oringClose _
  | .reverseTurnOff _ _ | .feedOvervoltage _ | .overvoltageReclose _ | .feedWarn _ _ _ | .bothFeedsLost
  | .hsStartReadsDone _ _ _ | .pgoodAssert _ | .pgoodDeassert _ _ | .pgLost _ | .rampTimeout _ _ | .pgoodHeld60s
  | .currentLimitEngage | .fastTrip _ | .backupTrip _ | .feltUpdate _ _ _ | .retryStart | .moduleRemoval
  | .fetShort _ | .diSample _ | .doLimitTimeout _ _ | .doFaultLatch _ _ _ | .extDriveDetect _ _ | .extDriveClear _
  | .fldLowEntry _ | .fldLowExit | .fldUvEntry _ | .fldAutoRestore | .smbusStatus | .hsRelease _ _ | .smbusWake _
  | .pktSubmit _ | .pktRead | .spillRead | .uartStatus | .uartSpill | .uartRelease | .uartWake | .hostLinkUp _
  | .pcieConfigWrite _ _ | .currentLimitEnd | .powerDiePowerLoss | .slewEnd | .mailboxRequestRepeat => true

end Sys2Proof
end

