-- ==== Sys2Proof/Safety.lean ====
section
/-! DEFINITION. The terms the statements use: pieces of the state and what leaves them unchanged, completion, the packets of
the command rows, and the invariants. -/

namespace Sys2Proof.Machine

/-- The pieces of the state, one for each field of `State`. -/
inductive Piece where
  | clk | dev | run | irq | hosts | cmds | jnl | rcd | keep | ports | objs | pool | mem | flt | routes | pairs | copiesPrev
  | copyNext | dense | dlv | trk | trk2 | fw | engines | canvas | twd | pwr | pwr2 | link | fld | mgt | kept | out | pending
deriving DecidableEq, Repr

/-- A piece is the same in both states. -/
def Piece.same (s t : State) : Piece → Prop
  | .clk => t.clk = s.clk
  | .dev => t.dev = s.dev
  | .run => t.run = s.run
  | .irq => t.irq = s.irq
  | .hosts => t.hosts = s.hosts
  | .cmds => t.cmds = s.cmds
  | .jnl => t.jnl = s.jnl
  | .rcd => t.rcd = s.rcd
  | .keep => t.keep = s.keep
  | .ports => t.ports = s.ports
  | .objs => t.objs = s.objs
  | .pool => t.pool = s.pool
  | .mem => t.mem = s.mem
  | .flt => t.flt = s.flt
  | .routes => t.routes = s.routes
  | .pairs => t.pairs = s.pairs
  | .copiesPrev => t.copiesPrev = s.copiesPrev
  | .copyNext => t.copyNext = s.copyNext
  | .dense => t.dense = s.dense
  | .dlv => t.dlv = s.dlv
  | .trk => t.trk = s.trk
  | .trk2 => t.trk2 = s.trk2
  | .fw => t.fw = s.fw
  | .engines => t.engines = s.engines
  | .canvas => t.canvas = s.canvas
  | .twd => t.twd = s.twd
  | .pwr => t.pwr = s.pwr
  | .pwr2 => t.pwr2 = s.pwr2
  | .link => t.link = s.link
  | .fld => t.fld = s.fld
  | .mgt => t.mgt = s.mgt
  | .kept => t.kept = s.kept
  | .out => t.out = s.out
  | .pending => t.pending = s.pending

/-- Every piece but those named is the same in both states. -/
def Unchanged (but : List Piece) (s t : State) : Prop := ∀ x : Piece, x ∉ but → x.same s t

/-- Every port but `p` is the same in both states. -/
def OnlyPort (p : Nat) (s t : State) : Prop := ∀ q, q ≠ p → t.port q = s.port q

/-- Every object but `o` is the same in both states. -/
def OnlyObj (o : Nat) (s t : State) : Prop := ∀ q, q ≠ o → t.obj q = s.obj q

/-- The other host's endpoint is the same in both states. -/
def OnlyHost (h : HostId) (s t : State) : Prop := ∀ k, k ≠ h → t.host k = s.host k

/-- A step that answers a next state. -/
def Completes (s : State) : Prop := ∃ t, step s = .next t

/-- The memories of a state are in their canonical form. -/
def State.memOk (s : State) : Bool := Memory.wf s.pool

/-- A packet reaches the processing of its class: it can be executed and nothing waits before it in its path, and neither the packet, nor
the length of its result, nor credits refuse it (12 R272, R273, R277, 13 R291, R296, 16 R365). -/
def State.Reaches (s : State) (k : Packet) : Prop :=
  s.mayTake k = true ∧ s.waitsBefore k = false ∧ k.bad = 0 ∧ opClass k.opcode ≠ none ∧ tooLongResult k = false ∧ s.noCredit k.stream = false

/-- The packet's SEQ is the one its stream takes next, and the keep die can journal it (12 R281, R283). -/
def State.InTurn (s : State) (k : Packet) : Prop :=
  k.dry = false ∧ s.keep.down = false ∧
    ((s.stream k.stream).nextSeq = none ∨ (s.stream k.stream).nextSeq = some k.seq)

/-- The packet is taken with parameters `p`, and passes the tests made at taking (12 R281, R457). -/
def State.Takes (s : State) (k : Packet) (p : Params) : Prop :=
  s.Reaches k ∧ s.InTurn k ∧ k.params = some p ∧ (s.takeTest k (s.classNow k.opcode)).status = 0

/-- A reply is put in line for its stream's path: at the host's endpoint, or for the management port, which has it at once
while the power link is up and no earlier reply waits (12 R276, 19 R440). -/
def Answered (s t : State) (r : Reply) : Prop :=
  match streamHost r.stream with
  | some h => (t.host h).replies = (s.host h).replies ++ [r]
  | none => r.stream = .mgmt →
    if s.link.up && s.link.askOut.isEmpty then
      t.mgt.replies = s.mgt.replies ++ [(wordsBytes r.words).take (16 + r.result.length)]
    else t.link.askOut = s.link.askOut ++ [r]

/-- The number that the next journal entry gets (17 R397). -/
def State.nextJseq (s : State) : Word := nextOf s.jnl.newest

/-- A taken command is done: its SEQ is consumed, its entry and its reply carry `status`, and the reply sets off `after` once it
has been written (12 R275, R283, 13 R299). -/
def Executed (s t : State) (k : Packet) (status : Nat) (result : List Byte) (after : Nat) : Prop :=
  (t.stream k.stream).nextSeq = some (k.seq + 1) ∧
    (∃ e, t.heldEntry s.nextJseq = some e ∧ e.status = status ∧ e.cmdSeq = k.seq ∧ e.opcode = k.opcode ∧
      e.target = k.target) ∧
    Answered s t { stream := k.stream, path := k.path, opcode := k.opcode, status := status, seq := k.seq,
                   jidx := s.nextJseq.toNat % 16384, result := result, credit := true, after := after }

/-- What the execution of an action may change whatever it does: its stream, the journal with its line write and its reports,
and the path of its reply. -/
def actionPieces : List Piece := [.cmds, .jnl, .keep, .rcd, .irq, .hosts, .out, .mgt, .link]

/-- A BAR0 write of host `h` is carried out as it arrives: its queue of PREG_DATA writes has room and no write is held before it (17
R384). -/
def State.WritesNow (s : State) (h : HostId) : Prop := s.pregFull h = false ∧ (s.host h).writesHeld = false

/-- A write to an INT_ register by interrupt target `t` is carried out as it arrives; an engine's always is (14, 17 R384). -/
def State.TargetWritesNow (s : State) (t : Fin 8) : Prop := (t = 0 → s.WritesNow .a) ∧ (t = 1 → s.WritesNow .b)

/-- A read of an INT_ register by interrupt target `t` is served as it arrives: no write of the host is held before it (04 R94, 11
R255). -/
def State.TargetReadsNow (s : State) (t : Fin 8) : Prop :=
  (t = 0 → (s.host .a).writesHeld = false) ∧ (t = 1 → (s.host .b).writesHeld = false)

/-- A held access that came to BAR0. -/
def HeldAccess.toBar0 : HeldAccess → Bool
  | .bar2 .. | .bar2Read .. => false
  | _ => true

/-- Host `h`'s endpoint is `x` in `t` and the other host's is as it was in `s`, but for the PCI Express side of each, where the
pending bits of messages stand. -/
def HostBecomes (s t : State) (h : HostId) (x : Hst) : Prop :=
  { t.host h with pcie := x.pcie } = x ∧ { t.host h.peer with pcie := (s.host h.peer).pcie } = s.host h.peer

/-- No packet waits: none in staging, none in Amioc's mailbox, and no whole one in a command chain (12 R272, R288). -/
def State.NothingWaits (s : State) : Prop :=
  s.cmds.waiting = [] ∧ s.link.mailIn = [] ∧ ∀ h, headPacket (s.host h).cmd.words = none

/-- Codeword `a`, read as `d`, is none of an object's header, or the header passes the checks of 04 R82. -/
def HeaderHolds (s : State) (r : MemRegion) (a : Nat) (d : List Byte) : Prop :=
  r ≠ .message ∨ 0x100000 ≤ a ∨ s.headerMismatch a d = false

/-- Every byte of the payload pool outside `n` bytes from `a` on reads in `t` as in `s`. -/
def PoolSameOutside (a n : Nat) (s t : State) : Prop := ∀ x, x < a ∨ a + n ≤ x → t.poolByte x = s.poolByte x

end Sys2Proof.Machine

namespace Sys2Proof

open Sys2Proof.Machine

/-- The write of host `h` to BAR0 word `o`, every byte enabled. -/
def wordWrite (h : HostId) (o : Nat) (v : Word) : Option (HostId × HeldAccess) := some (h, .bar0 o 0xF v)

/-- The write of host `h` to the OBJ_CMD word of object `o` (04). -/
def commandWrite (h : HostId) (o : Nat) (v : Word) : Option (HostId × HeldAccess) :=
  some (h, .bar2 (o * 0x1000 + 0x24) ((wordBytes v).map some))

/-- The write of interrupt target `t` to INT_ word `o`, where the target is a host (14). -/
def targetWrite (t : Fin 8) (o : Nat) (v : Word) : Option (HostId × HeldAccess) :=
  if t = 0 then wordWrite .a o v else if t = 1 then wordWrite .b o v else none

/-- The host write that a row stands for, as the endpoint holds it; none for the other rows, and for a row whose offset lies
outside its window (11 R255, 17 R384). -/
def Instr.hostWrites : Instr → Option (HostId × HeldAccess)
  | .hostRegisterWrite (.host h) o be v => some (h, .bar0 o.toNat be v)
  | .bar2Write h o bs => some (h, .bar2 o.toNat bs)
  | .ndClr (.host h) o => commandWrite h o.toNat 0x80000000
  | .ovwClr (.host h) o => commandWrite h o.toNat 0x40000000
  | .txReq h o n => commandWrite h o.toNat (image [(29, 1), (0, n.toNat)])
  | .txCancel h o => commandWrite h o.toNat 0x10000000
  | .doorbell h v => wordWrite h 0x1000 v
  | .heartbeat h v => wordWrite h 0x1004 v
  | .cmdFifoWrite h v => wordWrite h 0x1010 v
  | .flushCmd h => wordWrite h 0x101C 0x80000000
  | .flushReply h => wordWrite h 0x101C 0x40000000
  | .discardPacket h => wordWrite h 0x101C 0x20000000
  | .ovrClr h => wordWrite h 0x101C 0x10000000
  | .integClr h => wordWrite h 0x101C 0x08000000
  | .dringCons h v => wordWrite h 0x1030 v
  | .cringTail h v => wordWrite h 0x1044 v
  | .rringCons h v => wordWrite h 0x105C v
  | .intPendWrite t k v => targetWrite t (0x2000 + 4 * k.val) v
  | .intSetpend (.write t v) => targetWrite t 0x2020 v
  | .intClrpend t v => targetWrite t 0x2024 v
  | .intComplete t v => targetWrite t 0x2228 v
  | .grdFlagsClr h v => wordWrite h 0x4030 v
  | .recNext h => wordWrite h 0x5000 1
  | .recMark h => wordWrite h 0x5000 2
  | .recRewind h => wordWrite h 0x5000 4
  | .recCursorWrite h v => wordWrite h 0x5004 v
  | .jnlNext h => wordWrite h 0x5800 1
  | .jnlMark h => wordWrite h 0x5800 2
  | .jnlRewind h => wordWrite h 0x5800 4
  | .jnlCursorWrite h v => wordWrite h 0x5804 v
  | .pwrFlagsClr h v => wordWrite h 0x6018 v
  | .mgtFlagsClr h v => wordWrite h 0x6138 v
  | .pregDataWrite h o v => if 0x7800 ≤ o.toNat ∧ o.toNat < 0x8000 then wordWrite h o.toNat v else none
  | .twdScfgWrite h o v => if 0x8000 ≤ o.toNat ∧ o.toNat < 0xC000 then wordWrite h o.toNat v else none
  | .twdTxevtClr h c v => wordWrite h (0x8018 + c.val * 0x400) v
  | .twdLock h c k on => some (h, .slot (32 * c.val + k.val) (.lock on))
  | .txrq h c k => some (h, .slot (32 * c.val + k.val) .txrq)
  | .txcan h c k => some (h, .slot (32 * c.val + k.val) .txcan)
  | .chFlagsClr h p v => wordWrite h (0x10000 + 0x100 * p.val + 0x20) v
  | .chErrFlagsClr h p v => wordWrite h (0x10000 + 0x100 * p.val + 0x4C) v
  | .chTxFlagsClr h p v => wordWrite h (0x10000 + 0x100 * p.val + 0x68) v
  | .chSilkFlagsClr h p v => wordWrite h (0x10000 + 0x100 * p.val + 0x90) v
  | _ => none

/-- The packet that a command row stands for; none for the other rows (13). -/
def Instr.packet : Instr → Option Packet
  | .seqQuery hd => some (Head.packet hd .seqQuery)
  | .devInfo hd => some (Head.packet hd .devInfo)
  | .modeSet hd ew mode => some (Head.packet hd (.modeSet ew mode))
  | .cfgPolicySet hd ew policy => some (Head.packet hd (.cfgPolicySet ew policy))
  | .leadSet hd ew leadSrc lead => some (Head.packet hd (.leadSet ew leadSrc lead))
  | .hbPeriod hd period => some (Head.packet hd (.hbPeriod period))
  | .devReset hd key => some (Head.packet hd (.devReset key))
  | .sleep hd wake => some (Head.packet hd (.sleep wake))
  | .portConfig hd ew c => some (Head.packet hd (.portConfig ew c))
  | .portSilk hd ew ctrl peInit => some (Head.packet hd (.portSilk ew ctrl peInit))
  | .portErrcfg hd ew policy babble => some (Head.packet hd (.portErrcfg ew policy babble))
  | .portFence hd ew cfg => some (Head.packet hd (.portFence ew cfg))
  | .portDelivery hd ew ownDlv mode frames bytes => some (Head.packet hd (.portDelivery ew ownDlv mode frames bytes))
  | .portGuard hd ew max => some (Head.packet hd (.portGuard ew max))
  | .portRecover hd ew => some (Head.packet hd (.portRecover ew))
  | .portRelease hd ew => some (Head.packet hd (.portRelease ew))
  | .portRemap hd op => some (Head.packet hd (.portRemap op))
  | .portStatus hd => some (Head.packet hd .portStatus)
  | .objConfig hd ew r => some (Head.packet hd (.objConfig ew r))
  | .objConfigN hd ew rs => some (Head.packet hd (.objConfigN ew rs))
  | .objRead hd offset len => some (Head.packet hd (.objRead offset len))
  | .objPool hd => some (Head.packet hd .objPool)
  | .fltPort hd ew ctrl elem dflt dfltStd => some (Head.packet hd (.fltPort ew ctrl elem dflt dfltStd))
  | .fltDtable hd ew first results => some (Head.packet hd (.fltDtable ew first results))
  | .fltElem hd ew first elems => some (Head.packet hd (.fltElem ew first elems))
  | .fltRead hd what table first count => some (Head.packet hd (.fltRead what table first count))
  | .rteSet hd ew entry ext => some (Head.packet hd (.rteSet ew entry ext))
  | .rteQuota hd ew cells => some (Head.packet hd (.rteQuota ew cells))
  | .rteStatus hd => some (Head.packet hd .rteStatus)
  | .pairSet hd ew pair => some (Head.packet hd (.pairSet ew pair))
  | .pairStatus hd => some (Head.packet hd .pairStatus)
  | .cycSource hd ew src period => some (Head.packet hd (.cycSource ew src period))
  | .cycWindows hd ew jumpTol count starts => some (Head.packet hd (.cycWindows ew jumpTol count starts))
  | .cycCountSet hd ew count => some (Head.packet hd (.cycCountSet ew count))
  | .timeSet hd ew time => some (Head.packet hd (.timeSet ew time))
  | .timeQuery hd => some (Head.packet hd .timeQuery)
  | .denseSet hd ew port errAllow entries => some (Head.packet hd (.denseSet ew port errAllow entries))
  | .denseRead hd => some (Head.packet hd .denseRead)
  | .ringDelivery hd ew base sizeLog => some (Head.packet hd (.ringDelivery ew base sizeLog))
  | .ringCommand hd ew base sizeLog => some (Head.packet hd (.ringCommand ew base sizeLog))
  | .ringReply hd ew base sizeLog => some (Head.packet hd (.ringReply ew base sizeLog))
  | .ringWriteback hd ew address => some (Head.packet hd (.ringWriteback ew address))
  | .ringRearm hd => some (Head.packet hd .ringRearm)
  | .profileLoad hd ew profile => some (Head.packet hd (.profileLoad ew profile))
  | .profileStore hd c => some (Head.packet hd (.profileStore c))
  | .profileList hd => some (Head.packet hd .profileList)
  | .pregWrite hd index values => some (Head.packet hd (.pregWrite index values))
  | .pregRead hd index count => some (Head.packet hd (.pregRead index count))
  | .recNonce hd => some (Head.packet hd .recNonce)
  | .recClear hd rseq nonce sig => some (Head.packet hd (.recClear rseq nonce sig))
  | .recRead hd rseq count => some (Head.packet hd (.recRead rseq count))
  | .jnlRead hd jseq count => some (Head.packet hd (.jnlRead jseq count))
  | .pwrLimits hd ilim tripQ retries => some (Head.packet hd (.pwrLimits ilim tripQ retries))
  | .pwrStatus hd => some (Head.packet hd .pwrStatus)
  | .doSet hd ew mask value => some (Head.packet hd (.doSet ew mask value))
  | .fldConfig hd ew autoRestore filters => some (Head.packet hd (.fldConfig ew autoRestore filters))
  | .fldRestore hd => some (Head.packet hd .fldRestore)
  | .fldStatus hd => some (Head.packet hd .fldStatus)
  | .fwStage hd c => some (Head.packet hd (.fwStage c))
  | .fwVerify hd part => some (Head.packet hd (.fwVerify part))
  | .fwActivate hd ew part => some (Head.packet hd (.fwActivate ew part))
  | .fwStatus hd => some (Head.packet hd .fwStatus)
  | .diagMem hd => some (Head.packet hd .diagMem)
  | .diagPort hd => some (Head.packet hd .diagPort)
  | .diagGate hd => some (Head.packet hd .diagGate)
  | .canvasInfo hd => some (Head.packet hd .canvasInfo)
  | .canvasRead hd offset len => some (Head.packet hd (.canvasRead offset len))
  | .canvasRelease hd => some (Head.packet hd .canvasRelease)
  | .intPrioSet hd first prios => some (Head.packet hd (.intPrioSet first prios))
  | .intModSet hd mod => some (Head.packet hd (.intModSet mod))
  | .twdMap hd ew ports => some (Head.packet hd (.twdMap ew ports))
  | .twdStatus hd => some (Head.packet hd .twdStatus)
  | _ => none

/-- What a parameter block can spell of the parameters: list lengths that the length of the block or a count in it gives back,
the object index that stands in TARGET (13 R292). The internal command of a Tweed slot has no block. -/
def Params.fits : Params → Bool
  | .objConfig _ r => r.obj = 0
  | .objConfigN _ rs => decide (rs.length ≤ 145)
  | .fltDtable _ _ results => decide (results.length ≤ 2034)
  | .fltElem _ _ elems => decide (elems.length ≤ 254)
  | .cycWindows _ _ _ starts => decide (starts.length = 64)
  | .denseSet _ _ _ entries => decide (entries.length ≤ 508)
  | .profileStore c | .fwStage c => c.wf
  | .pregWrite _ values => decide (values.length ≤ 1019)
  | .recClear _ _ sig => decide (sig.length = 64)
  | .fldConfig _ _ filters => decide (filters.length = 8)
  | .intPrioSet _ prios => decide (prios.length ≤ 4076)
  | .twdMap _ ports => decide (ports.length = 16)
  | .tweedSlot .. => false
  | .seqQuery | .devInfo | .modeSet .. | .cfgPolicySet .. | .leadSet .. | .hbPeriod .. | .devReset .. | .sleep ..
  | .portConfig .. | .portSilk .. | .portErrcfg .. | .portFence .. | .portDelivery .. | .portGuard .. | .portRecover ..
  | .portRelease .. | .portRemap .. | .portStatus | .objRead .. | .objPool | .fltPort .. | .fltRead .. | .rteSet ..
  | .rteQuota .. | .rteStatus | .pairSet .. | .pairStatus | .cycSource .. | .cycCountSet .. | .timeSet .. | .timeQuery
  | .denseRead | .ringDelivery .. | .ringCommand .. | .ringReply .. | .ringWriteback .. | .ringRearm | .profileLoad ..
  | .profileList | .pregRead .. | .recNonce | .recRead .. | .jnlRead .. | .pwrLimits .. | .pwrStatus | .doSet ..
  | .fldRestore | .fldStatus | .fwVerify .. | .fwActivate .. | .fwStatus | .diagMem | .diagPort | .diagGate | .canvasInfo
  | .canvasRead .. | .canvasRelease | .intModSet .. | .twdStatus => true

/-- The words of a request packet with parameters `p`, its CRC computed (12 R274). -/
def Head.words (hd : Head) (p : Params) : List Word :=
  let b := encodeParams p
  let w0 := image [(16, Params.opcode p), (8, flag hd.dry), (0, 2)]
  let w2 := image [(16, b.length), (0, hd.target.toNat)]
  let crc := crc32c (wordBytes w0 ++ wordBytes hd.seq ++ wordBytes w2 ++ zeros 4 ++ b)
  [w0, hd.seq, w2, crc] ++ bytesWords (b.length / 4 + 1) b

end Sys2Proof
end

