-- ==== Sys2Proof/Certificates/Slice0/Obligations.lean ====
section
/-! DEFINITION. The statements for the provers. Each is of the rules named in its docstring. -/

open Sys2Proof Sys2Proof.Machine

/-- A step runs the command at the front of the queue; on an empty queue the phase clock ticks (log entry 1). -/
def Obligations.StepRunsFront : Prop :=
  (∀ (c : Instr) (rest : List Instr) (s : State), s.pending = c :: rest → step s = exec c { s with pending := rest }) ∧
  (∀ s : State, s.pending = [] → step s = .next s.idleTick)

/-- The power link's counts and states (01 R8, R9). The mirror of Amioc's words, and what clears the stale marks (18
R428, 01 R8, R21). -/
def Obligations.PowerLinkAndMirror : Prop :=
  (
  (∀ (s : State) (ok : Bool), s.link.up = true →
    exec (.powerLinkTransfer ok) s = .next { s with link := { s.link with bad := if ok then 0 else s.link.bad + 1 } }) ∧
  (∀ (s : State) (ok : Bool), s.link.up = false →
    exec (.powerLinkTransfer ok) s = .next { s with link := { s.link with good := if ok then s.link.good + 1 else 0 } }) ∧
  (∀ s : State, s.link.up = true → 8 ≤ s.link.bad →
    ∃ t, exec .powerLinkDown s = .next t ∧ t.link.up = false ∧ t.link.stale = true ∧ t.pwr.limits = s.pwr.limits ∧
      (∀ o, (t.fld.output o).held = (s.fld.output o).held) ∧ Unchanged [.link, .rcd] s t) ∧
  (∀ s : State, s.link.up = true → s.link.bad < 8 → exec .powerLinkDown s = .next s) ∧
  (∀ s : State, exec .powerLinkTraining s = .next s) ∧
  (∀ s : State, s.link.up = false → 16 ≤ s.link.good → s.link.mailIn = [] →
    ∃ t, exec .powerLinkUp s = .next t ∧ t.link.up = true ∧ t.link.stale = s.link.stale ∧
      t.pwr.limits = s.pwr.heldLimits.getD s.pwr.limits ∧ t.pwr.heldLimits = none ∧
      (∀ o, (t.fld.output o).held = (s.fld.output o).cmd) ∧ t.fld.frameDi = s.fld.filtered ∧
      (s.run.buckram = true → t.pwr2.unreported = [])) ∧
  (∀ s : State, s.link.up = false → s.link.good < 16 → ∃ t, exec .powerLinkUp s = .next t ∧ t.link = s.link)) ∧
  (
  (∀ s : State, s.link.up = true → s.pwr2.powered = true → s.amiocRuns = true → s.link.amioc = true →
    s.link.spillDue = false →
    ∃ t, exec .mirrorUpdate s = .next t ∧ t.link.stale = false ∧ t.link.sensStale = false ∧ t.link.lowSeen = s.fld.low ∧
      (∀ o ∈ mirrorOffsets, t.mirrorWord o = s.pwrWord o) ∧ Unchanged [.link, .irq, .hosts, .out] s t) ∧
  (∀ s : State, s.link.up = true → s.pwr2.powered = true → s.amiocRuns = false →
    ∃ t, exec .mirrorUpdate s = .next t ∧ t.link.stale = s.link.stale ∧ t.link.mirror = s.link.mirror ∧
      Unchanged [.link, .irq, .hosts, .out] s t) ∧
  (∀ s : State, s.link.up = true → s.pwr2.powered = true → s.amiocRuns = true → s.link.amioc = true →
    s.link.spillDue = true → s.run.buckram = true → s.rcd.scanned = true → s.rcd.degraded = .no →
    ∃ t, exec .mirrorUpdate s = .next t ∧ t.link.stale = false ∧ t.link.spillDue = false ∧ t.rcd.spill = [] ∧
      t.rcd.queue = s.rcd.queue ∧ t.dev = s.dev ∧ t.ports = s.ports ∧ t.pwr = s.pwr) ∧
  (∀ s : State, (s.part 2).cutover = none →
    ∃ t, exec .amiocWatchdogExpiry s = .next t ∧ t.link.sensStale = true ∧ t.link.amioc = false ∧
      (t.part 2).sram = (match s.startSlot 2 with | some k => (s.part 2).image k | none => none) ∧
      t.pwr = s.pwr ∧ t.fld = s.fld ∧ t.dev = s.dev ∧ t.ports = s.ports) ∧
  (∀ s : State, (s.part 2).cutover ≠ none →
    ∃ t, exec .amiocWatchdogExpiry s = .next t ∧ (t.target 7).active = [] ∧ (t.target 7).moderation = 0 ∧
      Unchanged [.irq, .hosts, .out] s t))

/-- The two keep links are served in turn, one request at a time, and no line write begins after the loss of both
feeds (01 R7, 17 R381). A line write that reads back as written is persistent; one that fails is repeated, and a line
that fails twice goes to a spare line with its record (17 R379, R384, R386). The keep die's scrub counts what it
corrects; a worn line is reported and moved to a spare line (17 R379, R386). -/
def Obligations.KeepDieLines : Prop :=
  (
  (∀ (s : State) (i j : KeepJob) (fs ps : List KeepJob), s.keep.busy = none → s.keep.feedsLost = false →
    s.keep.down = false → (s.part 0).cutover = none → s.keep.jobsF = i :: fs → s.keep.jobsP = j :: ps → i.move = .lineWrite →
    j.move = .lineWrite →
    exec .keepLinkRequest s = .next { s with keep :=
      if s.keep.lastLink = .p then { s.keep with busy := some i, jobsF := fs, lastLink := .f }
      else { s.keep with busy := some j, jobsP := ps, lastLink := .p } }) ∧
  (∀ (s : State) (i : KeepJob) (fs : List KeepJob), s.keep.busy = none → s.keep.feedsLost = false →
    s.keep.down = false → (s.part 0).cutover = none → s.keep.jobsF = i :: fs → s.keep.jobsP = [] → i.move = .lineWrite →
    exec .keepLinkRequest s = .next { s with keep := { s.keep with busy := some i, jobsF := fs, lastLink := .f } }) ∧
  (∀ (s : State) (j : KeepJob) (ps : List KeepJob), s.keep.busy = none → s.keep.feedsLost = false →
    s.keep.down = false → s.keep.jobsF = [] → s.keep.jobsP = j :: ps → j.move = .lineWrite →
    exec .keepLinkRequest s = .next { s with keep := { s.keep with busy := some j, jobsP := ps, lastLink := .p } }) ∧
  (∀ (s : State) (i : KeepJob) (fs : List KeepJob), s.keep.busy = none → s.keep.feedsLost = false →
    s.keep.down = false → (s.part 0).cutover = none → s.keep.jobsF = i :: fs → s.keep.jobsP = [] → i.move ≠ .lineWrite →
    exec .keepLinkRequest s = .next { s with keep := { s.keep with
      jobsF := if i.parts ≤ 1 then fs else { i with parts := i.parts - 1 } :: fs, lastLink := .f } }) ∧
  (∀ s : State, s.keep.busy ≠ none ∨ s.keep.feedsLost = true ∨ s.keep.down = true → exec .keepLinkRequest s = .next s)) ∧
  (
  (∀ (s : State) (i : Nat) (v : Word) (line : Nat) (tries : Nat),
    s.keep.busy = some { line := line, write := [(i, v)], tries := tries } →
    ∃ t, exec (.keepLineWriteDone .equal) s = .next t ∧ t.keep.busy = none ∧
      t.keep.regs.get (factoryReg i) i = v ∧ t.keep.spares = s.keep.spares ∧ t.rcd = s.rcd) ∧
  (∀ (s : State) (j : KeepJob), s.keep.busy = some j → j.tries = 0 →
    ∃ t, exec (.keepLineWriteDone .differs) s = .next t ∧ t.keep.busy = some { j with tries := 1 } ∧
      t.keep.regs = s.keep.regs ∧ t.keep.spares = s.keep.spares ∧ t.rcd = s.rcd) ∧
  (∀ (s : State) (j : KeepJob), s.keep.busy = some j → j.tries ≠ 0 → j.owner = none → 0 < s.keep.spares →
    s.run.buckram = true → s.rcd.scanned = true →
    ∃ t e, exec (.keepLineWriteDone .differs) s = .next t ∧ t.keep.busy = none ∧ t.keep.spares = s.keep.spares - 1 ∧
      j.line ∈ t.keep.remapped ∧ t.rcd.queue = s.rcd.queue ++ [e] ∧
      e.code = 0x0404 ∧ e.source = 4 ∧ e.sev = 2 ∧ e.d0 = j.line ∧ e.d1 = s.keep.spares - 1) ∧
  (∀ (s : State) (j : KeepJob), s.keep.busy = some j →
    ∃ t, exec (.keepLineWriteDone .noAnswer) s = .next t ∧ t.keep.down = true ∧ t.keep.busy = none ∧
      t.keep.regs = s.keep.regs ∧ (s.rcd.degraded = .no → t.rcd.degraded = .unreachable))) ∧
  (
  (∀ (s : State) (l : BitVec 16) (c d : List Byte), s.run.buckram = true → s.keep.down = false → lineDecode c = .fixed d →
    ∃ t, exec (.keepScrub [(l, c)]) s = .next t ∧ t.keep.corrected = s.keep.corrected + 1 ∧
      t.keep.regs = s.keep.regs ∧ t.keep.spares = s.keep.spares ∧ t.keep.lineLost = s.keep.lineLost) ∧
  (∀ (s : State) (l : BitVec 16) (c : List Byte), s.run.buckram = true → s.keep.down = false → lineDecode c = .clean →
    ∃ t, exec (.keepScrub [(l, c)]) s = .next t ∧ t.keep = s.keep ∧ t.rcd = s.rcd) ∧
  (∀ (s : State) (l : BitVec 16) (c : List Byte), s.run.buckram = true → s.keep.down = false → lineDecode c = .bad →
    l.toNat < 0x40 → 0 < s.keep.spares →
    ∃ t, exec (.keepScrub [(l, c)]) s = .next t ∧ t.keep.uncorrectable = s.keep.uncorrectable + 1 ∧
      l.toNat ∈ t.keep.remapped ∧ t.keep.regs = s.keep.regs ∧ t.keep.lineLost = s.keep.lineLost) ∧
  (∀ (s : State) (l : BitVec 16), 80000000000 ≤ s.keep.writes l.toNat → 0 < s.keep.spares →
    ∃ t, exec (.persistWear l) s = .next t ∧ t.keep.spares = s.keep.spares - 1 ∧ l.toNat ∈ t.keep.remapped ∧
      t.keep.writes l.toNat = 0 ∧ t.keep.regs = s.keep.regs ∧ t.jnl = s.jnl) ∧
  (∀ (s : State) (l : BitVec 16), s.keep.writes l.toNat < 80000000000 →
    ∃ t, exec (.persistWear l) s = .next t ∧ t.keep = s.keep ∧ t.rcd = s.rcd))

/-- Amount of errors in a codeword and what the scrubber does about it: valid codewords change no count, corrected
ones are counted, raised and recorded (04 R97, R99, R100). A row in copy is switched to its spare row with a record;
the table's repair and a bank's exit from retention clear what stood for them (04 R101, R102, 01 R30). -/
def Obligations.ScrubAndRows : Prop :=
  (
  (∀ (s : State) (r : MemRegion) (a : Nat) (c : List Byte), codewordWf r a = true →
    s.run.domains.contains (regionDomain r) = true → eccDecode c = .clean → HeaderHolds s r a c →
    ∃ t, exec (.scrubRead r a c) s = .next t ∧ t.mem.corrected = s.mem.corrected ∧
      t.mem.uncorrectable = s.mem.uncorrectable ∧ t.pool = s.pool ∧ t.rcd = s.rcd) ∧
  (∀ (s : State) (r : MemRegion) (a : Nat) (c d : List Byte), codewordWf r a = true →
    s.run.domains.contains (regionDomain r) = true → eccDecode c = .fixed d → HeaderHolds s r a d →
    regionNum r < s.mem.corrected.length → s.mem.lastPass.contains (r, a) = false →
    ∃ t, exec (.scrubRead r a c) s = .next t ∧
      t.mem.corrected.getD (regionNum r) 0 = (s.mem.corrected.getD (regionNum r) 0 + 1) % 2 ^ 32 ∧
      (r, a) ∈ t.mem.lastPass ∧ t.mem.uncorrectable = s.mem.uncorrectable ∧ t.objs = s.objs ∧ t.ports = s.ports) ∧
  (∀ (s : State) (a : Nat) (c : List Byte), codewordWf .message a = true → a < 0x100000 → s.run.domains.contains 8 = true →
    eccDecode c = .clean → s.headerMismatch a c = true →
    ∃ t, exec (.scrubRead .message a c) s = .next t ∧ (t.obj (a / 64)).faulted = true ∧ t.dev = s.dev ∧ t.keep = s.keep) ∧
  (∀ (s : State) (r : MemRegion) (a : Nat) (c : List Byte), codewordWf r a = false →
    exec (.scrubRead r a c) s = .fault .noSuchAddress)) ∧
  (
  (∀ (s : State) (r : MemRegion) (a : Nat), codewordWf r a = true → s.mem.copying.contains (r, rowOf a) = true →
    ∃ t, exec (.rowRemapSwitch r a) s = .next t ∧ t.mem.copying.contains (r, rowOf a) = false ∧
      t.mem.sparesLeft r a = s.mem.sparesLeft r a - 1 ∧ Unchanged [.mem, .rcd] s t) ∧
  (∀ (s : State) (a : Nat), codewordWf .table a = true → s.run.svc = true →
    ∃ t, exec (.tableRepairWrite a) s = .next t ∧ t.mem.bad.contains (MemRegion.table, a) = false ∧ Unchanged [.mem] s t) ∧
  (∀ (s : State) (b : Fin 32),
    ∃ t, exec (.bankRetentionExit b) s = .next t ∧ b.val ∉ t.run.retention ∧ Unchanged [.run] s t) ∧
  (∀ (s : State) (r : MemRegion) (a : Nat), codewordWf r a = false →
    exec (.rowRemapSwitch r a) s = .fault .noSuchAddress) ∧
  (∀ (s : State) (a : Nat), codewordWf .table a = false → exec (.tableRepairWrite a) s = .fault .noSuchAddress))

/-- Every pattern of errors in at most two symbols of a codeword is corrected (04 R97): decoding a valid codeword
with one or two symbols changed gives the codeword back. -/
def Obligations.TwoSymbolErrorsCorrected : Prop :=
  ∀ (c : List Byte), c.length = 20 → eccDecode c = .clean →
    ∀ (k l : Nat) (e f : Byte), k < l → l < 20 → (e ≠ 0 ∨ f ≠ 0) →
      eccDecode (fixSymbol (fixSymbol c k e) l f) = .fixed c

/-- The reference clock, the Silk PLLs, and the order in which the frame die's domains are powered (01 R23, R24,
R27). -/
def Obligations.ClocksAndDomains : Prop :=
  (∀ s : State, s.run.domains.contains 3 = true → s.dev.mode.resettable = true →
    ∃ t, exec .referenceClockFault s = .next t ∧ t.dev.mode = .boot ∧ t.dev.prevMode = s.dev.mode ∧
      t.dev.resetCause = 1 ∧ t.run.refFault = true ∧ t.clk.ticks = s.clk.ticks ∧ t.clk.plant = s.clk.plant ∧
      t.trk.cycle = s.trk.cycle ∧ t.trk.state = (if bits s.trk.cfg.src 2 0 = 0 then .free else .holdover) ∧
      t.pwr2.powered = s.pwr2.powered) ∧
  (∀ s : State, ∃ t, exec .referenceClockGood s = .next t ∧ t.run.refFault = false ∧ t.run.refGood = true ∧ Unchanged [.run] s t) ∧
  (∀ (s : State) (k : Fin 2), s.run.domains.contains 11 = true → s.pll k.val = 0 →
    ∃ t, exec (.silkPllRelockAttempt k true) s = .next t ∧ t.pll k.val = 1 ∧ Unchanged [.run] s t) ∧
  (∀ (s : State) (k : Fin 2), exec (.silkPllRelockAttempt k false) s = .next s) ∧
  (∀ (s : State) (k : Fin 2), s.pll k.val = 1 →
    ∃ t, exec (.silkPllLockHeld k) s = .next t ∧ t.pll k.val = 2 ∧ Unchanged [.run, .ports] s t ∧
      (∀ p, p / 8 ≠ k.val → t.port p = s.port p)) ∧
  (∀ (s : State) (k : Fin 2), s.pll k.val ≠ 0 →
    ∃ t, exec (.silkPllLockLost k) s = .next t ∧ t.pll k.val = 0 ∧
      t.pll (1 - k.val) = s.pll (1 - k.val) ∧ t.pwr = s.pwr ∧ t.keep.regs = s.keep.regs) ∧
  (∀ (s : State) (d : Fin 12), s.domainDue d.val = true →
    ∃ t, exec (.domainSupplyGood d) s = .next t ∧ (∀ e, t.run.domains.contains e = (s.run.domains.contains e || e == d.val)) ∧
      (d.val = 3 → t.trk = Trk.started s.defaultCyc s.now)) ∧
  (∀ (s : State) (d : Fin 12), s.domainDue d.val = false → exec (.domainSupplyGood d) s = .next s)

/-- What a reset of the frame die keeps, by its cause (01 R458, 20 R447, 15 R334): PD3 loses its contents with cause
0 alone. -/
def Obligations.FrameDieResets : Prop :=
  (∀ s : State, s.dev.mode.resettable = true →
    ∃ t, exec (.frameDieReset .pgood) s = .next t ∧ t.dev.mode = .boot ∧ t.dev.prevMode = .insert ∧ t.dev.resetCause = 0 ∧
      t.clk.ticks = 0 ∧ t.clk.plant = 0 ∧ t.keep.regs = s.keep.regs ∧ t.pwr.hs = s.pwr.hs) ∧
  (∀ s : State, s.dev.mode = .fault →
    ∃ t, exec (.frameDieReset .fault) s = .next t ∧ t.dev.mode = .boot ∧ t.dev.prevMode = .fault ∧ t.dev.resetCause = 2 ∧
      t.clk = s.clk ∧ t.trk = s.trk ∧ t.keep.regs = s.keep.regs) ∧
  (∀ s : State, s.cmds.resetDue = true → (s.dev.mode = .config ∨ s.dev.mode = .service ∨ s.dev.mode = .hold) →
    ∃ t, exec (.frameDieReset .command) s = .next t ∧ t.dev.mode = .boot ∧ t.dev.prevMode = s.dev.mode ∧
      t.dev.resetCause = 3 ∧ t.clk = s.clk ∧ t.trk = s.trk ∧ t.keep.regs = s.keep.regs) ∧
  (∀ s : State, s.dev.mode = .sleep →
    ∃ t, exec (.frameDieReset .wake) s = .next t ∧ t.dev.mode = .boot ∧ t.dev.resetCause = 4 ∧ t.clk = s.clk ∧
      t.trk = s.trk ∧ t.irq.pend = s.kept.pend) ∧
  (∀ (s : State) (r : Fin 12), s.pwr.pgood = true →
    ∃ t, exec (.railDrop r) s = .next t ∧ t.dev.mode = .boot ∧ t.dev.resetCause = 0 ∧ t.clk.ticks = 0 ∧
      t.keep.regs = s.keep.regs) ∧
  (∀ (s : State) (r : Fin 12), s.pwr.pgood = false → exec (.railDrop r) s = .next s)

/-- SLEEP_ENTRY with no frame in progress and no wake event latched: the device sleeps, and PD3 keeps what 15 R346
names. A wake event that the mask allows resets the frame die with cause 4 and gives the interrupt state back; SMBus
wakes whatever the mask (15 R347, 14 R330). -/
def Obligations.SleepAndWake : Prop :=
  (
  ∀ (s : State) (w : Nat), s.cmds.sleepDue = some w → (s.dev.mode = .config ∨ s.dev.mode = .hold) →
    (∀ p, s.inFrame p = false) → s.kept.latched = none →
    ∃ t, exec .sleepEntry s = .next t ∧ t.dev.mode = .sleep ∧ t.dev.prevMode = s.dev.mode ∧ t.run.domains = [3] ∧
      t.kept.wake = w ∧ t.kept.profile = s.dev.profile ∧ t.clk = s.clk ∧ t.trk.cycle = s.trk.cycle ∧
      (∀ p < 64, (t.kept.cfg p).pc.ctrl = (s.port p).cfg.pc.ctrl ∨ (s.port p).stat.pend ≠ none)) ∧
  (
  (∀ (s : State) (w : WakeEvent), s.dev.mode = .sleep → s.kept.allows s.kept.cfg w = true →
    ∃ t, exec (.wakeEvent w) s = .next t ∧ t.dev.mode = .boot ∧ t.dev.prevMode = .sleep ∧ t.dev.resetCause = 4 ∧
      t.clk = s.clk ∧ t.trk = s.trk ∧ t.kept = s.kept ∧ t.irq.pend = s.kept.pend ∧ t.irq.prio = s.kept.prio) ∧
  (∀ (s : State) (w : WakeEvent), s.dev.mode = .sleep → s.kept.allows s.kept.cfg w = false →
    exec (.wakeEvent w) s = .next s) ∧
  (∀ s : State, s.dev.mode = .sleep → s.portAnswers = true →
    ∃ t, exec (.smbusWake true) s = .next t ∧ t.dev.mode = .boot ∧ t.dev.resetCause = 4) ∧
  (∀ s : State, s.portAnswers = true →
    ∃ t, exec (.smbusWake false) s = .next t ∧ t.mgt.pec = incSat s.mgt.pec 65535 ∧ Unchanged [.mgt] s t) ∧
  (∀ s : State, s.dev.mode = .sleep → s.portAnswers = true →
    ∃ t, exec .uartWake s = .next t ∧ t.dev.mode = .boot ∧ t.dev.resetCause = 4))

/-- Elements of the filter list: what each type matches, and that the first match in ascending order gives the
result, the default where there is none (05 R110, R111, R112). -/
def Obligations.FilterLookup : Prop :=
  (∀ (e : Elem) (k : FrameKey), elemMatches e k = true ↔
    bit e.w0 31 = true ∧ (bits e.w0 28 25).testBit k.fmt.code = true ∧
      ((bits e.w0 30 29 = 0 ∧ k.num &&& bits e.b 28 0 = bits e.a 28 0) ∨
       (bits e.w0 30 29 = 1 ∧ bits e.a 28 0 ≤ k.num ∧ k.num ≤ bits e.b 28 0) ∨
       (bits e.w0 30 29 = 2 ∧ (k.num = bits e.a 28 0 ∨ k.num = bits e.b 28 0)))) ∧
  (∀ (m : MemCtl) (f : Flt) (c : PortCfg) (k : FrameKey), m.bad = [] → FrameKey.std k = true →
    (lookup m f c k).result = if bit c.fltCtrl 31 then f.dtable.get 0 (bits c.fltCtrl 28 24 * 2048 + k.num)
      else bits c.fltDefStd 15 0) ∧
  (∀ (m : MemCtl) (f : Flt) (c : PortCfg) (k : FrameKey) (i : Nat), m.bad = [] → FrameKey.std k = false →
    i < bits c.fltElem 31 24 → elemMatches (f.elems.get ⟨0, 0, 0, 0⟩ (bits c.fltElem 11 0 + i)) k = true →
    (∀ j < i, elemMatches (f.elems.get ⟨0, 0, 0, 0⟩ (bits c.fltElem 11 0 + j)) k = false) →
    (lookup m f c k).result = bits (f.elems.get ⟨0, 0, 0, 0⟩ (bits c.fltElem 11 0 + i)).w0 15 0) ∧
  (∀ (m : MemCtl) (f : Flt) (c : PortCfg) (k : FrameKey), m.bad = [] → FrameKey.std k = false →
    (∀ j < bits c.fltElem 31 24, elemMatches (f.elems.get ⟨0, 0, 0, 0⟩ (bits c.fltElem 11 0 + j)) k = false) →
    (lookup m f c k).result = if k.fmt.isXl then bits c.fltDef 31 16 else bits c.fltDef 15 0)

/-- A frame's start, its filter result and its route list: what each stores with the frame in reception, and that
nothing else changes (02 R47, 05 R106, R116, R118, 10 R226). A frame becomes valid on a listening port whose result
is released: CH_RX_FRAMES counts it, the buffer half is held with it, an ACTIVE receiver's REC goes down, and a frame
of KIND 0 or 3 touches no object and no payload (01 R12, R13, 02 R56, 05 R108, 07 R145). -/
def Obligations.Reception : Prop :=
  (
  (∀ (s : State) (p : Port), (s.port p.val).listens = true → (s.port p.val).cfg.loopInt = false →
    (s.port p.val).stat.rx = none → (s.port p.val).stat.tx = none →
    ∃ t, exec (.frameSof p) s = .next t ∧
      (t.port p.val).stat.rx = some { sofTick := s.clk.ticks, sofPlant := s.clk.plant, sofWin := (s.port p.val).fence.n,
                                      ownWin := (s.port p.val).fence.n, bound := (s.port p.val).mis.suspend } ∧
      (t.port p.val).stat.busIdle = false ∧ (t.port p.val).mis.suspend = false ∧
      (t.port p.val).cfg = (s.port p.val).cfg ∧ (t.port p.val).err = (s.port p.val).err ∧
      (t.port p.val).cnt = (s.port p.val).cnt ∧ (t.port p.val).tx = (s.port p.val).tx ∧
      (t.port p.val).fence = (s.port p.val).fence ∧ (t.port p.val).flags = (s.port p.val).flags ∧
      OnlyPort p.val s t ∧ Unchanged [.ports] s t) ∧
  (∀ (s : State) (p : Port), (s.port p.val).listens = false ∨ (s.port p.val).cfg.loopInt = true →
    exec (.frameSof p) s = .next s) ∧
  (∀ (s : State) (p : Port) (k : FrameKey) (rx : RxFrame), (s.port p.val).stat.rx = some rx →
    exec (.filterResultRelease p k) s = .next (s.setRx p.val (some { rx with
      key := some k, result := some (s.lookupOn p.val rx.sofWin k).result, errored := (s.lookupOn p.val rx.sofWin k).src = 3,
      src := (s.lookupOn p.val rx.sofWin k).src, elem := (s.lookupOn p.val rx.sofWin k).elem }))) ∧
  (∀ (s : State) (p : Port) (rx : RxFrame) (r : Nat), (s.port p.val).stat.rx = some rx → rx.result = some r →
    ∃ t rs, exec (.routeListRelease p) s = .next t ∧ (t.port p.val).stat.rx = some { rx with routes := rs } ∧
      (∀ n ∈ rs, ∃ e ∈ (s.copyFor rx.sofWin).routes, e.1 = n ∧
        routeMatches e.2.1 ((s.copyFor rx.sofWin).owner p.val) (s.filterCopy p.val rx.sofWin).2 r = true) ∧
      (s.mem.bad = [] → ∀ e ∈ (s.copyFor rx.sofWin).routes,
        routeMatches e.2.1 ((s.copyFor rx.sofWin).owner p.val) (s.filterCopy p.val rx.sofWin).2 r = true → e.1 ∈ rs) ∧
      OnlyPort p.val s t ∧ Unchanged [.ports] s t)) ∧
  (
  (∀ (s : State) (p : Port) (f : Frame) (rx : RxFrame), (s.port p.val).stat.rx = some rx →
    (s.port p.val).mayBeValid rx f = true →
    ∃ t h, exec (.frameValid p f) s = .next t ∧ (t.port p.val).cnt.rxFrames = (s.port p.val).cnt.rxFrames + 1 ∧
      (t.port p.val).stat.rx = none ∧ (t.port p.val).stat.halves = (s.port p.val).stat.halves ++ [h] ∧ h.frame = some f ∧
      (t.port p.val).err.tec = (s.port p.val).err.tec ∧
      (t.port p.val).err.recv = (if (s.port p.val).stat.state = .active then
        (if 127 < (s.port p.val).err.recv then 120 else (s.port p.val).err.recv - 1) else (s.port p.val).err.recv) ∧
      (t.port p.val).cfg = (s.port p.val).cfg ∧
      (resKind (rx.result.getD 0) ≠ 1 → t.objs = s.objs ∧ t.pool = s.pool) ∧ t.dev = s.dev ∧ t.keep = s.keep ∧
      t.pwr = s.pwr ∧ t.clk = s.clk) ∧
  (∀ (s : State) (p : Port) (f : Frame) (rx : RxFrame), (s.port p.val).stat.rx = some rx →
    (s.port p.val).mayBeValid rx f = false → ∃ t, exec (.frameValid p f) s = .next t ∧ Unchanged [.irq, .hosts, .out] s t) ∧
  (∀ (s : State) (p : Port) (h : RxFrame) (hs : List RxFrame), (s.port p.val).stat.halves = h :: hs →
    ∃ t, exec (.copiesComplete p) s = .next t ∧ (t.port p.val).stat.halves = hs ∧
      (h.direct = none → OnlyPort p.val s t ∧ Unchanged [.ports, .irq, .hosts, .out] s t)))

/-- Integration, standby and the settings that wait for bus idle (02 R34, R50-R53, 07 R161, 16 R369). What the
port-event conditions record: a protocol exception, the contention detector, a stuck bus (02 R37, 03 R71, 07 R168). -/
def Obligations.PortStatesAndDetections : Prop :=
  (
  (∀ (s : State) (p : Port), (s.port p.val).stat.state = .integrating → (s.port p.val).stat.stbyWait = false →
    (s.port p.val).silk.trimming = false → (s.engines.get {} (s.port p.val).engine).failed = false →
    (∀ c ∈ (s.port p.val).stat.causes, c = 5) →
    ∃ t, exec (.integrationComplete p) s = .next t ∧ (t.port p.val).stat.state = .active ∧
      (t.port p.val).stat.causes = [] ∧ (t.port p.val).stat.busIdle = true ∧ (t.port p.val).mis.stuckArmed = true ∧
      (t.port p.val).err = (s.port p.val).err ∧ (t.port p.val).cfg = (s.port p.val).cfg ∧ OnlyPort p.val s t ∧
      Unchanged [.ports, .irq, .hosts, .out] s t) ∧
  (∀ (s : State) (p : Port) (c : Nat), (s.port p.val).stat.state = .integrating → (s.port p.val).stat.stbyWait = false →
    (s.port p.val).silk.trimming = false → c ∈ (s.port p.val).stat.causes → c ≠ 5 →
    ∃ t, exec (.integrationComplete p) s = .next t ∧ (t.port p.val).stat.state = .gauze ∧
      (t.port p.val).stat.busIdle = true ∧ (t.port p.val).cfg = (s.port p.val).cfg ∧ t.dev = s.dev) ∧
  (∀ (s : State) (p : Port), (s.port p.val).stat.state = .peWait → (s.port p.val).stat.causes = [] →
    ∃ t, exec (.integrationComplete p) s = .next t ∧ (t.port p.val).stat.state = .active ∧
      (t.port p.val).err = (s.port p.val).err ∧ OnlyPort p.val s t ∧ Unchanged [.ports, .irq, .hosts, .out] s t) ∧
  (∀ (s : State) (p : Port),
    ∃ t, exec (.standbyWakeElapsed p) s = .next t ∧ (t.port p.val).stat.stbyWait = false ∧
      (t.port p.val).stat.state = (s.port p.val).stat.state ∧ OnlyPort p.val s t ∧ Unchanged [.ports] s t) ∧
  (∀ (s : State) (p : Port) (c : PortConfigP), (s.port p.val).mayIdle = true → (s.port p.val).stat.pendSilk = none →
    (s.port p.val).stat.pend = some c → (s.port p.val).stat.disable = false → timingDiffers (s.port p.val).cfg.pc c = true →
    (s.port p.val).stat.state ≠ .busOff → (s.port p.val).stat.state ≠ .recovering →
    ∃ t, exec (.busIdleSettingsApply p) s = .next t ∧ (t.port p.val).cfg.pc = c ∧
      (t.port p.val).stat.state = .integrating ∧ (t.port p.val).stat.pend = none ∧
      (∀ h, bit ((t.port p.val).flags.get h).ch 3 = true) ∧ (t.port p.val).err.tec = (s.port p.val).err.tec ∧
      (t.port p.val).err.recv = (s.port p.val).err.recv ∧ OnlyPort p.val s t ∧
      Unchanged [.ports, .irq, .hosts, .out] s t) ∧
  (∀ (s : State) (p : Port), (s.port p.val).stat.disable = true → (s.port p.val).mayIdle = true →
    (∀ c, (s.port p.val).stat.pend = some c → bit c.ctrl 0 = false) → s.dlv.cur ≤ (s.port p.val).fence.n →
    ∃ t, exec (.portDisableAtIdle p) s = .next t ∧ (t.port p.val).stat.state = .disabled ∧
      (t.port p.val).err.tec = (s.port p.val).err.tec ∧ (t.port p.val).err.recv = (s.port p.val).err.recv ∧
      (t.port p.val).err.errState = (s.port p.val).err.errState ∧ (t.port p.val).cnt = (s.port p.val).cnt ∧
      t.objs = s.objs ∧ OnlyPort p.val s t ∧ Unchanged [.ports, .run, .irq, .hosts, .out] s t) ∧
  (∀ (s : State) (p : Port), (s.port p.val).stat.disable = true → (s.port p.val).mayIdle = true →
    (∀ c, (s.port p.val).stat.pend = some c → bit c.ctrl 0 = false) → (s.port p.val).fence.n < s.dlv.cur →
    ∃ t, exec (.portDisableAtIdle p) s = .next t ∧ (t.port p.val).stat.state = .disabled ∧
      (t.port p.val).fence.n = s.dlv.cur ∧ (t.port p.val).fence.cyc = s.trk.cycle ∧
      (t.port p.val).fence.win = s.trk.win ∧ (t.port p.val).err.tec = (s.port p.val).err.tec ∧ t.dev = s.dev)) ∧
  (
  (∀ (s : State) (p : Port) (rx : RxFrame), (s.port p.val).stat.rx = some rx → (s.port p.val).cfg.peEn = true →
    (s.port p.val).cfg.silkEn = false → (s.port p.val).stat.state = .active → s.dev.mode ≠ .sleep →
    ∃ t, exec (.protocolException p) s = .next t ∧ (t.port p.val).stat.rx = none ∧ (t.port p.val).stat.state = .peWait ∧
      (t.port p.val).cnt.peCount = min 65535 ((s.port p.val).cnt.peCount + 1) ∧
      (t.port p.val).err = (s.port p.val).err ∧ (∀ h, bit ((t.port p.val).flags.get h).ch 2 = true) ∧
      t.irq.pend.getLsbD (p.val + 1) = true ∧ t.objs = s.objs ∧ t.pool = s.pool ∧ OnlyPort p.val s t ∧
      Unchanged [.ports, .irq, .hosts, .out] s t) ∧
  (∀ (s : State) (p : Port) (rx : RxFrame), (s.port p.val).stat.rx = some rx → (s.port p.val).cfg.silkEn = true →
    (∃ e, exec (.protocolException p) s = .next e ∧ e.ports = s.ports ∧ e.objs = s.objs)) ∧
  (∀ (s : State) (p : Port), (s.port p.val).cfg.silkEn = true → (s.port p.val).inSilk = true →
    (s.port p.val).silk.contention = false → s.dev.mode ≠ .sleep →
    ∃ t, exec (.silkContention p) s = .next t ∧ (t.port p.val).silk.contention = true ∧
      (t.port p.val).silkCnt.intruders = min 65535 ((s.port p.val).silkCnt.intruders + 1) ∧
      (∀ h, bit ((t.port p.val).flags.get h).silk 2 = true) ∧ t.irq.pend.getLsbD (p.val + 1) = true ∧
      (t.port p.val).err = (s.port p.val).err ∧ (t.port p.val).stat = (s.port p.val).stat ∧ OnlyPort p.val s t ∧
      Unchanged [.ports, .irq, .hosts, .out, .rcd] s t) ∧
  (∀ (s : State) (p : Port), (s.port p.val).cfg.silkEn = false ∨ (s.port p.val).inSilk = false →
    ∃ t, exec (.silkContention p) s = .next t ∧ t.ports = s.ports ∧ t.rcd = s.rcd) ∧
  (∀ (s : State) (p : Port), (s.port p.val).enabled = true → (s.port p.val).mis.stuckArmed = true →
    ∃ t, exec (.stuckDominant p) s = .next t ∧ (∀ h, bit ((t.port p.val).flags.get h).err 6 = true) ∧
      (t.port p.val).mis.stuckArmed = false ∧ (t.port p.val).err = (s.port p.val).err ∧ OnlyPort p.val s t ∧
      Unchanged [.ports, .rcd] s t) ∧
  (∀ (s : State) (p : Port), (s.port p.val).mis.stuckArmed = false → exec (.stuckDominant p) s = .next s))

/-- What an error adds to the counters of an ACTIVE port (07 R145), the role first: the rows of the table. -/
def Obligations.ErrorTable : Prop :=
  (∀ (e : BusError) (b : Bool), (e.place = .plain ∨ e.place = .peRefusal ∨ e.place = .xlNoErrsig ∨ e.place = .payload ∨
      e.place = .afterAck) →
    errAdds e true b = (8, 0) ∧ errAdds e false b = (0, 1)) ∧
  (∀ (e : BusError) (b : Bool), (e.place = .inFlag ∨ e.place = .dominantRun) →
    errAdds e true b = (8, 0) ∧ errAdds e false b = (0, 8)) ∧
  (∀ (e : BusError) (b : Bool), e.place = .firstAfterFlag → errAdds e false b = (0, 8)) ∧
  (∀ e : BusError, e.place = .ackNoDominant → e.kind = .ack → errAdds e true true = (0, 0) ∧ errAdds e true false = (8, 0)) ∧
  (∀ (e : BusError) (b : Bool), e.place = .arbStuff → e.kind = .stuff → errAdds e true b = (0, 0))

/-- An error ends the frame in progress on an ACTIVE port, counts as the table says, and the error state follows the
counters; in GAUZE the frame is dropped, GAUZE_ERROR is set and no counter changes (07 R144-R148, R160). -/
def Obligations.ErrorDetected : Prop :=
  (∀ (s : State) (p : Port) (e : BusError), (s.port p.val).stat.state = .active → (s.port p.val).err.errState < 2 →
    ((s.port p.val).stat.rx.isSome = true ∨ (s.port p.val).stat.tx.isSome = true) →
    (e.place = .afterAck → (s.port p.val).isSender = true) → (s.port p.val).selfAcked ((s.port p.val).placed e) = false →
    ∃ t, exec (.errorDetected p e) s = .next t ∧
      (t.port p.val).err.tec = min 256 ((s.port p.val).err.tec +
        (errAdds ((s.port p.val).placed e) (s.port p.val).isSender ((s.port p.val).err.errState = 1)).1) ∧
      (t.port p.val).err.recv = min 255 ((s.port p.val).err.recv +
        (errAdds ((s.port p.val).placed e) (s.port p.val).isSender ((s.port p.val).err.errState = 1)).2) ∧
      (t.port p.val).err.errState =
        (if 127 < (t.port p.val).err.tec ∨ 127 < (t.port p.val).err.recv then 1 else 0) ∧
      (t.port p.val).err.errors = min 65535 ((s.port p.val).err.errors + 1) ∧
      (t.port p.val).stat.rx = none ∧ (t.port p.val).stat.tx = none ∧ (t.port p.val).cfg = (s.port p.val).cfg ∧
      t.dev = s.dev ∧ t.keep = s.keep ∧ t.pwr = s.pwr) ∧
  (∀ (s : State) (p : Port) (e : BusError), (s.port p.val).stat.state = .active → (s.port p.val).err.errState < 2 →
    (s.port p.val).stat.rx.isSome = true → (s.port p.val).isSender = false → e.place = .afterAck →
    ∃ t, exec (.errorDetected p e) s = .next t ∧ (t.port p.val).err.tec = min 256 (s.port p.val).err.tec ∧
      (t.port p.val).err.recv = min 255 (recAfterGood (s.port p.val).err.recv + 1) ∧ (t.port p.val).stat.rx = none) ∧
  (∀ (s : State) (p : Port) (e : BusError), (s.port p.val).stat.state = .gauze → (s.port p.val).stat.rx.isSome = true →
    (s.port p.val).stat.tx = none →
    ∃ t, exec (.errorDetected p e) s = .next t ∧ (t.port p.val).err.tec = (s.port p.val).err.tec ∧
      (t.port p.val).err.recv = (s.port p.val).err.recv ∧ (t.port p.val).err.errState = (s.port p.val).err.errState ∧
      (t.port p.val).stat.rx = none ∧ (t.port p.val).stat.integrating = true ∧
      (∀ h, bit ((t.port p.val).flags.get h).err 7 = true) ∧ t.objs = s.objs ∧ t.pool = s.pool ∧ OnlyPort p.val s t) ∧
  (∀ (s : State) (p : Port) (e : BusError) (x : TxFrame), (s.port p.val).stat.state = .gauze →
    (s.port p.val).stat.tx = some x → (s.port p.val).selfAcked ((s.port p.val).placed e) = false →
    ∃ t, exec (.errorDetected p e) s = .next t ∧ (t.port p.val).err.tec = (s.port p.val).err.tec ∧
      (t.port p.val).err.recv = (s.port p.val).err.recv ∧ (t.port p.val).stat.tx = none ∧
      (t.port p.val).stat.integrating = true ∧ (∀ h, bit ((t.port p.val).flags.get h).err 7 = true)) ∧
  (∀ (s : State) (p : Port) (e : BusError), (s.port p.val).selfAcked ((s.port p.val).placed e) = true →
    ∃ t, exec (.errorDetected p e) s = .next t ∧ Unchanged [.irq, .hosts, .out] s t) ∧
  (∀ (v : PortS) (e : BusError), e.place = .xlNoErrsig → v.cfg.errsig = true → (v.placed e).place = .payload) ∧
  (∀ (v : PortS) (e : BusError), v.fmtNow = some .xl → e.phase = .data → e.place = .payload → v.cfg.errsig = false →
    (v.placed e).place = .xlNoErrsig) ∧
  (∀ (s : State) (p : Port) (e : BusError), (s.port p.val).stat.state ≠ .active → (s.port p.val).stat.state ≠ .gauze →
    ∃ t, exec (.errorDetected p e) s = .next t ∧ t.ports = s.ports ∧ t.objs = s.objs)

/-- Bus-off: its entry, the hold-off, the count of sequences, and the completion of recovery (07 R152, R154-R158). -/
def Obligations.BusOff : Prop :=
  (∀ (s : State) (p : Port), 255 < (s.port p.val).err.tec → (s.port p.val).err.errState ≠ 2 →
    (s.port p.val).stat.state = .active → s.dev.mode ≠ .sleep → s.run.buckram = true → s.rcd.scanned = true →
    ∃ t e, exec (.busOffEntry p) s = .next t ∧ (t.port p.val).err.tec = 256 ∧ (t.port p.val).err.errState = 2 ∧
      (t.port p.val).err.busOffs = min 65535 ((s.port p.val).err.busOffs + 1) ∧
      (t.port p.val).err.recovSeq = 0 ∧
      (t.port p.val).stat.state = (if (s.port p.val).err.quarantineTest s.us = true ∨
          bits (s.port p.val).cfg.recPolicy 1 0 = 0 ∨ (s.port p.val).err.quarantined = true then .recovering else
        if bits (s.port p.val).cfg.recPolicy 1 0 = 1 ∧ bits (s.port p.val).cfg.recPolicy 31 16 = 0 then .recovering
        else .busOff) ∧
      (∀ h, bit ((t.port p.val).flags.get h).err 1 = true) ∧ t.irq.pend.getLsbD (p.val + 1) = true ∧
      e ∈ t.rcd.queue ∧ e.code = 0x0103 ∧ e.source = p.val ∧
      ((s.port p.val).err.quarantineTest s.us = true → (t.port p.val).err.quarantined = true)) ∧
  (∀ (s : State) (p : Port), (s.port p.val).stat.state = .busOff → bits (s.port p.val).cfg.recPolicy 1 0 = 1 →
    ∃ t, exec (.holdoffExpiry p) s = .next t ∧ (t.port p.val).stat.state = .recovering ∧ (t.port p.val).err.recovSeq = 0 ∧
      (t.port p.val).err.tec = (s.port p.val).err.tec ∧ OnlyPort p.val s t ∧ Unchanged [.ports] s t) ∧
  (∀ (s : State) (p : Port), (s.port p.val).stat.state = .recovering → s.pllLocked p.val = true →
    ∃ t, exec (.recoverySequence p) s = .next t ∧
      (t.port p.val).err.recovSeq = min 128 ((s.port p.val).err.recovSeq + 1) ∧
      (t.port p.val).stat = (s.port p.val).stat ∧ OnlyPort p.val s t ∧ Unchanged [.ports] s t) ∧
  (∀ (s : State) (p : Port), (s.port p.val).stat.state = .recovering → (s.port p.val).err.recovSeq = 128 →
    s.dev.mode ≠ .sleep →
    ∃ t, exec (.recoveryComplete p) s = .next t ∧ (t.port p.val).err.tec = 0 ∧ (t.port p.val).err.recv = 0 ∧
      (t.port p.val).err.errState = 0 ∧
      (t.port p.val).stat.state = (if (s.port p.val).stat.causes = [] then .active else .gauze) ∧
      (∀ h, bit ((t.port p.val).flags.get h).err 2 = true) ∧ t.irq.pend.getLsbD (p.val + 1) = true ∧
      OnlyPort p.val s t ∧ (∀ o, { t.obj o with tx := (s.obj o).tx } = s.obj o) ∧
      Unchanged [.ports, .objs, .irq, .hosts, .out, .rcd] s t) ∧
  (∀ (s : State) (p : Port), (s.port p.val).stat.state = .recovering → (s.port p.val).err.recovSeq < 128 →
    ∃ t, exec (.recoveryComplete p) s = .next t ∧ t.ports = s.ports)

/-- The arbiter's choice and the begin of an attempt: a due fence goes first, a spent guard stops every other frame,
and what begins is the staged frame (06 R129, R130, R136, R139, 07 R151). -/
def Obligations.Arbiter : Prop :=
  (∀ (s : State) (p : Port), s.maySend p.val = true → (s.port p.val).stat.rx = none →
    (s.port p.val).stat.busIdle = false → (s.port p.val).fence.due = true →
    ∃ t, exec (.arbiterChoice p) s = .next t ∧ (t.port p.val).tx.staged = some .fence ∧
      (t.port p.val).err = (s.port p.val).err ∧ (t.port p.val).cfg = (s.port p.val).cfg) ∧
  (∀ (s : State) (p : Port), s.maySend p.val = true → (s.port p.val).stat.rx = none →
    (s.port p.val).stat.busIdle = false → (s.port p.val).fence.due = false →
    (s.port p.val).cfg.guardMax ≤ (s.port p.val).tx.sentInWin →
    ∃ t, exec (.arbiterChoice p) s = .next t ∧ (t.port p.val).tx.staged = none) ∧
  (∀ (s : State) (p : Port), s.maySend p.val = false →
    ∃ t, exec (.arbiterChoice p) s = .next t ∧ Unchanged [.irq, .hosts, .out] s t) ∧
  (∀ (s : State) (p : Port), s.maySend p.val = true → (s.port p.val).mis.suspend = false → (s.port p.val).stat.rx = none →
    (s.port p.val).tx.staged = some .fence → (s.port p.val).fence.due = true →
    ∃ t x, exec (.frameBegin p) s = .next t ∧ (t.port p.val).stat.tx = some x ∧ x.src = .fence ∧
      x.frame.data = (s.fenceFrame p.val).data ∧ x.frame.id = (s.fenceFrame p.val).id ∧
      (t.port p.val).tx.staged = none ∧ (t.port p.val).tx.sentInWin = (s.port p.val).tx.sentInWin ∧
      (t.port p.val).cnt.attempts = (s.port p.val).cnt.attempts + 1 ∧ t.objs = s.objs ∧ OnlyPort p.val s t) ∧
  (∀ (s : State) (p : Port) (o : Nat), s.maySend p.val = true → (s.port p.val).mis.suspend = false →
    (s.port p.val).stat.rx = none → (s.port p.val).tx.staged = some (.obj o) → s.objReady p.val o = true →
    ∃ t x, exec (.frameBegin p) s = .next t ∧ (t.port p.val).stat.tx = some x ∧ x.src = .obj o ∧
      x.frame.data = (s.objFrame p.val o).data ∧ x.frame.id = (s.objFrame p.val o).id ∧
      (t.obj o).req.begun = true ∧ (t.port p.val).tx.sentInWin = min 65535 ((s.port p.val).tx.sentInWin + 1) ∧
      (t.port p.val).cnt.attempts = (s.port p.val).cnt.attempts + 1 ∧ OnlyPort p.val s t ∧ OnlyObj o s t ∧
      Unchanged [.ports, .objs, .out, .rcd] s t) ∧
  (∀ (s : State) (p : Port), s.maySend p.val = false → exec (.frameBegin p) s = .next s)

/-- How an attempt ends: lost arbitration, completion, the suspension after it, and an identifier collision (06 R132,
R141, R142, 07 R145, R148, 02 R56). -/
def Obligations.AttemptEnds : Prop :=
  (∀ (s : State) (p : Port) (x : TxFrame) (r : Option (Fin 8)), (s.port p.val).stat.tx = some x →
    ∃ t y, exec (.arbitrationLost p r) s = .next t ∧ (t.port p.val).stat.tx = none ∧ (t.port p.val).stat.rx = some y ∧
      y.sofTick = x.sofTick ∧ y.sofWin = x.win ∧ (t.port p.val).err = (s.port p.val).err ∧
      { (t.port p.val).cnt with denseMisses := (s.port p.val).cnt.denseMisses } = (s.port p.val).cnt ∧
      (∀ o, x.src = .obj o → (s.obj o).lastAt p.val = false → (s.obj o).req.cancel = false → s.mem.waits o = false →
        (∀ a ∈ s.mem.held, a.1 ≠ o) →
        (t.obj o).req.latched = (s.obj o).req.latched ∧ (t.obj o).req.fail = (s.obj o).req.fail)) ∧
  (∀ (s : State) (p : Port) (x : TxFrame) (d : BitVec 12), (s.port p.val).stat.tx = some x →
    (s.port p.val).silk.contention = false →
    ∃ t, exec (.attemptCompleted p d) s = .next t ∧ (t.port p.val).stat.tx = none ∧
      (t.port p.val).cnt.txFrames = (s.port p.val).cnt.txFrames + 1 ∧
      (t.port p.val).err.tec = (if (s.port p.val).stat.state = .active then (s.port p.val).err.tec - 1
        else (s.port p.val).err.tec) ∧
      (t.port p.val).err.recv = (s.port p.val).err.recv ∧ (t.port p.val).mis.lastSender = true ∧
      (t.port p.val).mis.suspend = decide ((t.port p.val).err.errState = 1) ∧
      (x.src = .fence → (t.port p.val).fence.due = false) ∧ t.dev = s.dev ∧ t.keep = s.keep) ∧
  (∀ (s : State) (p : Port), ∃ t, exec (.suspendTransmissionEnd p) s = .next t ∧ (t.port p.val).mis.suspend = false ∧
    (t.port p.val).stat = (s.port p.val).stat ∧ OnlyPort p.val s t ∧ Unchanged [.ports] s t) ∧
  (∀ (s : State) (p : Port) (o : Nat), s.colliding p.val = some o → s.dev.mode ≠ .sleep →
    ∃ t, exec (.idCollision p) s = .next t ∧
      (t.port p.val).tx.collEvents = min 65535 ((s.port p.val).tx.collEvents + 1) ∧ (t.port p.val).tx.collObj = o ∧
      (∀ h, bit ((t.port p.val).flags.get h).tx 1 = true) ∧ (t.obj o).req.collRun = 0 ∧
      ((s.obj o).collPolicy = 1 → (t.obj o).req.paused = true) ∧ t.irq.pend.getLsbD 174 = true ∧
      OnlyPort p.val s t ∧ OnlyObj o s t ∧ Unchanged [.ports, .objs, .irq, .hosts, .out, .rcd] s t)

/-- Silk calibration: the trim's code and the measured loss take effect at the next start of frame when a frame is in
progress; CALIBRATION_DONE is raised as 03 R77 says (03 R74-R77). -/
def Obligations.SilkCalibration : Prop :=
  (∀ (s : State) (p : Port) (c : BitVec 6), (s.port p.val).silk.trimming = true → (s.port p.val).inFrame = false →
    s.dev.mode ≠ .sleep →
    ∃ t, exec (.odtTrimDone p c) s = .next t ∧ (t.port p.val).silk.trimming = false ∧
      (t.port p.val).silk.termCode = c.toNat ∧ (t.port p.val).silk.preemph = (s.port p.val).silk.preemph ∧
      ((s.port p.val).silk.termCode ≠ c.toNat → t.irq.pend.getLsbD 168 = true) ∧ OnlyPort p.val s t ∧
      Unchanged [.ports, .irq, .hosts, .out] s t) ∧
  (∀ (s : State) (p : Port) (l n : BitVec 8) (x : TxFrame), (s.port p.val).silk.cal = .sending →
    (s.port p.val).stat.tx = some x → x.src = .calibration → s.dev.mode ≠ .sleep →
    ∃ t, exec (.calibrationMeasured p l n) s = .next t ∧ (t.port p.val).silk.cal = .waitPeriod ∧
      (t.port p.val).silk.lossEst = l.toNat ∧ (t.port p.val).silk.calLimit = decide (15 < n.toNat) ∧
      (t.port p.val).silk.next = some ((s.port p.val).silk.termCode, min n.toNat 15) ∧
      (t.port p.val).silkCnt.calDone = min 65535 ((s.port p.val).silkCnt.calDone + 1) ∧
      ((s.port p.val).silk.firstDone = false → t.irq.pend.getLsbD 168 = true) ∧
      (t.port p.val).err = (s.port p.val).err ∧ OnlyPort p.val s t ∧ Unchanged [.ports, .irq, .hosts, .out] s t)

/-- A host's payload write stores its bytes in that host's own buffer and nowhere else; bytes that are neither
payload of a send object nor OBJ_CMD are ignored and counted (04 R91, R92, R104). A BAR2 read returns the object's
bytes and changes nothing: a receive object's payload comes from its one buffer, a send object's from the reader's
own (04 R91-R93). -/
def Obligations.HostWindow : Prop :=
  (
  (∀ (s : State) (h : HostId) (off : BitVec 26) (bs : List (Option Byte)), (s.host h).held = [] → s.mem.ready = true → s.memOk = true →
    s.mem.bad = [] → (s.obj (off.toNat / 0x1000)).en = true → (s.obj (off.toNat / 0x1000)).send = true →
    0x40 ≤ off.toNat % 0x1000 → off.toNat % 0x1000 + bs.length ≤ 0x1000 →
    off.toNat % 0x1000 + bs.length ≤ 0x40 + (s.obj (off.toNat / 0x1000)).capacity →
    ∃ t, exec (.bar2Write h off bs) s = .next t ∧
      (∀ (i : Nat) (b : Byte), bs[i]? = some (some b) →
        t.poolByte ((s.obj (off.toNat / 0x1000)).bufAt h + (off.toNat % 0x1000 - 0x40) + i) = b) ∧
      (∀ i : Nat, bs[i]? = some none →
        t.poolByte ((s.obj (off.toNat / 0x1000)).bufAt h + (off.toNat % 0x1000 - 0x40) + i) =
          s.poolByte ((s.obj (off.toNat / 0x1000)).bufAt h + (off.toNat % 0x1000 - 0x40) + i)) ∧
      PoolSameOutside ((s.obj (off.toNat / 0x1000)).bufAt h + (off.toNat % 0x1000 - 0x40)) bs.length s t ∧
      t.memOk = true ∧ Unchanged [.pool, .mem, .irq, .hosts, .out] s t) ∧
  (∀ (s : State) (h : HostId) (off : BitVec 26) (b : Byte), (s.host h).held = [] → s.mem.ready = true →
    ((s.obj (off.toNat / 0x1000)).en = false ∨ (s.obj (off.toNat / 0x1000)).send = false) → 0x28 ≤ off.toNat % 0x1000 →
    ∃ t, exec (.bar2Write h off [some b]) s = .next t ∧ (t.host h).violations = min 0xFFFFFFFF ((s.host h).violations + 1) ∧
      bits (t.host h).violLast 31 28 = 4 ∧ t.pool = s.pool ∧ t.objs = s.objs ∧ Unchanged [.irq, .hosts, .out, .rcd] s t) ∧
  (∀ (s : State) (h : HostId) (off : BitVec 26) (bs : List (Option Byte)), s.mem.ready = false ∨ (s.host h).writesHeld = true →
    ∃ t, exec (.bar2Write h off bs) s = .next t ∧ (t.host h).held = (s.host h).held ++ [.bar2 off.toNat bs] ∧
      Unchanged [.irq, .hosts, .out] s t)) ∧
  (
  (∀ (s : State) (h : HostId) (off : BitVec 26) (n : BitVec 13), s.mem.ready = true → (s.host h).writesHeld = false →
    s.mem.bad = [] →
    ∃ t, exec (.bar2Read h off n) s = .next t ∧
      Out.bar2 h ((numsFrom off.toNat n.toNat).map fun a => s.bar2Byte h (a / 0x1000) (a % 0x1000)) false ∈ t.out ∧
      Unchanged [.irq, .hosts, .out] s t) ∧
  (∀ (s : State) (h : HostId) (off : BitVec 26) (n : BitVec 13), s.mem.ready = false ∨ (s.host h).writesHeld = true →
    ∃ t, exec (.bar2Read h off n) s = .next t ∧ (t.host h).held = (s.host h).held ++ [.bar2Read off.toNat n.toNat] ∧
      Unchanged [.irq, .hosts, .out] s t) ∧
  (∀ (s : State) (h : HostId) (o i : Nat), (s.obj o).en = true → i < (s.obj o).capacity →
    s.bar2Byte h o (0x40 + i) = s.poolByte
      (64 * ((s.obj o).granBase + if (s.obj o).send then (h.num + 1) * (s.obj o).granCount else 0) + i)))

/-- The OBJ_CMD word: each host clears its own ND and OVERWRITTEN, makes its own request, and withdraws it (04 R88,
R89, R95, 06 R128, R138). -/
def Obligations.ObjectCommands : Prop :=
  (∀ (s : State) (h : HostId) (o : BitVec 14), (s.host h).held = [] → s.mem.ready = true → s.mem.waits o.toNat = false →
    ∃ t, exec (.ndClr (.host h) o) s = .next t ∧ (t.obj o.toNat).nd = setBit (s.obj o.toNat).nd h.num false ∧
      (t.obj o.toNat).ovw = (s.obj o.toNat).ovw ∧ (t.obj o.toNat).req = (s.obj o.toNat).req ∧ OnlyObj o.toNat s t ∧
      Unchanged [.objs, .irq, .hosts, .out] s t) ∧
  (∀ (s : State) (h : HostId) (o : BitVec 14), (s.host h).held = [] → s.mem.ready = true → s.mem.waits o.toNat = false →
    ∃ t, exec (.ovwClr (.host h) o) s = .next t ∧ (t.obj o.toNat).ovw = setBit (s.obj o.toNat).ovw h.num false ∧
      (t.obj o.toNat).nd = (s.obj o.toNat).nd ∧ (t.obj o.toNat).req = (s.obj o.toNat).req ∧ OnlyObj o.toNat s t ∧
      Unchanged [.objs, .irq, .hosts, .out] s t) ∧
  (∀ (s : State) (o : BitVec 14), s.mem.waits o.toNat = false →
    (∃ t, exec (.ndClr .processors o) s = .next t ∧ (t.obj o.toNat).nd = setBit (s.obj o.toNat).nd 2 false ∧
      (t.obj o.toNat).ovw = (s.obj o.toNat).ovw ∧ (t.obj o.toNat).req = (s.obj o.toNat).req ∧ OnlyObj o.toNat s t ∧
      Unchanged [.objs, .irq, .hosts, .out] s t) ∧
    (∃ t, exec (.ovwClr .processors o) s = .next t ∧ (t.obj o.toNat).ovw = setBit (s.obj o.toNat).ovw 2 false ∧
      (t.obj o.toNat).nd = (s.obj o.toNat).nd ∧ (t.obj o.toNat).req = (s.obj o.toNat).req ∧ OnlyObj o.toNat s t ∧
      Unchanged [.objs, .irq, .hosts, .out] s t)) ∧
  (∀ (s : State) (h : HostId) (o : BitVec 14) (n : BitVec 12), (s.host h).held = [] → s.mem.ready = true → s.mem.waits o.toNat = false → (s.obj o.toNat).en = true →
    (s.obj o.toNat).send = true → (s.obj o.toNat).faulted = false → (s.obj o.toNat).discard = false →
    s.dev.mode = .grid → s.live h = true → n.toNat ≤ (s.obj o.toNat).capacity →
    validLen (s.obj o.toNat).fmt n.toNat = true →
    ∃ t, exec (.txReq h o n) s = .next t ∧ (t.obj o.toNat).req.pend.get h = true ∧ (t.obj o.toNat).req.len.get h = n.toNat ∧
      (t.obj o.toNat).req.pend.get h.peer = (s.obj o.toNat).req.pend.get h.peer ∧ (t.obj o.toNat).req.reqErr = false ∧
      (t.obj o.toNat).req.latched = (s.obj o.toNat).req.latched ∧ OnlyObj o.toNat s t ∧
      Unchanged [.objs, .irq, .hosts, .out] s t) ∧
  (∀ (s : State) (h : HostId) (o : BitVec 14) (n : BitVec 12), (s.host h).held = [] → s.mem.ready = true → s.mem.waits o.toNat = false → (s.obj o.toNat).en = true →
    (s.obj o.toNat).send = true → ((s.obj o.toNat).capacity < n.toNat ∨ s.dev.mode = .hold) →
    ∃ t, exec (.txReq h o n) s = .next t ∧ (t.obj o.toNat).req = { (s.obj o.toNat).req with reqErr := true } ∧
      OnlyObj o.toNat s t ∧ Unchanged [.objs, .irq, .hosts, .out] s t) ∧
  (∀ (s : State) (h : HostId) (o : BitVec 14) (n : BitVec 12), (s.host h).held = [] → s.mem.ready = true → s.mem.waits o.toNat = false → (s.obj o.toNat).send = false →
    ∃ t, exec (.txReq h o n) s = .next t ∧ (t.host h).violations = min 0xFFFFFFFF ((s.host h).violations + 1) ∧
      bits (t.host h).violLast 31 28 = 5 ∧ t.objs = s.objs) ∧
  (∀ (s : State) (h : HostId) (o : BitVec 14), (s.host h).held = [] → s.mem.ready = true → s.mem.waits o.toNat = false → (s.obj o.toNat).req.pend.get h = true →
    (s.obj o.toNat).req.pend.get h.peer = false → (s.obj o.toNat).req.latched = false →
    ∃ t, exec (.txCancel h o) s = .next t ∧ (t.obj o.toNat).req.pend.get h = false ∧
      (t.obj o.toNat).req.cancelled = true ∧ OnlyObj o.toNat s t ∧ Unchanged [.objs, .irq, .hosts, .out] s t)

/-- Initialisation releases what was held; a granule in zeroing reads as before while its mark goes; a latching's
copy completes (04 R80, R86, R90, 06 R122). -/
def Obligations.MemoryBackground : Prop :=
  (∀ s : State, s.mem.ready = false → s.run.domains.contains 8 = true → (∀ h, (s.host h).held = []) →
    ∃ t, exec .memoryInitDone s = .next t ∧ t.mem.ready = true ∧ t.pool = [] ∧ t.objs = [] ∧ t.mem.zeroMarks = [] ∧
      t.mem.staged = [] ∧ (∀ b ∈ t.mem.bad, b.1 ≠ .message) ∧ (∀ b ∈ s.mem.bad, b.1 ≠ .message → b ∈ t.mem.bad) ∧
      Unchanged [.mem, .objs, .pool, .irq, .hosts, .out] s t) ∧
  (∀ s : State, s.run.domains.contains 8 = false → exec .memoryInitDone s = .next s) ∧
  (∀ (s : State) (g : BitVec 16), s.memOk = true →
    ∃ t, exec (.backgroundZeroing g) s = .next t ∧ t.mem.zeroMarks.contains g.toNat = false ∧
      (∀ a, t.poolByte a = s.poolByte a) ∧ t.memOk = true ∧ Unchanged [.pool, .mem] s t) ∧
  (∀ (s : State) (o : BitVec 14), (s.obj o.toNat).req.latched = true →
    ∃ t, exec (.latchCopyDone o) s = .next t ∧ (t.obj o.toNat).req.copied = true ∧
      (t.obj o.toNat).tx = (s.obj o.toNat).tx ∧ OnlyObj o.toNat s t ∧ Unchanged [.objs] s t)

/-- A frame whose filter result names an object updates it: the payload up to the capacity, the frame's description,
SEQ, ND for all three readers, and OVERWRITTEN for those who had not read; every other byte of the pool stays (04
R87, R88, 05 R108). -/
def Obligations.ReceiveUpdate : Prop :=
  ∀ (s : State) (p : Port) (f : Frame) (rx : RxFrame) (r o : Nat), (s.port p.val).stat.rx = some rx →
    (s.port p.val).mayBeValid rx f = true → rx.result = some r → resKind r = 1 →
    (s.copyFor rx.ownWin).pairOf p.val = none → (s.copyFor rx.sofWin).pairOf p.val = none → s.mem.waits o = false →
    o = resObject (s.filterCopy p.val rx.sofWin).2 r → s.updatable o p.val = true → s.slotOf o = none → s.memOk = true →
    s.mem.bad = [] → f.rtr = false →
    ∃ t, exec (.frameValid p f) s = .next t ∧ (t.obj o).nd = 7 ∧ (t.obj o).ovw = (s.obj o).ovw ||| (s.obj o).nd ∧
      (t.obj o).last.seq = (s.obj o).last.seq + 1 ∧ (t.obj o).last.fid = fidWord f ∧ (t.obj o).last.flen = flenWord f ∧
      (t.obj o).last.ftime = s.ftime ∧
      (t.obj o).truncated = decide ((s.obj o).capacity < f.data.length) ∧
      (∀ (i : Nat) (b : Byte), i < (s.obj o).capacity → f.data[i]? = some b → t.poolByte ((s.obj o).imageAt + i) = b) ∧
      PoolSameOutside (s.obj o).imageAt (min (s.obj o).capacity f.data.length) s t ∧ OnlyObj o s t ∧
      (t.obj o).req = (s.obj o).req ∧ t.memOk = true

/-- The clock and what reads it: a tick of the phase clock, the read that keeps a snapshot, and the end of a slew (08
R182, R183, R194, 04 R103). The tracker's commands: a counted and an extra tick, a cycle's start, a missing start (08
R171, R173, R175). -/
def Obligations.ClockAndTracker : Prop :=
  (
  (∀ s : State, s.pending = [] → s.run.domains.contains 3 = true → s.dev.mode ≠ .sleep → s.clk.slewing = false →
    s.clk.plantFrac < 200 →
    ∃ t, step s = .next t ∧ t.clk.ticks = s.clk.ticks + 1 ∧ t.clk.plant = s.clk.plant + 10 ∧
      t.clk.plantFrac = s.clk.plantFrac ∧ t.clk.token = (s.clk.token + 4) % 72 ∧
      { t.run with retention := s.run.retention } = s.run ∧
      t.pwr2 = { s.pwr2 with osc := s.pwr2.osc + flag s.pwr2.powered } ∧ Unchanged [.clk, .run, .pwr2] s t) ∧
  (∀ (s : State) (h : HostId), (s.host h).writesHeld = true →
    ∃ t, exec (.grdPhaseRead h) s = .next t ∧ (t.host h).held = (s.host h).held ++ [.phase] ∧ Unchanged [.hosts] s t) ∧
  (∀ (s : State) (h : HostId), (s.host h).writesHeld = false → exec (.grdPhaseRead h) s = .next
    { s with trk2 := { s.trk2 with snapCycle := s.trk2.snapCycle.set h s.trk.cycle,
                                   snapTime := s.trk2.snapTime.set h s.clk.plant }
             out := .read h s.grdPhase :: s.out }) ∧
  (∀ s : State, s.clk.slewing = true → s.clk.slew = 0 →
    exec .slewEnd s = .next { s with clk := { s.clk with slewing := false } }) ∧
  (∀ s : State, s.clk.slew ≠ 0 → exec .slewEnd s = .next s)) ∧
  (
  (∀ s : State, srcKind s.trk.cfg.src = 1 → s.trk.state = .locked → s.trk.tick = none → s.run.domains.contains 3 = true →
    s.now < s.trk.start + s.trk.len / 2 →
    exec .sourceTick s = .next { s with trk := { s.trk with tick := some (s.now - s.trk.start) } }) ∧
  (∀ (s : State) (x : Int), srcKind s.trk.cfg.src = 1 → s.trk.state ≠ .free → s.trk.tick = some x →
    s.run.domains.contains 3 = true → s.now < s.trk.start + s.trk.len / 2 →
    exec .sourceTick s = .next { s with trk2 := { s.trk2 with extra := min 65535 (s.trk2.extra + 1) } }) ∧
  (∀ s : State, srcKind s.trk.cfg.src = 0 → exec .sourceTick s = .next s) ∧
  (∀ s : State, s.trk2.startDue = false → s.run.domains.contains 3 = true →
    ∃ t, exec .cycleStart s = .next t ∧ t.trk.cycle = s.trk.cycle + 1 ∧ t.trk.start = s.trk.start + s.trk.len ∧
      t.trk.tick = s.trk.early ∧ t.trk2.startDue = true ∧ t.trk.cfg = s.trk.cfg ∧
      t.trk.win = s.trk.win ∧ (s.trk.state = .free → t.trk.len = (s.trk.cfg.period : Int) * 65536) ∧
      (s.trk.state ≠ .free → s.trk.tick = none → t.trk.corr = 0 ∧ t.trk.len = clampLen s.trk.pEst s.trk.pEst) ∧
      Unchanged [.trk, .trk2, .dev, .rcd] s t) ∧
  (∀ s : State, s.trk.state = .locked → s.trk.tick = none → s.trk2.judged = false → 1 < srcHold s.trk.cfg.src →
    ∃ t, exec .missingStart s = .next t ∧ t.trk.state = .holdover ∧ t.trk.missing = 1 ∧ t.trk.cycle = s.trk.cycle ∧
      t.trk.len = s.trk.len ∧ t.trk.srcLost = s.trk.srcLost ∧ Unchanged [.trk, .trk2, .irq, .hosts, .out] s t) ∧
  (∀ s : State, s.trk.state = .holdover → s.trk.tick = none → s.trk2.judged = false → s.trk.srcLost = false →
    s.trk.missing + 1 = srcHold s.trk.cfg.src → s.trk.missing < 255 →
    ∃ t, exec .missingStart s = .next t ∧ t.trk.srcLost = true ∧ t.trk.missing = s.trk.missing + 1 ∧
      (s.dev.mode ≠ .sleep → t.irq.pend.getLsbD 135 = true) ∧ (∀ h, bit (t.trk2.flags.get h) 0 = true)))

/-- The local window boundary (08 R192, 19 R432): the next window becomes the local one, the field inputs are
sampled, and WINDOW_OPEN and CYCLE_START are raised. -/
def Obligations.WindowBoundary : Prop :=
  (∀ s : State, s.boundaryDue = true → s.dev.mode ≠ .sleep → s.cmds.committed = false →
    (s.dev.mode = .grid ∨ s.dev.mode = .direct ∨ s.dev.mode = .dense ∨ s.dev.mode = .tweed) →
    ∃ t, exec .windowBoundary s = .next t ∧ t.trk.win = s.upcoming.2 ∧ t.trk2.startDue = false ∧
      t.cmds.committed = false ∧ t.dlv.cur = s.dlv.cur + 1 ∧ t.fld.sampled = s.fld.frameDi ∧
      t.run.maintKey = s.fld.frameDi.getLsbD 4 ∧ t.dev.mode = s.dev.mode ∧ t.irq.pend.getLsbD 131 = true ∧
      (s.upcoming.2 = 0 → t.irq.pend.getLsbD 132 = true) ∧
      t.dlv.inForce = (if s.dev.mode = .grid ∨ s.dev.mode = .dense then .batch
        else if s.dev.mode = .direct then .direct else .none) ∧
      t.flt = s.flt ∧ t.dense = s.dense ∧ t.pwr = s.pwr ∧ t.clk.ticks = s.clk.ticks) ∧
  (∀ s : State, s.boundaryDue = true → s.dev.mode = .sleep →
    ∃ t, exec .windowBoundary s = .next t ∧ t.trk.win = s.upcoming.2 ∧ t.trk2.startDue = false ∧
      Unchanged [.trk, .trk2, .irq, .hosts, .out] s t) ∧
  (∀ s : State, s.boundaryDue = false →
    ∃ t, exec .windowBoundary s = .next t ∧ Unchanged [.irq, .hosts, .out] s t)

/-- The payload of a fence (08 R185), byte by byte and as a receiver reads it, and that it is stamped with the plant
time of the start of the attempt. -/
def Obligations.FencePayload : Prop :=
  (∀ (ext backup : Bool) (c : Word) (w : Nat) (t : BitVec 64), w < 64 →
    (fencePayload ext backup c w t).length = (if ext then 16 else 8) ∧
    (fencePayload ext backup c w t)[0]? =
      some (BitVec.ofNat 8 (w + (if backup then 64 else 0) + (if w = 0 then 128 else 0))) ∧
    leNat (((fencePayload ext backup c w t).drop 1).take 3) = c.toNat % 2 ^ 24 ∧
    leNat (((fencePayload ext backup c w t).drop 4).take 4) = t.toNat / 2 ^ 10 % 2 ^ 32 ∧
    (ext = true → leNat ((fencePayload ext backup c w t).drop 8) = t.toNat)) ∧
  (∀ (ext backup : Bool) (c : Word) (w : Nat) (t : BitVec 64), w < 64 →
    fenceSays (fencePayload ext backup c w t) =
      { win := w, backup := backup, start := decide (w = 0), cycle := c.toNat % 2 ^ 24, time := t.toNat / 1024 % 2 ^ 32,
        full := if ext then some t.toNat else none }) ∧
  (∀ (s : State) (p : Port), s.maySend p.val = true → (s.port p.val).mis.suspend = false → (s.port p.val).stat.rx = none →
    (s.port p.val).tx.staged = some .fence → (s.port p.val).fence.due = true →
    ∃ t x, exec (.frameBegin p) s = .next t ∧ (t.port p.val).stat.tx = some x ∧
      x.frame.data = fencePayload (fenceExt (s.port p.val).cfg.fenceCfg)
        ((s.port p.val).fence.higherSeen || (s.port p.val).fence.backup) (s.windowAfter (s.port p.val).fence).1
        (s.windowAfter (s.port p.val).fence).2 s.clk.plant)

/-- The table of fence outcomes, and the synthetic fence at the deadline (08 R187, R188). The roles of a potential
time master (08 R189): the backup wait and the 64 windows without a higher rank. -/
def Obligations.FencesAndRoles : Prop :=
  (
  (∀ (s : State) (p : Port) (f : Frame) (rx : RxFrame), (s.port p.val).stat.state = .active →
    (s.port p.val).stat.rx = some rx → isFence (s.port p.val).cfg.fenceCfg s.trk.cfg.winCount f = true →
    (fenceSays f.data).cycle = (s.windowAfter (s.port p.val).fence).1.toNat % 2 ^ 24 →
    (fenceSays f.data).win = (s.windowAfter (s.port p.val).fence).2 →
    s.pastMidpoint (s.port p.val).fence = true →
    ∃ t, exec (.fenceRecognised p false f) s = .next t ∧ (t.port p.val).fence.n = (s.port p.val).fence.n + 1 ∧
      (t.port p.val).fence.cyc = (s.windowAfter (s.port p.val).fence).1 ∧
      (t.port p.val).fence.win = (s.windowAfter (s.port p.val).fence).2 ∧
      (t.port p.val).fence.openSynth = false ∧ (t.port p.val).fence.masterRank = bits f.id 10 0 % 8 ∧
      (t.port p.val).tx.sentInWin = 0 ∧ (t.port p.val).err = (s.port p.val).err) ∧
  (∀ (s : State) (p : Port) (f : Frame) (rx : RxFrame), (s.port p.val).stat.state = .active →
    (s.port p.val).stat.rx = some rx → isFence (s.port p.val).cfg.fenceCfg s.trk.cfg.winCount f = true →
    (fenceSays f.data).cycle = (s.port p.val).fence.cyc.toNat % 2 ^ 24 → (fenceSays f.data).win = (s.port p.val).fence.win →
    (fenceSays f.data).win ≠ (s.windowAfter (s.port p.val).fence).2 →
    ∃ t, exec (.fenceRecognised p false f) s = .next t ∧ (t.port p.val).fence.n = (s.port p.val).fence.n ∧
      (t.port p.val).fence.dup = (if (s.port p.val).fence.openSynth then (s.port p.val).fence.dup
        else min 65535 ((s.port p.val).fence.dup + 1)) ∧
      (t.port p.val).fence.late = (if (s.port p.val).fence.openSynth then min 65535 ((s.port p.val).fence.late + 1)
        else (s.port p.val).fence.late) ∧
      (t.port p.val).fence.mismatch = (s.port p.val).fence.mismatch ∧ (∀ h, bit (t.trk2.flags.get h) 7 = true)) ∧
  (∀ (s : State) (p : Port), (s.port p.val).enabled = true → (s.port p.val).stat.state ≠ .busOff →
    (s.port p.val).stat.state ≠ .recovering → (s.port p.val).rangeFrame = false → s.dev.mode ≠ .sleep →
    ∃ t, exec (.fenceDeadline p) s = .next t ∧ (t.port p.val).fence.n = (s.port p.val).fence.n + 1 ∧
      (t.port p.val).fence.openSynth = true ∧ (t.port p.val).fence.synthMap = true ∧
      (t.port p.val).fence.synth = min 65535 ((s.port p.val).fence.synth + 1) ∧
      (∀ h, bit (t.trk2.flags.get h) 5 = true) ∧ t.irq.pend.getLsbD 133 = true) ∧
  (∀ (s : State) (p : Port), (s.port p.val).enabled = true → (s.port p.val).stat.state ≠ .busOff →
    (s.port p.val).stat.state ≠ .recovering → (s.port p.val).rangeFrame = true →
    ∃ t, exec (.fenceDeadline p) s = .next t ∧ (t.port p.val).fence = { (s.port p.val).fence with moved := true } ∧
      OnlyPort p.val s t ∧ Unchanged [.ports, .irq, .hosts, .out] s t)) ∧
  (
  (∀ (s : State) (p : Port), (s.port p.val).fence.role = .standby → (s.port p.val).fence.n < s.dlv.cur →
    s.dev.mode.sendsFences = true →
    ∃ t, exec (.backupWaitExpiry p) s = .next t ∧
      (t.port p.val).fence = { (s.port p.val).fence with role := .master, due := true, backup := true } ∧
      (t.port p.val).cfg = (s.port p.val).cfg ∧ OnlyPort p.val s t ∧ Unchanged [.ports] s t) ∧
  (∀ (s : State) (p : Port), s.dlv.cur ≤ (s.port p.val).fence.n → exec (.backupWaitExpiry p) s = .next s) ∧
  (∀ (s : State) (p : Port), 64 ≤ (s.port p.val).fence.sinceHigher →
    ∃ t, exec (.higherSeenTimeout p) s = .next t ∧
      (t.port p.val).fence = { (s.port p.val).fence with higherSeen := false } ∧ OnlyPort p.val s t ∧
      Unchanged [.ports] s t) ∧
  (∀ (v : PortS) (r : Nat), fenceMode v.cfg.fenceCfg = 2 → r < fenceRank v.cfg.fenceCfg →
    (v.heardRank r false).fence.role = .standby ∧ (v.heardRank r false).fence.higherSeen = true ∧
      (v.heardRank r false).fence.masterRank = r ∧ (v.heardRank r false).fence.due = false))

/-- A window every port has closed is sealed, its batch goes to the rings that have room, and PROD and CONS move as
the copies complete and the host reads (09 R198, R211-R213, 11 R253). A Direct entry is written where the ring has
room and skipped with a gap where it has not (09 R220-R223). -/
def Obligations.Delivery : Prop :=
  (
  (∀ (s : State) (x : WinDlv) (rest : List WinDlv), s.sweepWins.dlv.wins = x :: rest → x.tClosed = true → x.started = true →
    s.dlv.batches = [] → (s.host .a).dring.en = true → (s.host .b).dring.en = false → (s.host .a).pcie.dma = true →
    (s.host .a).dring.padNow + (s.batchOf x).span ≤ (s.host .a).dring.free →
    ∃ t b, exec .batchSeal s = .next t ∧ t.dlv.wins = rest ∧ t.dlv.batches = [b] ∧ b.n = x.n ∧ b.cycle = x.cycle ∧
      b.win = x.win ∧ b.bytes = (s.batchOf x).bytes ∧ b.waits = ⟨true, false⟩ ∧ b.started = ⟨true, false⟩ ∧
      t.objs = s.objs ∧ t.pool = s.pool ∧ t.dev = s.dev) ∧
  (∀ (s : State) (x : WinDlv) (rest : List WinDlv), s.sweepWins.dlv.wins = x :: rest → x.tClosed = false →
    ∃ t, exec .batchSeal s = .next t ∧ Unchanged [.irq, .hosts, .out] s t) ∧
  (∀ (s : State) (h : HostId) (b : Batch), s.nextBatch h = some b → b.started.get h = true → (s.host h).pcie.dma = true →
    s.mem.bad = [] → b.oldRing.get h = none → s.dev.mode ≠ .sleep →
    ∃ t, exec (.batchCopyDone h) s = .next t ∧
      (t.host h).dring.prod = (s.host h).dring.prod + BitVec.ofNat 32 ((s.host h).dring.padNow + b.span) ∧
      (t.host h).dring.cons = (s.host h).dring.cons ∧ t.irq.pend.getLsbD (129 + h.num) = true ∧ t.objs = s.objs ∧
      t.ports = s.ports) ∧
  (∀ (s : State) (h : HostId) (v : Word), s.WritesNow h → (s.host h).dring.en = true → v.toNat % 64 = 0 →
    (v - (s.host h).dring.cons).toNat ≤ (s.host h).dring.used →
    ∃ t, exec (.dringCons h v) s = .next t ∧ (t.host h).dring = { (s.host h).dring with cons := v } ∧ OnlyHost h s t ∧
      Unchanged [.hosts] s t) ∧
  (∀ (s : State) (h : HostId) (v : Word), s.WritesNow h → (s.host h).dring.en = true → v.toNat % 64 ≠ 0 →
    ∃ t, exec (.dringCons h v) s = .next t ∧ (t.host h).dring = (s.host h).dring ∧
      (t.host h).violations = min 0xFFFFFFFF ((s.host h).violations + 1) ∧ bits (t.host h).violLast 31 28 = 6 ∧
      OnlyHost h s t ∧ Unchanged [.hosts, .rcd] s t)) ∧
  (
  (∀ (s : State) (h : HostId) (e : DEntry), s.copyingTo h = false → (s.dlv.direct.find? fun e => e.waits.get h) = some e →
    s.mem.bad = [] → (s.host h).pcie.dma = true → (s.host h).dring.en = true → e.bytes.length ≤ (s.host h).dring.free →
    ∃ t, exec (.directEntryDeliver h) s = .next t ∧
      (t.host h).dring.prod = (s.host h).dring.prod + BitVec.ofNat 32 e.bytes.length ∧
      (t.host h).gapTotal = (s.host h).gapTotal ∧ (∀ x ∈ t.dlv.direct, x.dseq = e.dseq → x.waits.get h = false) ∧
      (e.waits.get h.peer = false → e.port < 64 → s.dev.mode ≠ .sleep → t.irq.pend.getLsbD (e.port + 65) = true) ∧
      t.objs = s.objs ∧ t.ports = s.ports ∧ t.pool = s.pool) ∧
  (∀ (s : State) (h : HostId) (e : DEntry), s.copyingTo h = false → (s.dlv.direct.find? fun e => e.waits.get h) = some e →
    s.mem.bad = [] → (s.host h).dring.free < e.bytes.length →
    ∃ t, exec (.directEntryDeliver h) s = .next t ∧ (t.host h).dring = (s.host h).dring ∧
      (t.host h).gapTotal = min 0xFFFFFFFF ((s.host h).gapTotal + 1) ∧
      (∀ x ∈ t.dlv.direct, x.dseq = e.dseq → x.waits.get h = false)) ∧
  (∀ (s : State) (h : HostId), s.copyingTo h = true ∨ (s.dlv.direct.find? fun e => e.waits.get h) = none →
    ∃ t, exec (.directEntryDeliver h) s = .next t ∧ Unchanged [.irq, .hosts, .out] s t))

/-- Gateway: a converted frame is queued on its route, a first copy expires, a planned object is released (10 R228,
R234, R235, R243, R246). -/
def Obligations.Gateway : Prop :=
  (∀ (s : State) (p : Port) (x : RxFrame) (xs : List RxFrame) (f out : Frame) (r : Nat),
    (s.port p.val).tx.toRoute = x :: xs → x.frame = some f → x.routes = [r] → copyBefore x.sofWin s.copiesPrev = none →
    s.mem.bad = [] →
    convert (s.route r).entry (s.route r).ext f = .ok out → (s.port (s.route r).dst).enabled = true →
    (s.route r).queue.length < 16 → s.fits (s.route r).dst (cellsOf f.data.length) = true →
    ∃ t e, exec (.routeEnqueue p) s = .next t ∧ (t.port p.val).tx.toRoute = xs ∧
      (t.route r).queue = (s.route r).queue ++ [e] ∧ e.inp = f ∧ e.outp = out ∧ e.win = x.ownWin ∧
      (t.route r).drops = (s.route r).drops ∧ (∀ q, q ≠ r → t.route q = s.route q) ∧ OnlyPort p.val s t ∧
      Unchanged [.ports, .routes, .clk] s t) ∧
  (∀ (s : State) (p : Port) (x : RxFrame) (xs : List RxFrame) (f out : Frame) (r : Nat),
    (s.port p.val).tx.toRoute = x :: xs → x.frame = some f → x.routes = [r] → copyBefore x.sofWin s.copiesPrev = none →
    s.mem.bad = [] →
    convert (s.route r).entry (s.route r).ext f = .ok out → (s.port (s.route r).dst).enabled = false →
    ∃ t, exec (.routeEnqueue p) s = .next t ∧ (t.route r).queue = (s.route r).queue ∧
      (t.route r).drops = min 65535 ((s.route r).drops + 1)) ∧
  (∀ (e : BitVec 64) (x : Word) (f out : Frame), convert e x f = .ok out → out.fmt = rteFmt e ∧
    (rteIdMode e = 0 → out.id = f.id ∧ out.ide = f.ide) ∧
    (rteIdMode e = 1 → out.id = BitVec.ofNat 29 (rteNewId e) ∧ out.ide = rteIde e)) ∧
  (∀ (s : State) (k : Fin 32) (c : FirstCopy) (cs : List FirstCopy), (s.pairs.get {} k.val).first = c :: cs →
    exec (.pairCopyExpiry k) s = .next { s with pairs := s.pairs.put k.val { s.pairs.get {} k.val with first := cs } }) ∧
  (∀ (s : State) (o : BitVec 14), s.dev.mode = .dense → (s.obj o.toNat).req.latched = true →
    (s.obj o.toNat).releaseEn = true →
    ∃ t, exec (.denseRelease o) s = .next t ∧ (t.obj o.toNat).tx.offered = (s.obj o.toNat).tx.media ∧
      (t.obj o.toNat).req = (s.obj o.toNat).req ∧ OnlyObj o.toNat s t ∧ Unchanged [.objs] s t)

/-- A packet that arrives while commands are not taken waits in staging and does nothing else; one whose length no
path takes is answered BAD_LENGTH, and one beyond a host's credits BUSY, neither taking a sequence number (12 R273,
R277, 13 R291). A command that fails a test at taking is refused: its entry and its reply carry the status, and it
has no other effect but the record of a refused request (12 R283, R457, 17 R399). -/
def Obligations.RefusedCommands : Prop :=
  (
  (∀ (i : Instr) (k : Packet) (s : State), i.packet = some k → s.mayTake k = false ∨ s.waitsBefore k = true →
    ∃ t, exec i s = .next t ∧ t.cmds = { s.cmds with waiting := s.cmds.waiting ++ [{ k with behind := s.chainAhead k }] } ∧
      Unchanged [.cmds, .irq, .hosts, .out] s t) ∧
  (∀ (i : Instr) (k : Packet) (s : State), i.packet = some k → s.mayTake k = true → s.waitsBefore k = false → k.bad = 0x0101 →
    ∃ t, exec i s = .next t ∧ t.cmds.streams = s.cmds.streams ∧ t.cmds.waiting = s.cmds.waiting ∧
      Answered s t { stream := k.stream, path := k.path, opcode := k.opcode, status := 0x0101, seq := k.seq, jidx := 0xFFFF,
                     result := [], credit := false } ∧
      Unchanged [.cmds, .mgt, .link, .irq, .hosts, .out] s t) ∧
  (∀ (i : Instr) (k : Packet) (s : State), i.packet = some k → s.mayTake k = true → s.waitsBefore k = false → k.bad = 0 →
    tooLongResult k = false → (k.stream = .hostA ∨ k.stream = .hostB) → 32 ≤ (s.stream k.stream).credits →
    ∃ t, exec i s = .next t ∧ t.cmds = s.cmds ∧
      Answered s t { stream := k.stream, path := k.path, opcode := k.opcode, status := 0x0201, seq := k.seq, jidx := 0xFFFF,
                     result := [], credit := false } ∧
      Unchanged [.irq, .hosts, .out] s t)) ∧
  (
  ∀ (i : Instr) (k : Packet) (s : State), i.packet = some k → s.Reaches k → s.InTurn k → s.classNow k.opcode ≠ .query →
    (s.takeTest k (s.classNow k.opcode)).status ≠ 0 →
    ∃ t e, exec i s = .next t ∧ (t.stream k.stream).nextSeq = some (k.seq + 1) ∧ t.heldEntry s.nextJseq = some e ∧
      e.status = (s.takeTest k (s.classNow k.opcode)).status ∧
      Answered s t { stream := k.stream, path := k.path, opcode := k.opcode,
                     status := (s.takeTest k (s.classNow k.opcode)).status, seq := k.seq,
                     jidx := s.nextJseq.toNat % 16384,
                     result := (s.takeTest k (s.classNow k.opcode)).result, credit := true } ∧
      t.cmds.sched = s.cmds.sched ∧ t.cmds.actions = s.cmds.actions ∧
      Unchanged [.cmds, .jnl, .keep, .rcd, .irq, .hosts, .out, .mgt, .link, .clk] s t)

/-- Queries and dry runs are answered at once, SEQ echoed, and leave the configuration, the journal and the sequence
numbers as they are; a query that passes its tests has the result of its entry; one that meets data that no
correction mends is answered HW_FAULT and leaves that data as it is (04 R102, 12 R275, 13). The lengths of the
queries' results (13): RESULT_LEN is what the entry lays out. -/
def Obligations.Queries : Prop :=
  (
  (∀ (i : Instr) (k : Packet) (s : State), i.packet = some k → s.Reaches k →
    (s.classNow k.opcode = .query ∨ k.dry = true) → (s.look k (s.classNow k.opcode)).status ≠ stHwFault →
    ∃ t, exec i s = .next t ∧ t.cmds.streams = s.cmds.streams ∧ t.cmds.sched = s.cmds.sched ∧
      t.cmds.actions = s.cmds.actions ∧ t.cmds.xfers = s.cmds.xfers ∧
      Answered s t { stream := k.stream, path := k.path, opcode := k.opcode,
                     status := (s.look k (s.classNow k.opcode)).status, seq := k.seq, jidx := 0xFFFF,
                     result := (s.look k (s.classNow k.opcode)).result, credit := false } ∧
      { t.keep with jobsF := s.keep.jobsF } = s.keep ∧ Unchanged [.cmds, .keep, .mgt, .link, .irq, .hosts, .out] s t) ∧
  (∀ (k : Packet) (p : Params) (s : State), k.params = some p → s.classNow k.opcode = .query →
    (s.takeTest k .query).status = 0 → (s.query k p).isSome = true → s.query k p = some (s.look k .query)) ∧
  (∀ (i : Instr) (k : Packet) (s : State), i.packet = some k → k.params ≠ none → opClass k.opcode = some .query →
    ∀ p, k.params = some p → (s.query k p).isSome = true) ∧
  (∀ (i : Instr) (k : Packet) (s : State), i.packet = some k → s.Reaches k →
    (s.classNow k.opcode = .query ∨ k.dry = true) → (s.look k (s.classNow k.opcode)).status = stHwFault →
    ∃ t, exec i s = .next t ∧ t.cmds.streams = s.cmds.streams ∧ t.cmds.sched = s.cmds.sched ∧
      t.cmds.actions = s.cmds.actions ∧ t.mem.bad = s.mem.bad ∧ t.pool = s.pool ∧ (∀ p, (t.port p).cfg = (s.port p).cfg) ∧ t.jnl = s.jnl ∧
      t.dev = s.dev ∧ t.flt = s.flt ∧ t.keep = s.keep ∧ (∀ o, (t.obj o).en = (s.obj o).en) ∧
      Answered s t { stream := k.stream, path := k.path, opcode := k.opcode, status := stHwFault, seq := k.seq,
                     jidx := 0xFFFF, result := (s.look k (s.classNow k.opcode)).result, credit := false })) ∧
  (
  (∀ (s : State) (st : Stream), (s.seqQuery st).result.length = 16 ∧ (s.devInfo st).result.length = 48) ∧
  (∀ (s : State) (st : Stream) (p : Nat), (s.portStatus st p).result.length = 192) ∧
  (∀ (s : State) (o off n : Nat), (s.objRead o off n).status = 0 → (s.objRead o off n).result.length = 64 + n) ∧
  (∀ s : State, s.objPool.result.length = 12 ∧ s.timeQuery.result.length = 24 ∧ s.profileList.result.length = 128 ∧
    s.pwrStatus.result.length = 64 ∧ s.fldStatus.result.length = 8 ∧ s.fwStatus.result.length = 48 ∧
    s.diagMem.result.length = 40 ∧ s.diagGate.result.length = 8 ∧ s.twdStatus.result.length = 8) ∧
  (∀ (s : State) (n : Nat), ((s.rteStatus n).status = 0 → (s.rteStatus n).result.length = 40) ∧
    ((s.pairStatus n).status = 0 → (s.pairStatus n).result.length = 24) ∧
    ((s.diagPort n).status = 0 → (s.diagPort n).result.length = 24)) ∧
  (∀ (s : State) (table first count : Nat),
    ((s.fltRead 0 table first count).status = 0 →
      (s.fltRead 0 table first count).result.length = (2 * count + 3) / 4 * 4) ∧
    ((s.fltRead 1 table first count).status = 0 → (s.fltRead 1 table first count).result.length = 16 * count)) ∧
  (∀ (s : State) (pa : Path) (p : Nat), (s.denseRead pa p).status = 0 →
    (s.denseRead pa p).result.length = 8 + 8 * (s.denseOf p).length) ∧
  (∀ (s : State) (i n : Nat), (s.pregRead i n).result.length = 4 * n) ∧
  (∀ (s : State) (j : Word) (n : Nat), (s.jnlRead j n).result.length ≤ 32 * n ∧
    (s.jnlRead j n).result.length % 32 = 0 ∧ (s.recRead j n).result.length ≤ 32 * n ∧
    (s.recRead j n).result.length % 32 = 0) ∧
  (∀ (s : State) (o n : Nat), (s.canvasRead o n).status = 0 → (s.canvasRead o n).result.length = n) ∧
  (∀ s : State, s.canvas.held = 0 → s.canvasInfo.result.length = 24))

/-- A command of a SEQ-consuming class: taken in turn, answered from the journal when it comes again, refused
SEQ_OUT_OF_ORDER otherwise, executed only when it is taken (12 R281, R282). -/
def Obligations.SequenceCheck : Prop :=
  (∀ (i : Instr) (k : Packet) (s : State) (c : Cls), i.packet = some k → s.Reaches k → s.classNow k.opcode = c → c ≠ .query →
    k.dry = false → s.keep.down = false → (s.stream k.stream).nextSeq = some k.seq →
    ∃ t e, exec i s = .next t ∧ (t.stream k.stream).nextSeq = some (k.seq + 1) ∧ t.jnl.newest = some s.nextJseq ∧
      t.heldEntry s.nextJseq = some e ∧ e.cmdSeq = k.seq ∧ e.stream = k.stream ∧ e.opcode = k.opcode ∧
      e.target = k.target ∧ e.pcrc = crc32c k.bytes) ∧
  (∀ (i : Instr) (k : Packet) (s : State) (n : Word) (e : JEntry), i.packet = some k → s.Reaches k →
    s.classNow k.opcode ≠ .query → k.dry = false → s.keep.down = false → (s.stream k.stream).nextSeq = some n →
    1 ≤ (n - k.seq).toNat → (n - k.seq).toNat < 2 ^ 31 → s.entryOf k.stream k.seq = some e → e.opcode = k.opcode →
    e.target = k.target → e.pcrc = crc32c k.bytes → (∀ x, s.openCommand k.stream k.seq = some x → x.noReply = false) →
    ∃ t, exec i s = .next t ∧ t.cmds.streams = s.cmds.streams ∧
      Answered s t { stream := k.stream, path := k.path, opcode := k.opcode, status := 0x0001, seq := k.seq,
                     jidx := e.jseq.toNat % 16384,
                     result := leBytes 2 e.status ++ [if s.openCommand k.stream k.seq = none then 1 else 0, 0] ++
                       leBytes 4 e.jseq.toNat ++ leBytes 4 e.effCycle.toNat,
                     credit := false } ∧
      Unchanged [.cmds, .mgt, .link, .irq, .hosts, .out] s t) ∧
  (∀ (i : Instr) (k : Packet) (s : State) (n : Word), i.packet = some k → s.Reaches k →
    s.classNow k.opcode ≠ .query → k.dry = false → s.keep.down = false → (s.stream k.stream).nextSeq = some n →
    ((1 ≤ (n - k.seq).toNat ∧ (n - k.seq).toNat < 2 ^ 31 ∧ (s.entryOf k.stream k.seq = none ∨
        ∃ e, s.entryOf k.stream k.seq = some e ∧
          (e.opcode ≠ k.opcode ∨ e.target ≠ k.target ∨ e.pcrc ≠ crc32c k.bytes))) ∨
      2 ^ 31 ≤ (n - k.seq).toNat) →
    ∃ t, exec i s = .next t ∧ t.cmds.streams = s.cmds.streams ∧
      Answered s t { stream := k.stream, path := k.path, opcode := k.opcode, status := 0x0205, seq := k.seq, jidx := 0xFFFF,
                     result := leBytes 4 n.toNat, credit := false } ∧
      Unchanged [.cmds, .mgt, .link, .irq, .hosts, .out] s t)

/-- A configuration command that passes the tests at taking is scheduled for its effective window and journalled with
STATUS OK; it holds a credit, and nothing of the configuration changes before the window opens (12 R273, R275, R283,
17 R397). It is the completion statement of every command with an effective window: `modeSet`, `cfgPolicySet`,
`leadSet`, `portConfig`, `portSilk`, `portErrcfg`, `portFence`, `portDelivery`, `portGuard`, `portRecover` and
`portRelease` (in GRID and DENSE), `objConfig`, `objConfigN`, `fltPort`, `fltDtable`, `fltElem`, `rteSet`,
`rteQuota`, `pairSet`, `cycSource`, `cycWindows`, `cycCountSet`, `timeSet`, `denseSet`, `ringDelivery`,
`ringCommand`, `ringReply`, `ringWriteback`, `profileLoad`, `doSet`, `fldConfig`, `fwActivate`, `twdMap`. -/
def Obligations.ConfigurationScheduled : Prop :=
  ∀ (i : Instr) (k : Packet) (p : Params) (w : EW) (s : State), i.packet = some k → s.Takes k p →
    s.classNow k.opcode = .config → Params.ew p = some w →
    ∃ t x e, exec i s = .next t ∧ t.cmds.sched = s.cmds.sched ++ [x] ∧ x.pkt = k ∧ x.jseq = s.nextJseq ∧
      x.cycle = w.cycle ∧ x.win = w.win.toNat ∧ x.asap = w.asap ∧ x.compiled = false ∧ x.phase = .waiting ∧
      (t.stream k.stream).nextSeq = some (k.seq + 1) ∧ (t.stream k.stream).credits = (s.stream k.stream).credits + 1 ∧
      t.heldEntry s.nextJseq = some e ∧ e.status = 0 ∧ e.effCycle = w.cycle ∧ e.effWin = w.win.toNat ∧
      e.flags = 1 + 4 * flag w.asap ∧ t.cmds.actions = s.cmds.actions ∧ t.cmds.mods = s.cmds.mods ∧
      (∀ h, (t.host h).replies = (s.host h).replies) ∧
      Unchanged [.cmds, .jnl, .keep, .rcd, .irq, .hosts, .out] s t

/-- Actions on settings: the heartbeat period, interrupt priorities and moderation, the ring's rearming, persistent
registers and power limits (13, 11 R261, R264, 14 R313, 17 R384, 18 R426). -/
def Obligations.SettingActions : Prop :=
  (∀ (hd : Head) (n : BitVec 16) (k : Packet) (s : State), k = Head.packet hd (.hbPeriod n) → s.Takes k (.hbPeriod n) →
    ∃ t h, exec (.hbPeriod hd n) s = .next t ∧ h = (if hd.target = 0 then HostId.a else HostId.b) ∧
      Executed s t k 0 [] 0 ∧ (t.host h).period = n.toNat ∧ (t.host h).lastBeat = s.us ∧
      (t.host h).state = (s.host h).state ∧ (t.host h.peer).period = (s.host h.peer).period ∧
      Unchanged actionPieces s t) ∧
  (∀ (hd : Head) (f : BitVec 16) (ps : List Byte) (k : Packet) (s : State), k = Head.packet hd (.intPrioSet f ps) →
    s.Takes k (.intPrioSet f ps) →
    ∃ t, exec (.intPrioSet hd f ps) s = .next t ∧ Executed s t k 0 [] 0 ∧
      (∀ (j : Nat) (v : Byte), ps[j]? = some v → t.irq.prioOf (f.toNat + j) = v.toNat) ∧
      (∀ n, n < f.toNat ∨ f.toNat + ps.length ≤ n → t.irq.prioOf n = s.irq.prioOf n) ∧ Unchanged actionPieces s t) ∧
  (∀ (hd : Head) (m : BitVec 16) (k : Packet) (s : State), k = Head.packet hd (.intModSet m) → s.Takes k (.intModSet m) →
    ∃ t, exec (.intModSet hd m) s = .next t ∧ Executed s t k 0 [] 0 ∧ (t.target hd.target.toNat).moderation = m.toNat ∧
      (∀ n, n ≠ hd.target.toNat → (t.target n).moderation = (s.target n).moderation) ∧ Unchanged actionPieces s t) ∧
  (∀ (hd : Head) (h : HostId) (k : Packet) (s : State), k = Head.packet hd .ringRearm → hd.stream = hostStream h →
    s.Takes k .ringRearm →
    ∃ t, exec (.ringRearm hd) s = .next t ∧ Unchanged actionPieces s t ∧
      if (s.host h).cring.stopped = true then
        Executed s t k 0 (leBytes 4 (s.host h).cring.head.toNat) 0 ∧
          (t.host h).cring = { (s.host h).cring with stopped := false, stopCause := 0 }
      else Executed s t k 0x0200 [] 0 ∧ (t.host h).cring = (s.host h).cring) ∧
  (∀ (hd : Head) (i : BitVec 16) (vs : List Word) (k : Packet) (s : State), k = Head.packet hd (.pregWrite i vs) →
    s.Takes k (.pregWrite i vs) → s.keep.jobsP = [] →
    ∃ t, exec (.pregWrite hd i vs) s = .next t ∧ Executed s t k 0 [] 0 ∧
      (∀ (j : Nat) (v : Word), vs[j]? = some v → t.preg (i.toNat + j) = v &&& pregFields (i.toNat + j)) ∧
      (∀ n, n < i.toNat ∨ i.toNat + vs.length ≤ n → t.preg n = s.preg n) ∧ Unchanged actionPieces s t) ∧
  (∀ (hd : Head) (i : BitVec 16) (q r : Byte) (k : Packet) (s : State), k = Head.packet hd (.pwrLimits i q r) →
    s.Takes k (.pwrLimits i q r) → s.keep.jobsP = [] → s.limitsOk i.toNat q.toNat = true →
    ∃ t, exec (.pwrLimits hd i q r) s = .next t ∧ Executed s t k 0 [] 0 ∧
      t.preg 0x100 = limitsWord i.toNat q.toNat r.toNat ∧
      (s.link.up = true → t.pwr.limits = limitsWord i.toNat q.toNat r.toNat ∧ t.pwr.heldLimits = s.pwr.heldLimits) ∧
      (s.link.up = false → t.pwr.heldLimits = some (limitsWord i.toNat q.toNat r.toNat) ∧ t.pwr.limits = s.pwr.limits) ∧
      Unchanged (.pwr :: actionPieces) s t) ∧
  (∀ (hd : Head) (i : BitVec 16) (q r : Byte) (k : Packet) (s : State), k = Head.packet hd (.pwrLimits i q r) →
    s.Takes k (.pwrLimits i q r) → s.limitsOk i.toNat q.toNat = false →
    ∃ t, exec (.pwrLimits hd i q r) s = .next t ∧ Executed s t k 0x0300 [] 0 ∧ t.preg 0x100 = s.preg 0x100 ∧
      Unchanged (.clk :: actionPieces) s t)

/-- DEV_RESET and SLEEP are done once their reply has been written; REC_NONCE gives a nonce that REC_CLEAR uses up
(13 R299, 17 R395). -/
def Obligations.DeviceAndRecorderActions : Prop :=
  (∀ (hd : Head) (key : Word) (k : Packet) (s : State), k = Head.packet hd (.devReset key) → s.Takes k (.devReset key) →
    ∃ t, exec (.devReset hd key) s = .next t ∧ Executed s t k 0 [] 1 ∧
      (hd.stream = .mgmt → s.link.up = true → s.link.askOut = [] → t.cmds.resetDue = true) ∧
      (hd.stream = .hostA ∨ hd.stream = .hostB → t.cmds.resetDue = s.cmds.resetDue) ∧ Unchanged actionPieces s t) ∧
  (∀ (hd : Head) (w : Byte) (k : Packet) (s : State), k = Head.packet hd (.sleep w) → s.Takes k (.sleep w) →
    ∃ t, exec (.sleep hd w) s = .next t ∧ Executed s t k 0 [] (16 + w.toNat) ∧
      (hd.stream = .mgmt → s.link.up = true → s.link.askOut = [] → t.cmds.sleepDue = some w.toNat) ∧
      (hd.stream = .hostA ∨ hd.stream = .hostB → t.cmds.sleepDue = s.cmds.sleepDue) ∧ Unchanged actionPieces s t) ∧
  (∀ (hd : Head) (k : Packet) (s : State), k = Head.packet hd .recNonce → s.Takes k .recNonce →
    ∃ t, exec (.recNonce hd) s = .next t ∧
      Executed s t k 0 (leBytes 8 s.serial ++ p32 s.newestRseq ++ zeros 4 ++ p64 (Config.nonce s.clk.draws)) 0 ∧
      (t.stream k.stream).nonce = some (Config.nonce s.clk.draws) ∧
      t.clk = { s.clk with draws := s.clk.draws + 1 } ∧ Unchanged (.clk :: actionPieces) s t) ∧
  (∀ (hd : Head) (r : Word) (nonce : BitVec 64) (sg : List Byte) (k : Packet) (s : State),
    k = Head.packet hd (.recClear r nonce sg) → s.Takes k (.recClear r nonce sg) → (s.stream k.stream).nonce = some nonce →
    s.rcd.newest = some r → s.keep.jobsP = [] →
    ∃ t, exec (.recClear hd r nonce sg) s = .next t ∧ (t.stream k.stream).nonce = none ∧
      Unchanged (.clk :: actionPieces) s t ∧
      if signatureValid s.clearKey (s.clearMessage r nonce) sg = true then
        Executed s t k 0 (leBytes 4 (s.clearedCount r) ++ p32 (r + 1)) 0 ∧ t.preg 0x0F1 = r ∧
          t.preg 0x0F2 = s.preg 0x0F2 + 1 ∧ t.rcd.newest = some (r + 1) ∧ t.clk = s.clk
      else Executed s t k 0x0301 [] 0 ∧ t.preg 0x0F1 = s.preg 0x0F1 ∧ t.preg 0x0F2 = s.preg 0x0F2) ∧
  (∀ (hd : Head) (r : Word) (nonce : BitVec 64) (sg : List Byte) (k : Packet) (s : State),
    k = Head.packet hd (.recClear r nonce sg) → s.Takes k (.recClear r nonce sg) →
    ((s.stream k.stream).nonce ≠ some nonce ∨ s.rcd.newest ≠ some r) →
    ∃ t, exec (.recClear hd r nonce sg) s = .next t ∧ Executed s t k 0x0300 [] 0 ∧ t.preg 0x0F1 = s.preg 0x0F1 ∧
      (t.stream k.stream).nonce = none ∧ Unchanged (.clk :: actionPieces) s t)

/-- Actions on ports, the field supply and the canvas: recovery and release outside GRID and DENSE, a remap at once
or at bus idle, the supply's restoration, the canvas's release (13 R300, R301, 16 R369, R374, 19 R437). -/
def Obligations.PortAndCanvasActions : Prop :=
  (∀ (hd : Head) (ew : EW) (k : Packet) (s : State), k = Head.packet hd (.portRecover ew) → s.Takes k (.portRecover ew) →
    s.gated = false →
    ∃ t, exec (.portRecover hd ew) s = .next t ∧ OnlyPort k.target s t ∧ Unchanged (.ports :: actionPieces) s t ∧
      if (s.port k.target).stat.state = .busOff then
        Executed s t k 0 [] 0 ∧ (t.port k.target).stat.state = .recovering ∧ (t.port k.target).err.recovSeq = 0 ∧
          (t.port k.target).err.tec = (s.port k.target).err.tec
      else Executed s t k 0x0200 [] 0 ∧ t.ports = s.ports) ∧
  (∀ (hd : Head) (ew : EW) (k : Packet) (s : State), k = Head.packet hd (.portRelease ew) → s.Takes k (.portRelease ew) →
    s.gated = false →
    ∃ t, exec (.portRelease hd ew) s = .next t ∧ OnlyPort k.target s t ∧ Unchanged (.ports :: actionPieces) s t ∧
      if (s.port k.target).err.quarantined = true then
        Executed s t k 0 [] 0 ∧ (t.port k.target).err.quarantined = false ∧ (t.port k.target).err.entries = [] ∧
          (t.port k.target).stat.causes = (s.port k.target).stat.causes.filter (· != 2) ∧
          ((s.port k.target).stat.state = .gauze → (t.port k.target).stat.causes = [] →
            (t.port k.target).stat.state = .integrating)
      else Executed s t k 0x0200 [] 0 ∧ t.ports = s.ports) ∧
  (∀ (hd : Head) (op : Byte) (e : Nat) (k : Packet) (s : State), k = Head.packet hd (.portRemap op) →
    s.Takes k (.portRemap op) → e = remapEngine k.target op.toNat → s.remapStatus k.target op.toNat = 0 →
    ((s.port k.target).engine ≠ e ∨ (s.port k.target).stat.remap ≠ none) → (s.port k.target).bindsAtOnce = false →
    ∃ t x, exec (.portRemap hd op) s = .next t ∧ (t.port k.target).stat.remap = some e ∧
      (t.port k.target).engine = (s.port k.target).engine ∧ t.cmds.actions = s.cmds.actions ++ [x] ∧ x.pkt = k ∧
      x.jseq = s.nextJseq ∧ (∀ h, (t.host h).replies = (s.host h).replies) ∧ OnlyPort k.target s t ∧
      Unchanged (.ports :: actionPieces) s t) ∧
  (∀ (hd : Head) (op : Byte) (e : Nat) (k : Packet) (s : State), k = Head.packet hd (.portRemap op) →
    s.Takes k (.portRemap op) → e = remapEngine k.target op.toNat → s.remapStatus k.target op.toNat = 0 →
    ((s.port k.target).engine ≠ e ∨ (s.port k.target).stat.remap ≠ none) → (s.port k.target).bindsAtOnce = true →
    ∃ t, exec (.portRemap hd op) s = .next t ∧ Executed s t k 0 (leBytes 1 e ++ zeros 3) 0 ∧
      (t.port k.target).engine = e ∧ (t.port k.target).stat.remap = none ∧ 5 ∉ (t.port k.target).stat.causes ∧
      OnlyPort k.target s t ∧ Unchanged (.ports :: actionPieces) s t) ∧
  (∀ (hd : Head) (k : Packet) (s : State), k = Head.packet hd .fldRestore → s.Takes k .fldRestore →
    ∃ t, exec (.fldRestore hd) s = .next t ∧ Unchanged (.fld :: actionPieces) s t ∧
      if s.fld.state = .uv ∧ 1920 ≤ s.fld.volts then
        Executed s t k 0 [] 0 ∧ t.fld = { s.fld with state := .normal, low := false }
      else Executed s t k 0x0200 [] 0 ∧ t.fld = s.fld) ∧
  (∀ (hd : Head) (k : Packet) (s : State), k = Head.packet hd .canvasRelease → s.Takes k .canvasRelease →
    ∃ t, exec (.canvasRelease hd) s = .next t ∧ Unchanged (.canvas :: actionPieces) s t ∧
      if s.canvas.held ≠ 0 then Executed s t k 0 [] 0 ∧ t.canvas = {}
      else Executed s t k 0x0200 [] 0 ∧ t.canvas = s.canvas)

/-- Images in chunks: a first chunk opens a transfer, the one that reaches TOTAL closes it, and verification marks
the standby slot (13 R308, 16 R364). -/
def Obligations.ImageActions : Prop :=
  (∀ (hd : Head) (c : Chunk) (k : Packet) (s : State), k = Head.packet hd (.fwStage c) → s.Takes k (.fwStage c) →
    c.offset = 0 → c.data.length < c.total.toNat → c.total.toNat ≤ partMax c.dest.toNat →
    ∃ t, exec (.fwStage hd c) s = .next t ∧ Executed s t k 0 [] 0 ∧
      t.xfer (8 + c.dest.toNat) =
        some { dest := 8 + c.dest.toNat, stream := hd.stream, total := c.total.toNat, data := c.data } ∧
      (t.part c.dest.toNat).standby = 0 ∧
      (t.part c.dest.toNat).slots = (s.part c.dest.toNat).slots.set (1 - s.fwSlot c.dest.toNat) none ∧
      (∀ q, q ≠ c.dest.toNat → t.part q = s.part q) ∧ Unchanged (.fw :: actionPieces) s t) ∧
  (∀ (hd : Head) (c : Chunk) (x : Xfer) (k : Packet) (s : State), k = Head.packet hd (.fwStage c) →
    s.Takes k (.fwStage c) → c.offset ≠ 0 → s.xfer (8 + c.dest.toNat) = some x → x.stream = hd.stream →
    c.offset.toNat = x.data.length → c.total.toNat = x.total → x.data.length + c.data.length = x.total →
    x.total ≤ partMax c.dest.toNat →
    ∃ t, exec (.fwStage hd c) s = .next t ∧
      Executed s t k 0 (imageResult (fwVersion (x.data ++ c.data)) (x.data ++ c.data)) 0 ∧
      t.xfer (8 + c.dest.toNat) = none ∧ (t.part c.dest.toNat).standby = 1 ∧
      (t.part c.dest.toNat).slots =
        (s.part c.dest.toNat).slots.set (1 - s.fwSlot c.dest.toNat) (some (x.data ++ c.data)) ∧
      (∀ q, q ≠ c.dest.toNat → t.part q = s.part q) ∧ Unchanged (.fw :: actionPieces) s t) ∧
  (∀ (hd : Head) (c : Chunk) (x : Xfer) (k : Packet) (s : State), k = Head.packet hd (.fwStage c) →
    s.Takes k (.fwStage c) → c.offset ≠ 0 → s.xfer (8 + c.dest.toNat) = some x → x.stream ≠ hd.stream →
    c.total.toNat ≤ partMax c.dest.toNat →
    ∃ t, exec (.fwStage hd c) s = .next t ∧ Executed s t k 0x0202 [] 0 ∧ t.cmds.xfers = s.cmds.xfers ∧
      Unchanged actionPieces s t) ∧
  (∀ (hd : Head) (p : Byte) (b : List Byte) (k : Packet) (s : State), k = Head.packet hd (.fwVerify p) →
    s.Takes k (.fwVerify p) → (s.part p.toNat).image (1 - s.fwSlot p.toNat) = some b → (s.part p.toNat).standby ≠ 0 →
    ∃ t, exec (.fwVerify hd p) s = .next t ∧
      (t.part p.toNat).standby = (if s.fwStatusOf p.toNat b = 0 then 2 else 3) ∧
      (t.part p.toNat).copy = (if p.toNat = 2 then none else some b) ∧
      (t.part p.toNat).slots = (s.part p.toNat).slots ∧ (∀ q, q ≠ p.toNat → t.part q = s.part q) ∧
      (if s.fwStatusOf p.toNat b = 0 then Executed s t k 0 (leBytes 4 (fwVersion b)) 0
       else Executed s t k (s.fwStatusOf p.toNat b) [] 0) ∧ Unchanged (.fw :: actionPieces) s t) ∧
  (∀ (hd : Head) (c : Chunk) (k : Packet) (s : State), k = Head.packet hd (.profileStore c) → s.Takes k (.profileStore c) →
    s.dev.profile ≠ some c.dest.toNat → c.offset = 0 → c.data.length = c.total.toNat →
    ∃ t, exec (.profileStore hd c) s = .next t ∧ t.xfer c.dest.toNat = none ∧ t.fw.parts = s.fw.parts ∧
      Unchanged (.fw :: actionPieces) s t ∧
      if s.profileStatus c.data = 0 then
        Executed s t k 0 (imageResult (profileVersion c.data) c.data) 0 ∧ t.fw.profiles.find c.dest.toNat = some c.data
      else Executed s t k (s.profileStatus c.data) [] 0 ∧ t.fw.profiles = s.fw.profiles) ∧
  (∀ (hd : Head) (c : Chunk) (k : Packet) (s : State), k = Head.packet hd (.profileStore c) → s.Takes k (.profileStore c) →
    s.dev.profile ≠ some c.dest.toNat → c.offset = 0 → c.data.length < c.total.toNat →
    ∃ t, exec (.profileStore hd c) s = .next t ∧ Executed s t k 0 [] 0 ∧
      t.xfer c.dest.toNat =
        some { dest := c.dest.toNat, stream := hd.stream, total := c.total.toNat, data := c.data } ∧
      t.fw = s.fw ∧ Unchanged actionPieces s t)

/-- At the boundary of their window the accepted commands take effect: the settings of the draft `d` replace those in
force (filters, Dense data, ports, routes, pairs, field settings, the Tweed map and slots, object headers and releases,
and at window 0 the cycle settings), the settings before them are kept for frames that need them, and MODE_SET,
CFG_POLICY_SET, LEAD_SET, the ring commands, PROFILE_LOAD, FW_ACTIVATE, DO_SET, CYC_COUNT_SET and TIME_SET act (04 R86,
05 R118, 08 R177, R178, R192, 12 R278, R285, 13 R298, R307, 15 R333, R343, R349, 16 R365). A setting of a port that waits
for bus idle, or for window 0, is the one that waits. -/
def Obligations.CommandsTakeEffect : Prop :=
  (∀ (s : State) (xs : List Sched) (d : State), s.boundaryDue = true → s.dev.mode ≠ .sleep → s.cmds.committed = true →
    s.acceptedAt s.upcoming = xs → xs ≠ [] → d = (s.draft.addAll (numbered (xs.map fun x => x.pkt))).1.st →
    ∃ t, exec .windowBoundary s = .next t ∧ t.flt = d.flt ∧ t.dense = d.dense ∧
      (∃ c rest, t.copiesPrev = (s.dlv.cur + 1, c) :: rest ∧ c.flt = s.flt ∧ c.mode = s.dev.mode ∧ c.twd = s.twd) ∧
      (∀ p, (t.port p).cfg = { (d.port p).cfg with pc := (t.port p).cfg.pc, silkCtrl := (t.port p).cfg.silkCtrl,
                                                   fenceCfg := (t.port p).cfg.fenceCfg } ∧
        (t.port p).stat.pend.getD (t.port p).cfg.pc =
          (if t.dev.mode = .service then (d.port p).cfg.pc
           else { (d.port p).cfg.pc with ctrl := (d.port p).cfg.pc.ctrl &&& 0xFFFFFFCF#32 }) ∧
        (t.port p).stat.pendSilk.getD (t.port p).cfg.silkCtrl = (d.port p).cfg.silkCtrl ∧
        t.trk2.dueFence.get (t.port p).cfg.fenceCfg p = (d.port p).cfg.fenceCfg) ∧
      (∀ r, (t.route r).entry = (d.route r).entry ∧ (t.route r).ext = (d.route r).ext) ∧
      (∀ n, (t.pairs.get {} n).entry = (d.pairs.get {} n).entry) ∧
      t.fld.autoRestore = d.fld.autoRestore ∧ (∀ i, (t.fld.di.get {} i).filter = (d.fld.di.get {} i).filter) ∧
      t.twd.map = d.twd.map ∧
      (d.twd.map = s.twd.map → ∀ i, (t.twd.tx i).inForce = (d.twd.tx i).inForce ∧ (t.twd.tx i).mask = (d.twd.tx i).mask) ∧
      (∀ o, (s.obj o).req.begun = false → s.mem.waits o = false → (t.obj o).sched = (d.obj o).sched) ∧
      (s.upcoming.2 = 0 → ∀ y, s.trk2.dueCyc = some y →
        t.trk.cfg = y ∧ t.trk2.dueCyc = none ∧ t.trk2.cfgBefore = s.trk.cfg) ∧
      t.cmds.committed = false ∧ t.trk.win = s.upcoming.2) ∧
  (∀ (s : State) (xs : List Sched) (d : State) (o : Nat) (r : ObjRecord) (base : Nat), s.boundaryDue = true →
    s.dev.mode ≠ .sleep → s.cmds.committed = true → s.acceptedAt s.upcoming = xs → xs ≠ [] →
    d = (s.draft.addAll (numbered (xs.map fun x => x.pkt))).1.st → d.twd.map = s.twd.map → s.cmds.mods = [(o, r, base)] →
    (s.obj o).req.begun = false → s.mem.waits o = false →
    ∃ t, exec .windowBoundary s = .next t ∧ (t.obj o).cfg = r.cfg &&& 0xFFFE0000#32 ∧ (t.obj o).id = r.id &&& 0x1FFFFFFF#32 ∧
      (t.obj o).xl = r.xl &&& 0xFFFF0001#32 ∧ (t.obj o).af = r.af ∧ (t.obj o).txcfg = r.txcfg &&& 0xFFF00000#32 ∧
      (t.obj o).granBase = (if bit r.cfg 31 = true then base else 0) ∧
      (t.obj o).granCount = (if bit r.cfg 31 = true then r.granCount.toNat else 0)) ∧
  (∀ (s : State) (o : Nat) (r : ObjRecord) (base : Nat), (s.obj o).req.begun = true →
    (s.switchHeader o r base).obj o = s.obj o ∧ (o, r, base) ∈ (s.switchHeader o r base).mem.staged) ∧
  (∀ (s : State) (x : Sched) (w : EW) (n : Byte), s.boundaryDue = true → s.dev.mode ≠ .sleep → s.cmds.committed = true →
    s.acceptedAt s.upcoming = [x] → x.pkt.params = some (.profileLoad w n) →
    ∃ t, exec .windowBoundary s = .next t ∧ t.dev.profile = some n.toNat ∧ t.dev.profilePins = false ∧
      t.irq.pend.getLsbD 173 = true) ∧
  (∀ (s : State) (x : Sched) (w : EW) (p : Byte), s.boundaryDue = true → s.dev.mode ≠ .sleep → s.cmds.committed = true →
    s.acceptedAt s.upcoming = [x] → x.pkt.params = some (.fwActivate w p) →
    ∃ t, exec .windowBoundary s = .next t ∧ (t.part p.toNat).cutover = some (s.part p.toNat).running ∧
      t.irq.pend.getLsbD 166 = true ∧ x ∈ t.cmds.actions ∧ (p = 1 → t.run.svc = false)) ∧
  (∀ (s : State) (x : Sched) (w : EW) (c : Byte) (m : Mode), s.boundaryDue = true → s.dev.mode.isRun = true →
    s.cmds.committed = true → s.acceptedAt s.upcoming = [x] → x.pkt.params = some (.modeSet w c) →
    Mode.ofCode c.toNat = some m → (m = .grid ∨ m = .direct ∨ m = .dense) → m ≠ s.dev.mode →
    ∃ t, exec .windowBoundary s = .next t ∧ t.dev.mode = m ∧ t.dev.prevMode = s.dev.mode ∧
      t.irq.pend.getLsbD 171 = true) ∧
  (∀ (s : State) (x : Sched) (w : EW) (c : Byte), s.boundaryDue = true → s.dev.mode.isRun = true →
    s.cmds.committed = true → s.acceptedAt s.upcoming = [x] → x.pkt.params = some (.modeSet w c) →
    Mode.ofCode c.toNat = some .service →
    ∃ t, exec .windowBoundary s = .next t ∧ t.dev.mode = s.dev.mode) ∧
  (∀ (s : State) (x : Sched) (w : EW) (n : Byte), s.boundaryDue = true → s.dev.mode ≠ .sleep → s.cmds.committed = true →
    s.acceptedAt s.upcoming = [x] → x.pkt.params = some (.cfgPolicySet w n) →
    ∃ t, exec .windowBoundary s = .next t ∧ t.run.cfgPolicy = n.toNat) ∧
  (∀ (s : State) (x : Sched) (w : EW) (a b : Byte), s.boundaryDue = true → s.dev.mode ≠ .sleep →
    s.cmds.committed = true → s.acceptedAt s.upcoming = [x] → x.pkt.params = some (.leadSet w a b) →
    ∃ t, exec .windowBoundary s = .next t ∧ t.dev.leadSrc = a.toNat ∧
      t.dev.cmdLead = (if b = 0 then HostId.a else HostId.b) ∧
      t.dev.lead = (if a = 0 then (if s.fld.frameDi.getLsbD 3 = true then HostId.b else HostId.a)
        else if b = 0 then HostId.a else HostId.b)) ∧
  (∀ (s : State) (x : Sched) (w : EW) (b : BitVec 64) (n : Byte) (h : HostId), s.boundaryDue = true →
    s.dev.mode ≠ .sleep → s.cmds.committed = true → s.acceptedAt s.upcoming = [x] → h = streamSide x.pkt.stream →
    x.pkt.params = some (.ringDelivery w b n) →
    ∃ t, exec .windowBoundary s = .next t ∧
      (t.host h).dring = { en := !(b = 0 && n = 0), base := b, sizeLog := n.toNat } ∧
      (t.host h.peer).dring = (s.host h.peer).dring) ∧
  (∀ (s : State) (x : Sched) (w : EW) (b : BitVec 64) (n : Byte) (h : HostId), s.boundaryDue = true →
    s.dev.mode ≠ .sleep → s.cmds.committed = true → s.acceptedAt s.upcoming = [x] → h = streamSide x.pkt.stream →
    x.pkt.params = some (.ringCommand w b n) →
    ∃ t, exec .windowBoundary s = .next t ∧
      (t.host h).cring = { en := !(b = 0 && n = 0), base := b, sizeLog := n.toNat } ∧
      (t.host h.peer).cring = (s.host h.peer).cring) ∧
  (∀ (s : State) (x : Sched) (w : EW) (b : BitVec 64) (n : Byte) (h : HostId), s.boundaryDue = true →
    s.dev.mode ≠ .sleep → s.cmds.committed = true → s.acceptedAt s.upcoming = [x] → h = streamSide x.pkt.stream →
    x.pkt.params = some (.ringReply w b n) →
    ∃ t, exec .windowBoundary s = .next t ∧
      (t.host h).rring = { en := !(b = 0 && n = 0), base := b, sizeLog := n.toNat } ∧
      (t.host h.peer).rring = (s.host h.peer).rring) ∧
  (∀ (s : State) (x : Sched) (w : EW) (a : BitVec 64) (h : HostId), s.boundaryDue = true → s.dev.mode ≠ .sleep →
    s.cmds.committed = true → s.acceptedAt s.upcoming = [x] → h = streamSide x.pkt.stream →
    x.pkt.params = some (.ringWriteback w a) →
    ∃ t, exec .windowBoundary s = .next t ∧ (t.host h).wbAddr = a ∧ (t.host h).wbEn = (a != 0) ∧
      (t.host h.peer).wbAddr = (s.host h.peer).wbAddr) ∧
  (∀ (s : State) (x : Sched) (w : EW) (m v : Byte), s.boundaryDue = true → s.dev.mode ≠ .sleep →
    s.cmds.committed = true → s.acceptedAt s.upcoming = [x] → x.pkt.params = some (.doSet w m v) → s.fld.state ≠ .uv →
    ∃ t, exec .windowBoundary s = .next t ∧
      ∀ o, o < 4 → (t.fld.output o).cmd = (if m.getLsbD o = true then v.getLsbD o else (s.fld.output o).cmd)) ∧
  (∀ (s : State) (x : Sched) (w : EW) (c : Word), s.boundaryDue = true → s.dev.mode ≠ .sleep → s.cmds.committed = true →
    s.upcoming.2 = 0 → s.acceptedAt s.upcoming = [x] → x.pkt.params = some (.cycCountSet w c) →
    ∃ t, exec .windowBoundary s = .next t ∧ t.trk.cycle = c) ∧
  (∀ (s : State) (x : Sched) (w : EW) (v : BitVec 64), s.boundaryDue = true → s.dev.mode ≠ .sleep →
    s.cmds.committed = true → s.upcoming.2 = 0 → s.acceptedAt s.upcoming = [x] → x.pkt.params = some (.timeSet w v) →
    ∃ t, exec .windowBoundary s = .next t ∧ t.clk.plant = v)

/-- What the settings of a configuration command are in the draft that replaces those in force, and that nothing else
of the draft changes (13; 05 R110, R111, 10 R227, R231). -/
def Obligations.ConfigurationDrafted : Prop :=
  (∀ (d : Draft) (o : Nat) (w : EW) (r : ObjRecord), bit r.cfg 31 = false → r.obj = BitVec.ofNat 16 o → o < 16384 →
    (d.plain o (.objConfig w r)).1.st.obj o = (d.st.obj o).configured r 0 ∧ (d.plain o (.objConfig w r)).2.status = 0 ∧
      (d.plain o (.objConfig w r)).1.taken = d.taken ∧ (d.plain o (.objConfig w r)).1.mods = d.mods ++ [(o, r, 0)] ∧
      OnlyObj o d.st (d.plain o (.objConfig w r)).1.st ∧ Unchanged [.objs, .twd] d.st (d.plain o (.objConfig w r)).1.st ∧
      (∀ i, (d.plain o (.objConfig w r)).1.st.slotOf o ≠ some i)) ∧
  (∀ (d : Draft) (q : Nat) (w : EW), d.plain q (.objConfigN w []) = (d, {})) ∧
  (∀ (d d1 : Draft) (q : Nat) (w : EW) (r : ObjRecord) (rs : List ObjRecord) (a b : Res),
    d.plain r.obj.toNat (.objConfig w r) = (d1, a) → a.status = 0 → (d1.plain q (.objConfigN w rs)).2 = b →
    (d.plain q (.objConfigN w (r :: rs))).1 = (d1.plain q (.objConfigN w rs)).1 ∧
      (d.plain q (.objConfigN w (r :: rs))).2.status = b.status ∧
      (b.status = 0 → (d.plain q (.objConfigN w (r :: rs))).2.result = a.result ++ b.result)) ∧
  (∀ (d : Draft) (q : Nat) (w : EW) (r : ObjRecord) (rs : List ObjRecord),
    (d.plain r.obj.toNat (.objConfig w r)).2.status ≠ 0 →
    d.plain q (.objConfigN w (r :: rs)) = (d, { status := 0x0202, result := zeros 4 })) ∧
  (∀ (d : Draft) (p : Nat) (w : EW) (c : PortConfigP), ((d.plain p (.portConfig w c)).1.st.port p).cfg.pc = c ∧
    OnlyPort p d.st (d.plain p (.portConfig w c)).1.st ∧ Unchanged [.ports] d.st (d.plain p (.portConfig w c)).1.st) ∧
  (∀ (d : Draft) (p : Nat) (w : EW) (a b : Word), ((d.plain p (.portSilk w a b)).1.st.port p).cfg.silkCtrl = a ∧
    ((d.plain p (.portSilk w a b)).1.st.port p).cfg.peInit = bits b 11 8 ∧
    OnlyPort p d.st (d.plain p (.portSilk w a b)).1.st ∧ Unchanged [.ports] d.st (d.plain p (.portSilk w a b)).1.st) ∧
  (∀ (d : Draft) (p : Nat) (w : EW) (a b : Word), ((d.plain p (.portErrcfg w a b)).1.st.port p).cfg.recPolicy = a ∧
    ((d.plain p (.portErrcfg w a b)).1.st.port p).cfg.babbleMax = bits b 31 16 ∧
    OnlyPort p d.st (d.plain p (.portErrcfg w a b)).1.st ∧ Unchanged [.ports] d.st (d.plain p (.portErrcfg w a b)).1.st) ∧
  (∀ (d : Draft) (p : Nat) (w : EW) (a : Word), ((d.plain p (.portFence w a)).1.st.port p).cfg.fenceCfg = a ∧
    OnlyPort p d.st (d.plain p (.portFence w a)).1.st ∧ Unchanged [.ports] d.st (d.plain p (.portFence w a)).1.st) ∧
  (∀ (d : Draft) (p : Nat) (w : EW) (own m : Byte) (f : BitVec 16) (n : Word),
    ((d.plain p (.portDelivery w own m f n)).1.st.port p).cfg =
      { (d.st.port p).cfg with ownDlv := own.toNat, budgetMode := m.toNat, frameBudget := f.toNat, byteBudget := n.toNat } ∧
    OnlyPort p d.st (d.plain p (.portDelivery w own m f n)).1.st ∧
    Unchanged [.ports] d.st (d.plain p (.portDelivery w own m f n)).1.st) ∧
  (∀ (d : Draft) (p : Nat) (w : EW) (n : BitVec 16),
    ((d.plain p (.portGuard w n)).1.st.port p).cfg = { (d.st.port p).cfg with guardMax := n.toNat } ∧
    ((d.plain p (.rteQuota w n)).1.st.port p).cfg = { (d.st.port p).cfg with quota := n.toNat } ∧
    OnlyPort p d.st (d.plain p (.portGuard w n)).1.st ∧ OnlyPort p d.st (d.plain p (.rteQuota w n)).1.st ∧
    Unchanged [.ports] d.st (d.plain p (.portGuard w n)).1.st ∧
    Unchanged [.ports] d.st (d.plain p (.rteQuota w n)).1.st) ∧
  (∀ (d : Draft) (p : Nat) (w : EW) (a b c e : Word),
    ((d.plain p (.fltPort w a b c e)).1.st.port p).cfg =
      { (d.st.port p).cfg with fltCtrl := a, fltElem := b, fltDef := c, fltDefStd := e } ∧
    OnlyPort p d.st (d.plain p (.fltPort w a b c e)).1.st ∧ Unchanged [.ports] d.st (d.plain p (.fltPort w a b c e)).1.st) ∧
  (∀ (d : Draft) (g : Nat) (w : EW) (f : BitVec 16) (rs : List (BitVec 16)),
    (∀ (j : Nat) (r : BitVec 16), rs[j]? = some r →
      (d.plain g (.fltDtable w f rs)).1.st.flt.dtable.get 0 (2048 * g + f.toNat + j) = r.toNat) ∧
    (∀ n, n < 2048 * g + f.toNat ∨ 2048 * g + f.toNat + rs.length ≤ n →
      (d.plain g (.fltDtable w f rs)).1.st.flt.dtable.get 0 n = d.st.flt.dtable.get 0 n) ∧
    (d.plain g (.fltDtable w f rs)).1.st.flt.elems = d.st.flt.elems ∧
    Unchanged [.flt] d.st (d.plain g (.fltDtable w f rs)).1.st) ∧
  (∀ (d : Draft) (g : Nat) (w : EW) (f : BitVec 16) (es : List Elem),
    (∀ (j : Nat) (e : Elem), es[j]? = some e →
      (d.plain g (.fltElem w f es)).1.st.flt.elems.get ⟨0, 0, 0, 0⟩ (f.toNat + j) = e) ∧
    (∀ n, n < f.toNat ∨ f.toNat + es.length ≤ n →
      (d.plain g (.fltElem w f es)).1.st.flt.elems.get ⟨0, 0, 0, 0⟩ n = d.st.flt.elems.get ⟨0, 0, 0, 0⟩ n) ∧
    (d.plain g (.fltElem w f es)).1.st.flt.dtable = d.st.flt.dtable ∧
    Unchanged [.flt] d.st (d.plain g (.fltElem w f es)).1.st) ∧
  (∀ (d : Draft) (r : Nat) (w : EW) (e : BitVec 64) (x : Word),
    (d.plain r (.rteSet w e x)).1.st.route r = { d.st.route r with entry := e, ext := x } ∧
    (∀ q, q ≠ r → (d.plain r (.rteSet w e x)).1.st.route q = d.st.route q) ∧
    Unchanged [.routes] d.st (d.plain r (.rteSet w e x)).1.st) ∧
  (∀ (d : Draft) (n : Nat) (w : EW) (e : BitVec 64),
    ((d.plain n (.pairSet w e)).1.st.pairs.get {} n).entry = e ∧
    (∀ q, q ≠ n → (d.plain n (.pairSet w e)).1.st.pairs.get {} q = d.st.pairs.get {} q) ∧
    Unchanged [.pairs] d.st (d.plain n (.pairSet w e)).1.st) ∧
  (∀ (d : Draft) (o : Nat) (w : EW) (a b : Word),
    (d.plain o (.cycSource w a b)).1.st.trk = { d.st.trk with cfg := { d.st.trk.cfg with src := a, period := b.toNat } } ∧
    Unchanged [.trk] d.st (d.plain o (.cycSource w a b)).1.st) ∧
  (∀ (d : Draft) (o : Nat) (w : EW) (j : BitVec 16) (n : Byte) (st : List (BitVec 16)),
    (d.plain o (.cycWindows w j n st)).1.st.trk.cfg =
      { d.st.trk.cfg with jumpTol := j.toNat, winCount := n.toNat, starts := (st.take n.toNat).map BitVec.toNat } ∧
    Unchanged [.trk] d.st (d.plain o (.cycWindows w j n st)).1.st) ∧
  (∀ (d : Draft) (o : Nat) (w : EW) (a : Byte) (fs : List (BitVec 16)),
    (d.plain o (.fldConfig w a fs)).1.st.fld.autoRestore = decide (a = 1) ∧
    (∀ (i : Nat) (n : BitVec 16), i < 8 → fs[i]? = some n →
      ((d.plain o (.fldConfig w a fs)).1.st.fld.di.get {} i).filter = n.toNat) ∧
    Unchanged [.fld] d.st (d.plain o (.fldConfig w a fs)).1.st) ∧
  (∀ (d : Draft) (o : Nat) (w : EW) (ps : List Byte),
    (d.plain o (.twdMap w ps)).1.st.twd = { d.st.twd with map := ps.map BitVec.toNat } ∧
    Unchanged [.twd] d.st (d.plain o (.twdMap w ps)).1.st) ∧
  (∀ (d : Draft) (q : Nat) (w : EW) (p a : Byte) (es : List (BitVec 64)),
    (d.plain q (.denseSet w p a es)).1.st.dense = (d.st.dense.filter fun e => e.1 != p.toNat) ++
      es.map (fun e => (p.toNat, withOffset (d.st.newPlan p.toNat a.toNat es) e)) ∧
    ((d.plain q (.denseSet w p a es)).1.st.port p.toNat).cfg = { (d.st.port p.toNat).cfg with errAllow := a.toNat } ∧
    OnlyPort p.toNat d.st (d.plain q (.denseSet w p a es)).1.st ∧
    (∀ k ∈ d.st.newPlan p.toNat a.toNat es, k.foreign = false →
      ((d.plain q (.denseSet w p a es)).1.st.obj k.obj).sched.getLsbD 15 = true) ∧
    (∀ o, (∀ k ∈ d.st.newPlan p.toNat a.toNat es, k.foreign = false → k.obj ≠ o) →
      ((d.plain q (.denseSet w p a es)).1.st.obj o).sched =
        (if o ∈ (d.st.denseOf p.toNat).map denObj then (d.st.obj o).sched &&& 0xFFFF7FFF#32 else (d.st.obj o).sched)) ∧
    Unchanged [.dense, .objs, .ports] d.st (d.plain q (.denseSet w p a es)).1.st)

/-- Granules: the run given to an object is the lowest that is free, and it exists whenever some run is (04 R84). -/
def Obligations.LowestRun : Prop :=
  (∀ (rs : List (Nat × Nat)) (n b : Nat), lowestFit rs n = some b →
    b + n ≤ 65536 ∧ (∀ r ∈ rs, ¬(b < r.1 + r.2 ∧ r.1 < b + n)) ∧
      ∀ a, a + n ≤ 65536 → (∀ r ∈ rs, ¬(a < r.1 + r.2 ∧ r.1 < a + n)) → b ≤ a) ∧
  (∀ (rs : List (Nat × Nat)) (n a : Nat), a + n ≤ 65536 → (∀ r ∈ rs, ¬(a < r.1 + r.2 ∧ r.1 < a + n)) →
    ∃ b, lowestFit rs n = some b) ∧
  (∀ (d : Draft) (o : Nat) (w : EW) (r : ObjRecord) (b : Nat), bit r.cfg 31 = true →
    ((d.st.obj o).en = false ∨ (d.st.obj o).send ≠ bit r.cfg 30 ∨ (d.st.obj o).granCount ≠ r.granCount.toNat) →
    d.kept.find o = none → r.obj = BitVec.ofNat 16 o → o < 16384 →
    lowestFit d.taken (if bit r.cfg 30 = true then 3 * r.granCount.toNat else r.granCount.toNat) = some b →
    (d.plain o (.objConfig w r)).1.st.obj o = (d.st.obj o).configured r b ∧ (d.plain o (.objConfig w r)).2.status = 0 ∧
      OnlyObj o d.st (d.plain o (.objConfig w r)).1.st ∧ Unchanged [.objs, .twd] d.st (d.plain o (.objConfig w r)).1.st) ∧
  (∀ (d : Draft) (o : Nat) (w : EW) (r : ObjRecord), bit r.cfg 31 = true → (d.st.obj o).en = false →
    d.kept.find o = none → r.obj = BitVec.ofNat 16 o → o < 16384 →
    lowestFit d.taken (if bit r.cfg 30 = true then 3 * r.granCount.toNat else r.granCount.toNat) = none →
    (d.plain o (.objConfig w r)).2.status = 0x0202 ∧ (d.plain o (.objConfig w r)).1 = d) ∧
  (∀ (d : Draft) (o : Nat) (w : EW) (r : ObjRecord), bit r.cfg 31 = true → (d.st.obj o).en = true →
    (d.st.obj o).send = bit r.cfg 30 → (d.st.obj o).granCount = r.granCount.toNat → r.obj = BitVec.ofNat 16 o → o < 16384 →
    ((d.plain o (.objConfig w r)).1.st.obj o).granBase = (d.st.obj o).granBase ∧
      (d.plain o (.objConfig w r)).1.taken = d.taken)

/-- BAR0 writes: held behind the queue of PREG_DATA writes, refused with a part of the word's enables, and counted
where they meet no writable register; the scratch word, the doorbell bits and a target's mask and threshold take what is
written, a processor's as a host's. Every row that is a host's write joins the host's held writes while there are any, a
BAR0 write while the queue is full, and a BAR2 write until message memory is initialised (04 R80, 11 R252, R253, R255, 14
R319, R320, 17 R384). -/
def Obligations.HostRegisterWrites : Prop :=
  (∀ (s : State) (h : HostId) (o : BitVec 18) (be : BitVec 4) (v : Word),
    (s.pregFull h = true ∨ (s.host h).writesHeld = true) →
    ∃ t, exec (.hostRegisterWrite (.host h) o be v) s = .next t ∧
      HostBecomes s t h { s.host h with held := (s.host h).held ++ [.bar0 o.toNat be v] } ∧
      Unchanged [.irq, .hosts, .out] s t) ∧
  (∀ (s : State) (h : HostId) (o : BitVec 18) (be : BitVec 4) (v : Word), s.WritesNow h → be ≠ 0xF →
    ∃ t, exec (.hostRegisterWrite (.host h) o be v) s = .next t ∧
      (t.host h).violations = min 0xFFFFFFFF ((s.host h).violations + 1) ∧ bits (t.host h).violLast 31 28 = 3 ∧
      Unchanged [.irq, .hosts, .out, .rcd] s t) ∧
  (∀ (s : State) (h : HostId) (v : Word), s.WritesNow h →
    ∃ t, exec (.hostRegisterWrite (.host h) 0x2C 0xF v) s = .next t ∧ HostBecomes s t h { s.host h with scratch := v } ∧
      Unchanged [.irq, .hosts, .out] s t) ∧
  (∀ (s : State) (h : HostId) (o : BitVec 18) (v : Word), s.WritesNow h → o.toNat < 0x1000 → ¬(0x2C ≤ o.toNat ∧ o.toNat < 0x30) →
    ∃ t, exec (.hostRegisterWrite (.host h) o 0xF v) s = .next t ∧
      (t.host h).violations = min 0xFFFFFFFF ((s.host h).violations + 1) ∧
      bits (t.host h).violLast 31 28 = (if o.toNat < 0x2C then 2 else 1) ∧
      bits (t.host h).violLast 25 0 = o.toNat / 4 * 4 ∧ (t.host h).scratch = (s.host h).scratch ∧
      Unchanged [.irq, .hosts, .out, .rcd] s t) ∧
  (∀ (s : State) (h : HostId) (k : Fin 8) (v : Word) (n : Nat), s.WritesNow h → n < 32 →
    ∃ t, exec (.hostRegisterWrite (.host h) (BitVec.ofNat 18 (0x2200 + 4 * k.val)) 0xF v) s = .next t ∧
      (t.target h.num).mask.getLsbD (32 * k.val + n) =
        (v.getLsbD n || decide (32 * k.val + n = 0) || decide (175 ≤ 32 * k.val + n ∧ 32 * k.val + n < 192)) ∧
      Unchanged [.irq, .hosts, .out] s t) ∧
  (∀ (s : State) (e : Fin 6) (be : BitVec 4) (k : Fin 8) (v : Word) (n : Nat), n < 32 →
    ∃ t, exec (.hostRegisterWrite (.processor e) (BitVec.ofNat 18 (0x2200 + 4 * k.val)) be v) s = .next t ∧
      (t.target (e.val + 2)).mask.getLsbD (32 * k.val + n) = (v.getLsbD n || decide (32 * k.val + n = 0)) ∧
      (∀ r, r ≠ e.val + 2 → (t.target r).mask = (s.target r).mask) ∧ Unchanged [.irq, .hosts, .out] s t) ∧
  (∀ (s : State) (e : Fin 6) (be : BitVec 4) (v : Word),
    ∃ t, exec (.hostRegisterWrite (.processor e) 0x2220 be v) s = .next t ∧
      (t.target (e.val + 2)).thresh = bits v 3 0 ∧ (∀ r, r ≠ e.val + 2 → (t.target r).thresh = (s.target r).thresh) ∧
      (∀ r, (t.target r).mask = (s.target r).mask) ∧ Unchanged [.irq, .hosts, .out] s t) ∧
  (∀ (s : State) (h : HostId) (v : Word), s.WritesNow h → s.dev.mode ≠ .sleep →
    ∃ t, exec (.doorbell h v) s = .next t ∧
      (∀ i, i < 8 → v.getLsbD i = true → t.irq.pend.getLsbD (192 + 8 * h.num + i) = true) ∧
      (∀ i, (i < 192 + 8 * h.num ∨ 192 + 8 * h.num + 8 ≤ i) → t.irq.pend.getLsbD i = s.irq.pend.getLsbD i) ∧
      Unchanged [.irq, .hosts, .out] s t) ∧
  (∀ (i : Instr) (h : HostId) (w : HeldAccess) (s : State), i.hostWrites = some (h, w) →
    ((s.host h).writesHeld = true ∨ (s.pregFull h = true ∧ w.toBar0 = true) ∨ (s.mem.ready = false ∧ w.toBar0 = false)) →
    ∃ t, exec i s = .next t ∧ HostBecomes s t h { s.host h with held := (s.host h).held ++ [w] } ∧
      Unchanged [.irq, .hosts, .out] s t)

/-- A heartbeat makes an ABSENT host LIVE, and a LAPSED one whose link is up; a period without one makes a LIVE host
LAPSED, and the last one's lapse in a run mode begins HOLD (11 R264, R266, 15 R344). -/
def Obligations.Heartbeats : Prop :=
  (∀ (s : State) (h : HostId) (v : Word), s.WritesNow h →
    ∃ t, exec (.heartbeat h v) s = .next t ∧ (t.host h).hb = v ∧ (t.host h.peer).peerHb = v ∧ (t.host h).lastBeat = s.us ∧
      (t.host h).state = (if (s.host h).state = .lapsed ∧ (s.host h).pcie.linkUp = false then .lapsed else .live) ∧
      (t.host h).lapses = (s.host h).lapses ∧ (t.host h.peer).state = (s.host h.peer).state ∧ t.dev = s.dev ∧
      Unchanged [.irq, .hosts, .out, .rcd] s t) ∧
  (∀ (s : State) (h : HostId), (s.host h).state = .live → (s.host h).period ≠ 0 →
    (s.host h).lastBeat + 1000 * (s.host h).period ≤ s.us → s.dev.mode ≠ .sleep →
    ∃ t, exec (.heartbeatLapse h) s = .next t ∧ (t.host h).state = .lapsed ∧
      (t.host h).lapses = min 255 ((s.host h).lapses + 1) ∧ t.irq.pend.getLsbD 172 = true ∧
      t.dev.mode = (if s.dev.mode.isRun = true ∧ (s.host h.peer).state ≠ .live then .hold else s.dev.mode) ∧
      (s.dev.mode.isRun = true → (s.host h.peer).state ≠ .live →
        t.dev.holdFrom = some s.dev.mode ∧ ∀ o, (t.obj o).req.pend = .both false ∨ t.obj o = s.obj o) ∧
      t.pool = s.pool ∧ t.keep = s.keep ∧ (∀ p, { t.port p with cnt := (s.port p).cnt } = s.port p)) ∧
  (∀ (s : State) (h : HostId), (s.host h).state ≠ .live ∨ (s.host h).period = 0 ∨
    s.us < (s.host h).lastBeat + 1000 * (s.host h).period →
    ∃ t, exec (.heartbeatLapse h) s = .next t ∧ HostBecomes s t h (s.host h) ∧ Unchanged [.irq, .hosts, .out] s t)

/-- The command and reply chains: words in, overrun, drop-tail, words out, and the triggers of HST_FIFO_CTRL (11
R270, 12 R287-R289). -/
def Obligations.Chains : Prop :=
  (∀ (s : State) (h : HostId) (v : Word), s.WritesNow h → (s.host h).cmd.drop = none → (s.host h).cmd.words.length < 64 →
    s.canTake (hostStream h) = false →
    CmdChain.refusable { (s.host h).cmd with words := (s.host h).cmd.words ++ [v] } = none →
    ∃ t, exec (.cmdFifoWrite h v) s = .next t ∧
      HostBecomes s t h { s.host h with cmd := { (s.host h).cmd with words := (s.host h).cmd.words ++ [v] } } ∧
      (s.dev.mode ≠ .sleep → (s.host h).cmd.words.length + 1 = (s.host h).cmd.level →
        t.irq.pend.getLsbD (136 + h.num) = true) ∧ Unchanged [.irq, .hosts, .out, .kept] s t) ∧
  (∀ (s : State) (h : HostId) (v : Word), s.WritesNow h → (s.host h).cmd.drop = none →
    64 ≤ (s.host h).cmd.words.length →
    ∃ t, exec (.cmdFifoWrite h v) s = .next t ∧
      HostBecomes s t h { s.host h with cmd := { (s.host h).cmd with overrun := true } } ∧
      Unchanged [.irq, .hosts, .out] s t) ∧
  (∀ (s : State) (h : HostId) (v : Word) (d : DropTail), s.WritesNow h → (s.host h).cmd.drop = some d →
    ∃ t, exec (.cmdFifoWrite h v) s = .next t ∧ (t.host h).cmd.words = (s.host h).cmd.words ∧
      (t.host h).cmd.dropWords = min 255 ((s.host h).cmd.dropWords + 1) ∧
      ((t.host h).cmd.drop = none ↔
        ∃ n, (d.len = some n ∨ d.len = none ∧ d.pos = 2 ∧ n = announced (v.toNat / 65536)) ∧ n ≤ d.pos + 1) ∧
      Unchanged [.irq, .hosts, .out] s t) ∧
  (∀ (s : State) (h : HostId) (w : Word) (ws : List Word) (ps : List (List Word)),
    (s.host h).writesHeld = false → (s.host h).replyChain = (w :: ws) :: ps →
    ∃ t, exec (.replyFifoRead h) s = .next t ∧ t.out = .read h w :: s.out ∧
      (t.host h) = { s.host h with replyChain := if ws = [] then ps else ws :: ps } ∧ OnlyHost h s t ∧
      Unchanged [.hosts, .out] s t) ∧
  (∀ (s : State) (h : HostId), (s.host h).writesHeld = false → (s.host h).replyChain = [] →
    ∃ t, exec (.replyFifoRead h) s = .next t ∧ t.out = .read h 0 :: s.out ∧ Unchanged [.out] s t) ∧
  (∀ (s : State) (h : HostId), (s.host h).writesHeld = true →
    exec (.replyFifoRead h) s = .next (s.modHost h fun x => { x with held := x.held ++ [.reply] })) ∧
  (∀ (s : State) (h : HostId), s.WritesNow h →
    ∃ t, exec (.flushCmd h) s = .next t ∧ (t.host h).cmd.words = [] ∧
      ((t.host h).cmd.drop = none ↔ (s.host h).cmd.drop = none ∧ partialWords 16 (s.host h).cmd.words = []) ∧
      (t.host h).replyChain = (s.host h).replyChain ∧ t.cmds.sched = s.cmds.sched ∧
      t.cmds.waiting.map (fun k => { k with behind := 0 }) = s.cmds.waiting.map (fun k => { k with behind := 0 }) ∧
      ((∀ k ∈ s.cmds.waiting, k.behind ≤ 64) →
        ∀ k ∈ t.cmds.waiting, k.stream = hostStream h → k.path = .fifo → k.behind = 0) ∧
      Unchanged [.cmds, .irq, .hosts, .out] s t) ∧
  (∀ (s : State) (h : HostId), s.WritesNow h →
    ∃ t, exec (.flushReply h) s = .next t ∧ HostBecomes s t h { s.host h with replyChain := [] } ∧
      Unchanged [.irq, .hosts, .out] s t) ∧
  (∀ (s : State) (h : HostId), s.WritesNow h →
    ∃ t, exec (.discardPacket h) s = .next t ∧
      HostBecomes s t h { s.host h with replyChain := (s.host h).replyChain.drop 1 } ∧
      Unchanged [.irq, .hosts, .out] s t) ∧
  (∀ (s : State) (h : HostId), s.WritesNow h →
    ∃ t, exec (.ovrClr h) s = .next t ∧
      HostBecomes s t h { s.host h with cmd := { (s.host h).cmd with overrun := false } } ∧
      Unchanged [.irq, .hosts, .out] s t) ∧
  (∀ (s : State) (h : HostId), s.WritesNow h →
    ∃ t, exec (.integClr h) s = .next t ∧ HostBecomes s t h { s.host h with integrity := false } ∧
      Unchanged [.irq, .hosts, .out] s t)

/-- The command and reply rings: the indices a host may write, what is read from the ring, what stops it, and the
writing of replies (11 R260-R262, 12 R273, R287). -/
def Obligations.Rings : Prop :=
  (∀ (s : State) (h : HostId) (v : Word), s.WritesNow h → (s.host h).cring.en = true →
    ∃ t, exec (.cringTail h v) s = .next t ∧ (t.host h).cring.head = (s.host h).cring.head ∧
      (if v.toNat % 16 = 0 ∧ 0 ≤ seqDiff v (s.host h).cring.tail ∧
          (v - (s.host h).cring.head).toNat ≤ 2 ^ (s.host h).cring.sizeLog then
        (t.host h).cring.tail = v ∧ (t.host h).violations = (s.host h).violations
      else (t.host h).cring.tail = (s.host h).cring.tail ∧
        (t.host h).violations = min 0xFFFFFFFF ((s.host h).violations + 1) ∧ bits (t.host h).violLast 31 28 = 7) ∧
      Unchanged [.irq, .hosts, .out, .rcd] s t) ∧
  (∀ (s : State) (h : HostId) (v : Word), s.WritesNow h → (s.host h).rring.en = true →
    ∃ t, exec (.rringCons h v) s = .next t ∧ (t.host h).rring.prod = (s.host h).rring.prod ∧
      (if v.toNat % 16 = 0 ∧ (v - (s.host h).rring.cons).toNat ≤ (s.host h).rring.used then
        (t.host h).rring.cons = v ∧ (t.host h).violations = (s.host h).violations
      else (t.host h).rring.cons = (s.host h).rring.cons ∧
        (t.host h).violations = min 0xFFFFFFFF ((s.host h).violations + 1) ∧ bits (t.host h).violLast 31 28 = 6) ∧
      Unchanged [.irq, .hosts, .out, .rcd] s t) ∧
  (∀ (s : State) (h : HostId) (ws : List Word) (n : Nat) (k : Packet), s.cringReady h = true →
    bits (ws.getD 0 0) 7 0 = 2 → n = wordsPlen ws → n ≤ 4080 → 16 + (n + 15) / 16 * 16 ≤ (s.host h).cring.filled →
    s.stagingUsed + (16 + (n + 15) / 16 * 16) ≤ 0x40000 → s.mayTake k = true →
    k = packetOf (hostStream h) .ring
      ((ws ++ List.replicate ((16 + (n + 15) / 16 * 16) / 4) 0).take ((16 + (n + 15) / 16 * 16) / 4)) →
    ∃ t u, exec (.cringPacketRead h ws) s = .next t ∧ t = u.present ∧
      u = ((((s.ringRead h (s.host h).cring.base.toNat (2 ^ (s.host h).cring.sizeLog) (s.host h).cring.head.toNat
            (16 + (n + 15) / 16 * 16)).modHost h fun x => { x with cring := { x.cring with
            head := x.cring.head + BitVec.ofNat 32 (16 + (n + 15) / 16 * 16) } }).writeback h).acceptPacket k)) ∧
  (∀ (s : State) (h : HostId) (ws : List Word), s.cringReady h = true → s.canTake (hostStream h) = true →
    (bits (ws.getD 0 0) 7 0 ≠ 2 ∨ 4080 < wordsPlen ws) →
    ∃ t, exec (.cringPacketRead h ws) s = .next t ∧
      HostBecomes s t h { s.host h with cring := { (s.host h).cring with stopped := true, stopCause := 3 } } ∧
      Unchanged [.irq, .hosts, .out, .rcd] s t) ∧
  (∀ (s : State) (h : HostId) (e : RingError), s.cringReady h = true →
    ∃ t, exec (.cringReadError h e) s = .next t ∧
      t.host h = { s.host h with cring := { (s.host h).cring with
        stopped := true, stopCause := if e = .errorCompletion then 1 else 2 } } ∧ OnlyHost h s t ∧
      Unchanged [.hosts, .rcd] s t) ∧
  (∀ (s : State) (h : HostId) (i : Nat) (r : Reply), s.run.svc = true → s.nextReply h = some i →
    (s.host h).replies[i]? = some r → s.NothingWaits →
    s.dev.mode ≠ .sleep →
    ∃ t, exec (.replyWrite h) s = .next t ∧ (t.host h).replies = (s.host h).replies.eraseIdx i ∧
      (t.host h).replyChain = (if r.path = .fifo then (s.host h).replyChain ++ [Reply.words r] else (s.host h).replyChain) ∧
      (t.host h).rring.prod = (if r.path = .fifo then (s.host h).rring.prod
        else (s.host h).rring.prod + BitVec.ofNat 32 (Reply.padded r).length) ∧
      (t.stream r.stream).credits = (s.stream r.stream).credits - (if r.credit = true then 1 else 0) ∧
      t.cmds.resetDue = (s.cmds.resetDue || decide (r.after = 1)) ∧
      t.cmds.sleepDue = (if 16 ≤ r.after then some (r.after - 16) else s.cmds.sleepDue) ∧
      t.irq.pend.getLsbD (138 + h.num) = true ∧ Unchanged [.cmds, .irq, .hosts, .out] s t) ∧
  (∀ (s : State) (h : HostId) (ws : List Word) (n : Nat), s.cringReady h = true → s.canTake (hostStream h) = true →
    bits (ws.getD 0 0) 7 0 = 2 → n = wordsPlen ws → n ≤ 4080 →
    ((s.host h).cring.filled < 16 + (n + 15) / 16 * 16 ∨ 0x40000 < s.stagingUsed + (16 + (n + 15) / 16 * 16) ∨
      s.mayTake (packetOf (hostStream h) .ring
        ((ws ++ List.replicate ((16 + (n + 15) / 16 * 16) / 4) 0).take ((16 + (n + 15) / 16 * 16) / 4))) = false) →
    ∃ t, exec (.cringPacketRead h ws) s = .next t ∧ (t.host h).cring = (s.host h).cring ∧
      Unchanged [.irq, .hosts, .out] s t)

/-- The link and what resets an endpoint; a chain that fails its integrity check is discarded (11 R250, R268, R269,
12 R290, 14 R329). -/
def Obligations.EndpointAndIntegrity : Prop :=
  (∀ (s : State) (h : HostId), s.dev.mode ≠ .latched → s.dev.mode ≠ .sleep → s.dev.mode ≠ .insert →
    ∃ t, exec (.hostLinkUp h) s = .next t ∧ (t.host h).pcie.linkUp = true ∧ (t.host h).state = (s.host h).state ∧
      (t.host h.peer).pcie.linkUp = (s.host h.peer).pcie.linkUp ∧ Unchanged [.irq, .hosts, .out] s t) ∧
  (∀ (s : State) (h : HostId) (d : Bool), ∃ t, exec (.pcieConfigWrite h (.powerState d)) s = .next t ∧
    (t.host h).pcie.d3hot = d ∧ (t.host h).pcie.busMaster = (s.host h).pcie.busMaster ∧
    (t.host h.peer).pcie.d3hot = (s.host h.peer).pcie.d3hot ∧ Unchanged [.irq, .hosts, .out] s t) ∧
  (∀ (s : State) (h : HostId) (b : Bool), ∃ t, exec (.pcieConfigWrite h (.busMaster b)) s = .next t ∧
    (t.host h).pcie.busMaster = b ∧ (t.host h).pcie.d3hot = (s.host h).pcie.d3hot ∧
    Unchanged [.irq, .hosts, .out] s t) ∧
  (∀ (s : State) (h : HostId) (b m : Bool), ∃ t, exec (.pcieConfigWrite h (.msix b m)) s = .next t ∧
    (t.host h).pcie.msixOn = b ∧ (t.host h).pcie.msixMasked = m ∧
    (∀ v, v < 16 → (s.host h).pcie.sends = true → b = true → m = false → (s.host h).pcie.pba.getLsbD v = true →
      ((s.host h).pcie.msixTable.get 1 (4 * v + 3)).getLsbD 0 = false → Out.msix h v ∈ t.out) ∧
    Unchanged [.irq, .hosts, .out] s t) ∧
  (∀ (s : State) (h : HostId) (k : EndpointReset), (s.host h).state ≠ .live →
    ∃ t, exec (.endpointReset h k) s = .next t ∧ (t.host h).state = (s.host h).state ∧
      (t.host h).lapses = (s.host h).lapses ∧ (t.host h).cmd = {} ∧ (t.host h).replyChain = [] ∧
      (t.host h).replies = [] ∧ (t.host h).dring = {} ∧ (t.host h).cring = {} ∧ (t.host h).rring = {} ∧
      (t.host h).scratch = 0 ∧ (t.host h).violations = 0 ∧ (t.host h).period = 100 ∧ (t.host h).wbEn = false ∧
      (t.host h).pcie.linkUp = (decide (k = .flr) && (s.host h).pcie.linkUp) ∧ (t.host h).pcie.busMaster = false ∧
      (t.target h.num).active = [] ∧ (t.target h.num).mask = ({} : IrqTarget).mask ∧
      (∀ x ∈ t.cmds.sched, x.pkt.stream = hostStream h → x.noReply = true) ∧
      (t.host h.peer).replies = (s.host h.peer).replies ∧ t.pool = s.pool ∧ t.objs = s.objs ∧ t.dev = s.dev) ∧
  (∀ (s : State) (h : HostId) (k : EndpointReset), (s.host h).state = .live →
    ∃ t, exec (.endpointReset h k) s = .next t ∧ (t.host h).state = .lapsed ∧
      (t.host h).lapses = min 255 ((s.host h).lapses + 1) ∧ (t.host h).cmd = {} ∧ (t.host h).cring = {} ∧ t.pool = s.pool) ∧
  (∀ (s : State) (h : HostId), s.dev.mode ≠ .sleep →
    ∃ t, exec (.fifoIntegrity (.command h)) s = .next t ∧ (t.host h).cmd.words = [] ∧ (t.host h).integrity = true ∧
      (t.host h).replyChain = (s.host h).replyChain ∧ t.irq.pend.getLsbD 140 = true ∧ t.cmds.sched = s.cmds.sched ∧
      t.cmds.waiting.length = s.cmds.waiting.length ∧ Unchanged [.cmds, .irq, .hosts, .out, .rcd] s t) ∧
  (∀ (s : State) (h : HostId), s.dev.mode ≠ .sleep →
    ∃ t, exec (.fifoIntegrity (.reply h)) s = .next t ∧
      HostBecomes s t h { s.host h with replyChain := [], integrity := true } ∧ t.irq.pend.getLsbD 140 = true ∧
      Unchanged [.irq, .hosts, .out, .rcd] s t) ∧
  (∀ (s : State) (p : Port), s.dev.mode ≠ .sleep →
    ∃ t, exec (.fifoIntegrity (.staging p)) s = .next t ∧ (t.port p.val).tx.staged = none ∧
      (t.port p.val).stat = (s.port p.val).stat ∧ t.irq.pend.getLsbD 140 = true ∧ OnlyPort p.val s t ∧
      Unchanged [.ports, .irq, .hosts, .out, .rcd] s t) ∧
  (∀ s : State, s.link.up = false → ∃ t, exec .mailboxRequestRepeat s = .next t ∧
    t.link.askOut = s.link.askOut ∧ t.link.askIn = s.link.askIn ∧ t.link.up = false ∧
    (t.link.mailOut ≠ [] ↔ s.link.mailOut ≠ [] ∨ s.link.askOut ≠ []) ∧
    (t.link.mailIn ≠ [] ↔ s.link.mailIn ≠ [] ∨ s.link.askIn ≠ []) ∧ Unchanged [.link, .irq, .hosts, .out] s t) ∧
  (∀ (s : State) (r : Reply), s.link.up = true → s.link.mailOut = [] → s.link.askOut = [r] → s.link.mailIn = [] →
    s.link.askIn = [] → ∃ t, exec .mailboxRequestRepeat s = .next t ∧ t.link.askOut = [] ∧ t.link.mailOut = [] ∧
    t.mgt.replies = s.mgt.replies ++ [(wordsBytes r.words).take (16 + r.result.length)] ∧ t.dev = s.dev ∧
    t.ports = s.ports)

/-- Flag clears: a host clears its own copy of a port's or the tracker's flags where it writes 1, and the power die's
and Amioc's flags for both (02 R55, 08 R194, 18 R428). -/
def Obligations.FlagClears : Prop :=
  (∀ (s : State) (h : HostId) (p : Port) (v : Word), s.WritesNow h →
    ∃ t, exec (.chFlagsClr h p v) s = .next t ∧
      (t.port p.val).flags.get h = { (s.port p.val).flags.get h with ch := ((s.port p.val).flags.get h).ch &&& ~~~v } ∧
      (t.port p.val).flags.get h.peer = (s.port p.val).flags.get h.peer ∧ (t.port p.val).stat = (s.port p.val).stat ∧
      OnlyPort p.val s t ∧ Unchanged [.ports] s t) ∧
  (∀ (s : State) (h : HostId) (p : Port) (v : Word), s.WritesNow h →
    ∃ t, exec (.chSilkFlagsClr h p v) s = .next t ∧
      (t.port p.val).flags.get h =
        { (s.port p.val).flags.get h with silk := ((s.port p.val).flags.get h).silk &&& ~~~v } ∧
      (t.port p.val).flags.get h.peer = (s.port p.val).flags.get h.peer ∧ OnlyPort p.val s t ∧ Unchanged [.ports] s t) ∧
  (∀ (s : State) (h : HostId) (p : Port) (v : Word), s.WritesNow h →
    ∃ t, exec (.chTxFlagsClr h p v) s = .next t ∧
      (t.port p.val).flags.get h = { (s.port p.val).flags.get h with tx := ((s.port p.val).flags.get h).tx &&& ~~~v } ∧
      (t.port p.val).flags.get h.peer = (s.port p.val).flags.get h.peer ∧ OnlyPort p.val s t ∧ Unchanged [.ports] s t) ∧
  (∀ (s : State) (h : HostId) (p : Port) (v : Word), s.WritesNow h →
    ∃ t, exec (.chErrFlagsClr h p v) s = .next t ∧
      (t.port p.val).flags.get h =
        { (s.port p.val).flags.get h with err := ((s.port p.val).flags.get h).err &&& ~~~v } ∧
      (t.port p.val).flags.get h.peer = (s.port p.val).flags.get h.peer ∧ OnlyPort p.val s t ∧ Unchanged [.ports] s t) ∧
  (∀ (s : State) (h : HostId) (v : Word), s.WritesNow h →
    ∃ t, exec (.grdFlagsClr h v) s = .next t ∧ t.trk2.flags.get h = s.trk2.flags.get h &&& ~~~v ∧
      t.trk2.flags.get h.peer = s.trk2.flags.get h.peer ∧ t.trk2.startDue = s.trk2.startDue ∧ Unchanged [.trk2] s t) ∧
  (∀ (s : State) (h : HostId) (v : Word), s.WritesNow h →
    ∃ t, exec (.pwrFlagsClr h v) s = .next t ∧ t.pwr2 = { s.pwr2 with flags := s.pwr2.flags &&& ~~~v } ∧
      t.link.mirror.get 0 0x14 = s.link.mirror.get 0 0x14 &&& ~~~v ∧
      (∀ o, o ≠ 0x14 → t.link.mirror.get 0 o = s.link.mirror.get 0 o) ∧ Unchanged [.pwr2, .link] s t) ∧
  (∀ (s : State) (h : HostId) (v : Word), s.WritesNow h →
    ∃ t, exec (.mgtFlagsClr h v) s = .next t ∧ t.fld = { s.fld with flags := s.fld.flags &&& ~~~v } ∧
      t.link.mirror.get 0 0x134 = s.link.mirror.get 0 0x134 &&& ~~~v ∧
      (∀ o, o ≠ 0x134 → t.link.mirror.get 0 o = s.link.mirror.get 0 o) ∧ Unchanged [.fld, .link] s t)

/-- The interrupt controller: the source that is claimed is the best of those presentable, claims and completions,
what may be written into pending bits, and the signal that follows moderation (14 R315-R317, R320, R323-R328). -/
def Obligations.Interrupts : Prop :=
  (∀ (q : Irq) (v : IrqTarget) (n p : Nat), q.top v = some (n, p) →
    q.pend.getLsbD n = true ∧ v.mask.getLsbD n = false ∧ p = q.prioOf n ∧ v.thresh < p ∧
      (∀ a ∈ v.active, a.2 < p) ∧
      ∀ m, 0 < m → m < 256 → q.pend.getLsbD m = true → v.mask.getLsbD m = false → v.thresh < q.prioOf m →
        (∀ a ∈ v.active, a.2 < q.prioOf m) → q.prioOf m < p ∨ (q.prioOf m = p ∧ n ≤ m)) ∧
  (∀ (q : Irq) (v : IrqTarget) (m : Nat), 0 < m → m < 256 → q.pend.getLsbD m = true → v.mask.getLsbD m = false →
    v.thresh < q.prioOf m → (∀ a ∈ v.active, a.2 < q.prioOf m) → ∃ x, q.top v = some x) ∧
  (∀ (s : State) (t : Fin 8) (n p : Nat), s.TargetReadsNow t → s.irq.top (s.target t.val) = some (n, p) →
    ∃ u, exec (.intClaim t) s = .next u ∧ Out.claim t.val (image [(0, n), (8, p)]) ∈ u.out ∧
      u.irq.pend.getLsbD n = false ∧ (∀ m, m ≠ n → u.irq.pend.getLsbD m = s.irq.pend.getLsbD m) ∧
      (u.target t.val).active = (n, p) :: (s.target t.val).active ∧
      (∀ r, r ≠ t.val → (u.target r).active = (s.target r).active) ∧ ((n < 65 ∨ 128 < n) → u.dlv = s.dlv) ∧
      Unchanged [.irq, .hosts, .out, .dlv] s u) ∧
  (∀ (s : State) (t : Fin 8), s.TargetReadsNow t → s.irq.top (s.target t.val) = none →
    ∃ u, exec (.intClaim t) s = .next u ∧ Out.claim t.val 0 ∈ u.out ∧ u.irq.pend = s.irq.pend ∧
      (u.target t.val).active = (s.target t.val).active ∧
      (u.target t.val).withdrawn = (if (s.target t.val).signalled = 0 then (s.target t.val).withdrawn
        else min 65535 ((s.target t.val).withdrawn + 1)) ∧ Unchanged [.irq, .hosts, .out] s u) ∧
  (∀ (s : State) (t : Fin 8) (v : Word), s.TargetWritesNow t →
    ∃ u, exec (.intComplete t v) s = .next u ∧ u.irq.pend = s.irq.pend ∧
      (if ∃ a ∈ (s.target t.val).active, a.1 = bits v 7 0 ∧ a.1 ≠ 0 then
        (u.target t.val).active = (s.target t.val).active.filter (fun a => a.1 != bits v 7 0) ∧
          (u.target t.val).stray = (s.target t.val).stray
      else (u.target t.val).active = (s.target t.val).active) ∧
      ((∀ a ∈ (s.target t.val).active, a.1 ≠ bits v 7 0) →
        (u.target t.val).stray = min 65535 ((s.target t.val).stray + 1)) ∧ Unchanged [.irq, .hosts, .out] s u) ∧
  (∀ (s : State) (t k : Fin 8) (v : Word) (n : Nat), s.TargetWritesNow t → n < 256 →
    ∃ u, exec (.intPendWrite t k v) s = .next u ∧
      u.irq.pend.getLsbD n = (if n / 32 = k.val then
          (if v.getLsbD (n % 32) = true then (decide (192 ≤ n) || s.irq.pend.getLsbD n) else false)
        else s.irq.pend.getLsbD n) ∧ Unchanged [.irq, .hosts, .out] s u) ∧
  (∀ (s : State) (t : Fin 8) (v : Word) (n : Nat), s.TargetWritesNow t →
    ∃ u, exec (.intSetpend (.write t v)) s = .next u ∧
      u.irq.pend.getLsbD n = (s.irq.pend.getLsbD n || (decide (192 ≤ bits v 7 0) && decide (n = bits v 7 0))) ∧
      Unchanged [.irq, .hosts, .out] s u) ∧
  (∀ (s : State) (k : Fin 17) (n : Nat), ∃ u, exec (.intSetpend (.internal k)) s = .next u ∧
    u.irq.pend.getLsbD n = (s.irq.pend.getLsbD n || (decide (s.dev.mode ≠ .sleep) && decide (n = 175 + k.val))) ∧
    Unchanged [.irq, .hosts, .out] s u) ∧
  (∀ (s : State) (h : HostId) (t : Fin 8), t.val = h.num → (s.host h).writesHeld = true →
    ∃ u, exec (.intClaim t) s = .next u ∧
      HostBecomes s u h { s.host h with held := (s.host h).held ++ [.claim] } ∧ Unchanged [.irq, .hosts, .out] s u) ∧
  (∀ (s : State) (h : HostId) (t : Fin 8), t.val = h.num → (s.host h).writesHeld = true →
    exec (.intSetseenRead t) s = .next (s.hold h .seen)) ∧
  (∀ (s : State) (t : Fin 8) (v : Word) (n : Nat), s.TargetWritesNow t →
    ∃ u, exec (.intClrpend t v) s = .next u ∧
      u.irq.pend.getLsbD n = (s.irq.pend.getLsbD n && !(decide (bits v 7 0 ≠ 0) && decide (n = bits v 7 0))) ∧
      Unchanged [.irq, .hosts, .out] s u) ∧
  (∀ (s : State) (t : Fin 8), s.TargetReadsNow t → ∃ u, exec (.intSetseenRead t) s = .next u ∧ (u.target t.val).seen = 0 ∧
    u.out = .claim t.val ((s.target t.val).seen.setWidth 32) :: s.out ∧ u.irq.pend = s.irq.pend ∧
    (∀ r, r ≠ t.val → u.target r = s.target r) ∧ Unchanged [.irq, .out] s u) ∧
  (∀ (s : State) (t : Fin 8) (n p : Nat), 2 ≤ t.val → (s.target t.val).moderation ≠ 0 → (s.target t.val).signalled = 0 →
    s.irq.top (s.target t.val) = some (n, p) →
    ∃ u, exec (.moderationExpiry t) s = .next u ∧ Out.line t.val ∈ u.out ∧ (u.target t.val).signalled = p ∧
      (u.target t.val).lastSignal = some s.clk.ticks ∧ (u.target t.val).asserted = true ∧ u.irq.pend = s.irq.pend ∧ Unchanged [.irq, .hosts, .out] s u)

/-- Compilation and the commit point: a compiled command keeps its window or takes the first that is still ahead;
where a command of the window is not compiled all of them are LATE (12 R278, R279, R457). Agreement: how the copies
that two hosts send for one key settle under each CFG_POLICY (12 R285, R286). -/
def Obligations.CommitAndAgreement : Prop :=
  (
  (∀ (s : State) (j : Word) (x : Sched), s.run.svc = true → s.shadowBusy = false → x.placed = true →
    (s.cmds.sched.find? fun x => x.jseq = j && !x.compiled && x.phase = .waiting) = some x →
    ∃ t, exec (.compileComplete j) s = .next t ∧
      t.cmds.sched = s.cmds.sched.map (fun y => if y.jseq = j then { y with compiled := true } else y) ∧
      t.cmds.waiting = s.cmds.waiting ∧ Unchanged [.cmds, .irq, .hosts, .out] s t) ∧
  (∀ (s : State) (j : Word), s.shadowBusy = true ∨ s.run.svc = false →
    ∃ t, exec (.compileComplete j) s = .next t ∧ Unchanged [.irq, .hosts, .out] s t) ∧
  (∀ (s : State) (j : Word) (x : Sched), s.run.svc = true → s.shadowBusy = false → x.placed = false →
    (s.cmds.sched.find? fun x => x.jseq = j && !x.compiled && x.phase = .waiting) = some x →
    s.duplicate x.pkt (s.asapWin x.pkt.opcode) = false →
    ∃ t, exec (.compileComplete j) s = .next t ∧
      t.cmds.sched = s.cmds.sched.map (fun y => if y.jseq = j then
        { x with pkt := x.pkt.placedAt (s.asapWin x.pkt.opcode), cycle := (s.asapWin x.pkt.opcode).1, win := (s.asapWin x.pkt.opcode).2, chosen := true, compiled := true }
        else y) ∧
      Unchanged [.cmds, .jnl, .keep, .irq, .hosts, .out] s t) ∧
  (∀ s : State, s.cmds.committed = false → s.run.domains.contains 3 = true → s.dueSlots = [] →
    s.commandsAt s.upcoming = [] →
    ∃ t, exec .commitPoint s = .next t ∧ t.cmds = { s.cmds with committed := true } ∧
      Unchanged [.cmds, .irq, .hosts, .out] s t) ∧
  (∀ s : State, s.cmds.committed = false → s.run.domains.contains 3 = true → s.dueSlots = [] →
    s.commandsAt s.upcoming ≠ [] →
    (s.run.svc = false ∨ s.shadowBusy = true ∨ ∃ x ∈ s.commandsAt s.upcoming, x.compiled = false) →
    ∃ t, exec .commitPoint s = .next t ∧ t.cmds.committed = true ∧
      (∀ x ∈ t.commandsAt s.upcoming, x.phase = .refuse stLate []) ∧ t.cmds.mods = s.cmds.mods ∧
      Unchanged [.cmds, .irq, .hosts, .out] s t) ∧
  (∀ (s u : State) (x : Sched) (ys : List Sched) (r : Res), s.cmds.committed = false → s.run.domains.contains 3 = true →
    s.dueSlots = [] → s.run.svc = true → s.shadowBusy = false → s.commandsAt s.upcoming = x :: ys →
    (∀ y ∈ x :: ys, y.compiled = true) → (∀ y ∈ ys, y.jseq ≠ x.jseq) →
    s.settleAll (x :: ys) = { apply := [(x, ys)], refuse := [] } → u = { s with cmds := { s.cmds with committed := true } } →
    u.testGroups s.upcoming [(x, ys)] = [(0, x.pkt, r)] → r.status = 0 →
    ∃ t, exec .commitPoint s = .next t ∧ t.cmds.committed = true ∧
      t.cmds.sched = s.cmds.sched.map (fun y =>
        if y.jseq = x.jseq then { y with pkt := x.pkt, phase := .apply, result := r.result, equal := !ys.isEmpty }
        else if y.jseq ∈ ys.map Sched.jseq then { y with phase := .paired, result := r.result, equal := true } else y) ∧
      t.cmds.mods = lastMods (u.draft.addAll [(0, x.pkt)]).1.mods ∧
      t.trk2.dueCyc = (if s.upcoming.2 = 0 then some (u.draft.addAll [(0, x.pkt)]).1.st.trk.cfg else s.trk2.dueCyc) ∧
      (∀ h, (t.host h).replies = (s.host h).replies) ∧ Unchanged [.cmds, .copyNext, .trk2, .irq, .hosts, .out] s t) ∧
  (∀ (s u : State) (x : Sched) (r : Res), s.cmds.committed = false → s.run.domains.contains 3 = true → s.dueSlots = [] →
    s.run.svc = true → s.shadowBusy = false → s.commandsAt s.upcoming = [x] → x.compiled = true →
    u = { s with cmds := { s.cmds with committed := true } } → r.status ≠ 0 →
    (s.settleAll [x] = { apply := [], refuse := [(x, r)] } ∨
      s.settleAll [x] = { apply := [(x, [])], refuse := [] } ∧ u.testGroups s.upcoming [(x, [])] = [(0, x.pkt, r)]) →
    ∃ t, exec .commitPoint s = .next t ∧ t.cmds.committed = true ∧
      t.cmds.sched = s.cmds.sched.filter (fun y => y.jseq != x.jseq) ∧
      (∃ e, t.heldEntry s.nextJseq = some e ∧ e.status = r.status ∧ e.cmdSeq = x.pkt.seq ∧ e.opcode = x.pkt.opcode ∧
        e.target = x.pkt.target) ∧
      (x.noReply = false → x.pkt.dead = false →
        Answered s t { stream := x.pkt.stream, path := x.pkt.path, opcode := x.pkt.opcode, status := r.status, seq := x.pkt.seq,
                       jidx := x.jseq.toNat % 16384, result := r.result, credit := true, after := 0 }) ∧
      t.ports = s.ports ∧ t.objs = s.objs ∧ t.dev = s.dev) ∧
  (∀ s : State, s.cmds.committed = true →
    ∃ t, exec .commitPoint s = .next t ∧ Unchanged [.irq, .hosts, .out] s t)) ∧
  (
  (∀ (pol : Nat) (x y : Sched), x.pkt.stream = .hostA → y.pkt.stream = .hostB → x.pkt.bytes = y.pkt.bytes →
    settleKey pol .hostA [.hostA, .hostB] [x, y] = { apply := [(x, [y])], refuse := [] } ∧
    settleKey pol .hostB [.hostA, .hostB] [x, y] = { apply := [(y, [x])], refuse := [] }) ∧
  (∀ (x y : Sched) (d : Nat), x.pkt.stream = .hostA → y.pkt.stream = .hostB → paramDiff 0 x.pkt.bytes y.pkt.bytes = some d →
    settleKey 2 .hostA [.hostA, .hostB] [x, y] =
      { apply := [], refuse := [(x, disagreed 1 d), (y, disagreed 1 d)] } ∧
    settleKey 1 .hostA [.hostA, .hostB] [x, y] = { apply := [(x, [])], refuse := [(y, disagreed 1 d)] } ∧
    settleKey 0 .hostA [.hostA, .hostB] [x, y] = { apply := [(x, [])], refuse := [(y, disagreed 1 d)] }) ∧
  (∀ x : Sched, x.pkt.stream = .hostA →
    settleKey 2 .hostA [.hostA, .hostB] [x] = { apply := [], refuse := [(x, disagreed 2 0)] } ∧
    settleKey 1 .hostA [.hostA, .hostB] [x] = { apply := [(x, [])], refuse := [] } ∧
    settleKey 1 .hostB [.hostA, .hostB] [x] = { apply := [], refuse := [(x, disagreed 2 0)] } ∧
    settleKey 0 .hostB [.hostA, .hostB] [x] = { apply := [(x, [])], refuse := [] } ∧
    (∀ pol, settleKey pol .hostB [.hostA] [x] = { apply := [(x, [])], refuse := [] }) ∧
    (∀ pol lead, settleKey pol lead [.hostB] [x] = { apply := [], refuse := [(x, disagreed 2 0)] })) ∧
  (∀ (n : Nat) (a b : List Byte) (d : Nat), a.length = b.length → paramDiff n a b = some d →
    n ≤ d ∧ (a.take (d - n) = b.take (d - n)) ∧ a[d - n]? ≠ b[d - n]?))

/-- Start-up: Buckram, the service firmware with the streams rebuilt from the journal, and the profile that leads
into CONFIG (12 R271, 15 R334, R337, R339, 16 R362). -/
def Obligations.StartUp : Prop :=
  (∀ s : State, s.dev.mode = .boot → s.run.buckram = false → s.run.domains.contains 4 = true → s.rcd.queue = [] →
    ∃ t, exec .buckramStart s = .next t ∧ t.dev = s.dev ∧ Unchanged [.run, .fw, .irq, .rcd, .keep, .hosts, .out, .pwr2] s t ∧
      (∀ k, s.startSlot 0 = some k → t.run = { s.run with buckram := true } ∧ (t.part 0).active = k ∧
        t.irq.pend.getLsbD 171 = true ∧
        (s.link.up = true → t.pwr2.unreported = [] ∧
          ∀ n ∈ s.pwr2.unreported, 143 ≤ n → n ≤ 155 → t.irq.pend.getLsbD n = true) ∧
        ∃ e ∈ t.rcd.queue, e.code = 0x0A02 ∧ e.d0 = s.dev.resetCause ∧ e.d1 = s.dev.frameResets) ∧
      (s.startSlot 0 = none → t.run = s.run ∧ t.fw = s.fw)) ∧
  (∀ s : State, s.dev.mode = .boot → s.run.buckram = true → s.run.svc = false → s.run.domains.contains 5 = true →
    ∃ t, exec .serviceFwStart s = .next t ∧ t.dev = s.dev ∧ Unchanged [.run, .fw, .cmds, .rcd, .keep, .irq, .hosts, .out] s t ∧
      (∀ k, s.startSlot 1 = some k → t.run = { s.run with svc := true } ∧ (t.part 1).active = k ∧
        (∀ st, (t.stream st).nextSeq = (s.newestEntry st).map fun e => e.cmdSeq + 1) ∧
        (s.canvas.held ≠ 0 → t.irq.pend.getLsbD 165 = true)) ∧
      (s.startSlot 1 = none → t.run = s.run ∧ t.fw = s.fw ∧ t.cmds = s.cmds)) ∧
  (∀ s : State, s.dev.mode = .boot → s.run.svc = true → s.run.domains.contains 9 = true →
    s.run.domains.contains 10 = true → s.mem.ready = true → s.NothingWaits →
    ∃ t, exec .profileApply s = .next t ∧ t.dev.mode = .config ∧ t.dev.prevMode = .boot ∧ t.dev.cfgFromStart = true ∧
      t.dev.cfgStarts = 0 ∧ t.dev.cfgExit = t.dev.profile.isSome ∧ t.irq.pend.getLsbD 171 = true)

/-- Faults of the service firmware and of the trusted pair, and the ways back (15 R333, R339, 16 R366, R372-R374, 14
R322, R329). -/
def Obligations.FirmwareFaults : Prop :=
  (∀ (s : State) (f : CoreFault), s.run.buckram = true → s.run.svc = true → (s.part 1).cutover = none →
    s.dev.mode ≠ .sleep →
    ∃ t, exec (.serviceFwFault f) s = .next t ∧ t.run.svc = false ∧ t.fw.restarting = true ∧ (t.part 1).running = 0 ∧
      t.irq.pend.getLsbD 164 = true ∧ t.canvas.held ≠ 0 ∧ t.fw.faults.head? = some s.us ∧
      t.run.gateViolations = s.run.gateViolations + (if f.cause = 3 then 1 else 0) ∧
      (s.fw.faults.length < 3 → (t.part 1).active = (s.part 1).active ∧
        ((f.cause = 4 ∨ (s.part 1).sram = none) → (t.part 1).sram = (s.part 1).image (s.part 1).active) ∧
        (∀ b, f.cause ≠ 4 → (s.part 1).sram = some b →
          (t.part 1).sram = (if imageSigned Config.firmwareKey b = true then some b else (s.part 1).image (s.part 1).active))) ∧
      t.dev = s.dev ∧ t.ports = s.ports ∧
      t.objs = s.objs ∧ t.pool = s.pool ∧ t.flt = s.flt ∧ t.trk = s.trk) ∧
  (∀ (s : State) (c : Fin 4), s.run.buckram = true → s.run.svc = true → (s.part 1).cutover = none → s.dev.mode ≠ .sleep →
    ∃ t, exec (.coreWatchdogExpiry c) s = .next t ∧ t.run.svc = false ∧ t.fw.restarting = true ∧
      t.irq.pend.getLsbD 164 = true ∧ t.canvas.held ≠ 0 ∧ t.run.gateViolations = s.run.gateViolations ∧ t.dev = s.dev ∧
      t.ports = s.ports ∧ t.objs = s.objs ∧ t.pool = s.pool) ∧
  (∀ s : State, s.fw.restarting = true → s.run.buckram = true → (s.part 1).cutover = none → s.dev.mode ≠ .fault →
    s.NothingWaits →
    ∃ t, exec .serviceFwRestart s = .next t ∧
      (s.startStatus 1 (s.part 1).sram = 0 ∨ s.startSlot 1 ≠ none →
        t.run = { s.run with svc := true, svcRestarts := s.run.svcRestarts + 1 } ∧ t.fw.restarting = false ∧
          (∀ r, 2 ≤ r → r ≤ 5 → (t.target r).active = [])) ∧
      (s.startStatus 1 (s.part 1).sram = 0 → (t.part 1).sram = (s.part 1).sram ∧ (t.part 1).running = versionOf (s.part 1).sram) ∧
      (∀ k, s.startStatus 1 (s.part 1).sram ≠ 0 → s.startSlot 1 = some k →
        (t.part 1).sram = (s.part 1).image k ∧ (t.part 1).running = versionOf ((s.part 1).image k)) ∧
      (s.startStatus 1 (s.part 1).sram ≠ 0 → s.startSlot 1 = none → t.run = s.run ∧ t.fw = s.fw) ∧
      t.dev = s.dev ∧ t.ports = s.ports ∧ t.objs = s.objs ∧ t.pool = s.pool) ∧
  (∀ (s : State) (f : CoreFault), s.dev.mode.faultable = true → s.run.domains.contains 4 = true →
    (∀ a, s.fw.lastFault = some a → a + 60000000 < s.us) →
    ∃ t, exec (.trustedFault f) s = .next t ∧ t.dev.mode = .fault ∧ t.dev.prevMode = s.dev.mode ∧
      t.dev.faultFrom = some s.dev.mode ∧ t.run.buckram = false ∧ t.run.svc = false ∧ t.fw.lastFault = some s.us ∧
      t.canvas.held ≠ 0 ∧ (∀ p ∈ s.enabledPorts, 4 ∈ (t.port p).stat.causes) ∧
      (∀ h, (s.host h).pcie.linkUp = true → Out.msix h 0 ∈ t.out) ∧ t.clk.plant = s.clk.plant) ∧
  (∀ s : State, s.dev.mode.faultable = true → s.run.domains.contains 4 = true →
    (∀ a, s.fw.lastFault = some a → a + 60000000 < s.us) →
    ∃ t, exec .pairWatchdogExpiry s = .next t ∧ t.dev.mode = .fault ∧ t.dev.prevMode = s.dev.mode ∧
      t.run.buckram = false ∧ t.run.svc = false ∧ t.canvas.held ≠ 0) ∧
  (∀ (s : State) (f : CoreFault), s.dev.mode = .fault →
    ∃ t, exec (.trustedFault f) s = .next t ∧ t.dev.mode = .boot ∧ t.dev.prevMode = .fault ∧ t.dev.resetCause = 2 ∧
      t.clk = s.clk ∧ t.keep.regs = s.keep.regs) ∧
  (∀ s : State, s.dev.mode = .fault → s.allPowered = true → s.NothingWaits →
    ∃ t, exec .faultRecovered s = .next t ∧
      (∀ a b, s.startSlot 0 = some a → s.startSlot 1 = some b → t.dev.mode = .config ∧ t.dev.prevMode = .fault ∧
        t.run.buckram = true ∧ t.run.svc = true ∧ t.dev.cfgFromStart = true ∧ t.irq.pend.getLsbD 171 = true ∧
        (∀ p ∈ s.enabledPorts, 4 ∉ (t.port p).stat.causes)) ∧
      (s.startSlot 0 = none → t.dev.mode = .boot ∧ t.dev.prevMode = .fault ∧ t.dev.resetCause = 2))

/-- Cutover and the engines: a confirmed part runs from the other slot and FW_SLOTS says so, an unconfirmed one runs
the old version; a second failed step marks an engine, and its spare takes over at bus idle (16 R361, R365, R368,
R369). -/
def Obligations.CutoverAndEngines : Prop :=
  (∀ (s : State) (p : Fin 3) (old : Word) (b : List Byte), (s.part p.val).cutover = some old →
    s.standbyImage p.val = some b → s.keep.jobsP = [] → s.run.buckram = true → s.NothingWaits →
    ∃ t, exec (.cutoverConfirmed p) s = .next t ∧
      (s.fwStatusOf p.val b = 0 → (t.part p.val).cutover = none ∧
        (t.part p.val).active = 1 - s.fwSlot p.val ∧ (t.part p.val).running = BitVec.ofNat 32 (fwVersion b) ∧
        (t.part p.val).sram = some b ∧ (p.val ≠ 2 → (t.part p.val).copy = (s.part p.val).sram) ∧
        t.fwSlot p.val = 1 - s.fwSlot p.val ∧ (∀ q : Fin 3, q ≠ p → t.fwSlot q.val = s.fwSlot q.val) ∧
        t.fwCounter p.val = max (s.fwCounter p.val) (fwFloor b) ∧ t.dev = s.dev) ∧
      (s.fwStatusOf p.val b ≠ 0 → p.val ≠ 0 → (t.part p.val).cutover = none ∧ t.fwSlot p.val = s.fwSlot p.val ∧
        t.fwCounter p.val = s.fwCounter p.val ∧ t.dev = s.dev)) ∧
  (∀ (s : State) (p : Fin 3) (old : Word), (s.part p.val).cutover = some old → (p.val ≠ 0 ∨ s.startSlot 0 ≠ none) →
    s.NothingWaits →
    ∃ t, exec (.cutoverTimeout p) s = .next t ∧ (t.part p.val).cutover = none ∧
      (t.part p.val).running = (if p.val = 0 then old else if p.val = 1 then 0
        else match s.startSlot 2 with | some k => versionOf ((s.part 2).image k) | none => 0) ∧
      t.fwSlot p.val = s.fwSlot p.val ∧ t.dev = s.dev ∧
      t.keep.regs = s.keep.regs) ∧
  (∀ (s : State) (e : Fin 66) (pass : Bool), (s.engine e.val).failed = false →
    ∃ t, exec (.engineSelfTestStep e pass) s = .next t ∧
      (t.engine e.val).failed = (!pass && (s.engine e.val).suspect) ∧
      (t.engine e.val).suspect = (!pass && !(s.engine e.val).suspect) ∧
      (∀ k, k ≠ e.val → t.engine k = s.engine k) ∧
      ((pass = true ∨ (s.engine e.val).suspect = false) → t.ports = s.ports ∧ t.rcd = s.rcd)) ∧
  (∀ (s : State) (e : Fin 66) (p : Nat), (s.engine e.val).failed = false → (s.engine e.val).suspect = true →
    ((nums 64).find? fun q => (s.port q).engine = e.val) = some p → e.val ≠ spareOf p → s.spareFree p = true →
    (∀ q, (s.port q).stat.remap ≠ some e.val) → (s.port p).bindsAtOnce = false →
    ∃ t, exec (.engineSelfTestStep e false) s = .next t ∧ (t.port p).stat.remap = some (spareOf p) ∧
      (t.port p).stat.state = (s.port p).stat.state ∧ OnlyPort p s t) ∧
  (∀ (s : State) (e : Fin 66) (p : Port), (s.engine e.val).failed = false → (s.engine e.val).suspect = true →
    ((nums 64).find? fun q => (s.port q).engine = e.val) = none → (s.port p.val).stat.remap = some e.val →
    (∀ q, q ≠ p.val → (s.port q).stat.remap ≠ some e.val) → (s.engine (s.port p.val).engine).failed = true →
    (s.port p.val).bindsAtOnce = false → s.cmds.actions = [] →
    ∃ t, exec (.engineSelfTestStep e false) s = .next t ∧ (t.port p.val).stat.remap = none ∧
      (t.port p.val).stat.state = .gauze ∧ 5 ∈ (t.port p.val).stat.causes ∧ (t.port p.val).stat.tx = none ∧
      (t.port p.val).stat.rx = none) ∧
  (∀ (s : State) (e : Fin 66) (pass : Bool), (s.engine e.val).failed = true →
    ∃ t, exec (.engineSelfTestStep e pass) s = .next t ∧ Unchanged [.irq, .hosts, .out] s t) ∧
  (∀ (s : State) (p : Port) (e : Nat), (s.port p.val).stat.remap = some e → (s.port p.val).mayIdle = true →
    (s.port p.val).bindsAtOnce = false → (s.port p.val).engine < 64 →
    ∃ t, exec (.engineRemap p) s = .next t ∧ (t.port p.val).engine = e ∧ (t.port p.val).stat.remap = none ∧
      (t.port p.val).stat.state = .gauze ∧ 5 ∈ (t.port p.val).stat.causes ∧
      (t.port p.val).stat.integrating = true ∧ (t.port p.val).cfg = (s.port p.val).cfg ∧
      (s.dev.mode ≠ .sleep → 64 ≤ e → t.irq.pend.getLsbD 167 = true) ∧ t.pool = s.pool ∧
      ((∀ o, (s.obj o).tx.mediaOk = true → p.val ∉ (s.obj o).tx.media) → OnlyPort p.val s t ∧ t.objs = s.objs)) ∧
  (∀ (s : State) (p : Port) (e : Nat), (s.port p.val).stat.remap = some e → (s.port p.val).bindsAtOnce = true →
    (s.port p.val).engine < 64 →
    ∃ t, exec (.engineRemap p) s = .next t ∧ (t.port p.val).engine = e ∧ (t.port p.val).stat.remap = none ∧
      (t.port p.val).stat.state = (s.port p.val).stat.state ∧ (t.port p.val).cfg = (s.port p.val).cfg ∧
      OnlyPort p.val s t ∧ t.objs = s.objs ∧ t.pool = s.pool)

/-- The Tweed window: no effect but a counted violation where it does not act, and TXERR of a request in HOLD (log entry
172); settings that wait for a window, locks and the held update, requests, cancellations and their limits, all held while
a header change of the slot's object waits (04 R86, 15 R349-R353). -/
def Obligations.TweedWindow : Prop :=
  (∀ (s : State) (h : HostId) (c : Fin 16) (k : Fin 32) (b : Bool) (v : Word) (i : Instr), s.WritesNow h → s.twdActs c.val = false →
    (i = .txrq h c k ∧ s.dev.mode ≠ .hold ∨ i = .txcan h c k ∨ i = .twdLock h c k b ∨ i = .twdTxevtClr h c v) →
    ∃ t, exec i s = .next t ∧ (t.host h).violations = min 0xFFFFFFFF ((s.host h).violations + 1) ∧
      bits (t.host h).violLast 31 28 = 2 ∧ (t.host h.peer).violations = (s.host h.peer).violations ∧
      Unchanged [.hosts, .rcd, .irq, .out] s t) ∧
  (∀ (s : State) (h : HostId) (c : Fin 16) (k : Fin 32) (i : Nat), s.WritesNow h → s.dev.mode = .hold → i = 32 * c.val + k.val →
    s.twd.portOf c.val ≠ none → s.sendSlot i = true →
    ∃ t, exec (.txrq h c k) s = .next t ∧ (t.twd.slot i).txErr.get h = true ∧ t.twd.slotTx = s.twd.slotTx ∧
      (t.host h).violations = min 0xFFFFFFFF ((s.host h).violations + 1) ∧ bits (t.host h).violLast 31 28 = 2 ∧
      Unchanged [.twd, .hosts, .rcd, .irq, .out] s t) ∧
  (∀ (s : State) (h : HostId) (c : Fin 16) (k : Fin 32) (v : Word) (i : Nat), s.WritesNow h → s.twdActs c.val = true →
    i = 32 * c.val + k.val →
    ∃ t, exec (.twdScfgWrite h (BitVec.ofNat 18 (0x8200 + 0x400 * c.val + 0x10 * k.val)) v) s = .next t ∧
      (t.twd.slot i).scfg = v ∧ (t.twd.slot i).dlc = (s.twd.slot i).dlc ∧
      (t.twd.tx i).cfgPend = (s.twd.tx i).cfgPend ++ [(s.us, v, s.slotMask i)] ∧
      (t.twd.tx i).inForce = (s.twd.tx i).inForce ∧
      (∀ j, j ≠ i → t.twd.slot j = s.twd.slot j ∧ t.twd.tx j = s.twd.tx j) ∧ Unchanged [.twd, .irq, .hosts, .out] s t) ∧
  (∀ (s : State) (h : HostId) (c : Fin 16) (v : Word) (k : Fin 32) (i : Nat), s.WritesNow h → s.twdActs c.val = true →
    i = 32 * c.val + k.val →
    ∃ t, exec (.twdScfgWrite h (BitVec.ofNat 18 (0x8008 + 0x400 * c.val)) v) s = .next t ∧
      (t.twd.chan c.val).mask0 = v &&& 0x1FFFFFFF#32 ∧ (t.twd.chan c.val).mask1 = (s.twd.chan c.val).mask1 ∧
      ((t.twd.tx i).cfgPend ≠ (s.twd.tx i).cfgPend ↔
        (s.twd.slot i).msel = false ∧ (s.twd.slot i).scfg.getLsbD 31 = true) ∧
      t.twd.slots = s.twd.slots ∧ Unchanged [.twd, .irq, .hosts, .out] s t) ∧
  (∀ (s : State) (h : HostId) (c : Fin 16) (k : Fin 32) (i : Nat), s.WritesNow h → s.twdActs c.val = true → i = 32 * c.val + k.val →
    (s.twd.slot i).lock.get h = false → (s.twd.slot i).held = none → s.mem.waits (slotBase + i) = false →
    ∃ t, exec (.twdLock h c k true) s = .next t ∧ (t.twd.slot i).lock.get h = true ∧ (t.twd.slot i).lockAt.get h = s.us ∧
      (t.twd.slot i).lost.get h = false ∧ (t.twd.slot i).broken.get h = false ∧
      (t.twd.slot i).lock.get h.peer = (s.twd.slot i).lock.get h.peer ∧
      (t.obj (slotBase + i)).nd = setBit (s.obj (slotBase + i)).nd h.num false ∧ OnlyObj (slotBase + i) s t ∧
      Unchanged [.twd, .objs, .irq, .hosts, .out] s t) ∧
  (∀ (s : State) (h : HostId) (c : Fin 16) (k : Fin 32) (i : Nat) (f : Frame) (w : Word), s.WritesNow h → s.twdActs c.val = true →
    i = 32 * c.val + k.val → (s.twd.slot i).lock.get h = true → (s.twd.slot i).lock.get h.peer = false →
    (s.twd.slot i).lockWait = .both false → (s.twd.slot i).held = some (f, w) → s.mem.waits (slotBase + i) = false →
    ∃ t, exec (.twdLock h c k false) s = .next t ∧ (t.twd.slot i).lock = .both false ∧ (t.twd.slot i).held = none ∧
      (t.obj (slotBase + i)).nd = 7 ∧ (t.obj (slotBase + i)).last.seq = (s.obj (slotBase + i)).last.seq + 1 ∧
      (t.obj (slotBase + i)).last.fid = fidWord f ∧ (t.obj (slotBase + i)).last.ftime = w ∧ OnlyObj (slotBase + i) s t) ∧
  (∀ (s : State) (h : HostId) (c : Fin 16) (k : Fin 32) (i : Nat), i = 32 * c.val + k.val →
    (s.twd.slot i).lock.get h = true → (s.twd.slot i).lock.get h.peer = false → (s.twd.slot i).held = none →
    (s.twd.slot i).lockWait = .both false →
    ∃ t, exec (.lockLimitExpiry c k) s = .next t ∧ (t.twd.slot i).lock = .both false ∧
      (t.twd.slot i).broken.get h = true ∧ (t.twd.slot i).broken.get h.peer = (s.twd.slot i).broken.get h.peer ∧
      t.twd.lockOverruns = min 0xFFFFFFFF (s.twd.lockOverruns + 1) ∧ Unchanged [.twd, .irq, .hosts, .out] s t) ∧
  (∀ (s : State) (h : HostId) (c : Fin 16) (k : Fin 32) (i : Nat), s.WritesNow h → s.twdActs c.val = true → i = 32 * c.val + k.val →
    s.sendSlot i = true → (s.twd.tx i).pend = false → (s.twd.slot i).dlc ≤ 8 → s.live h = true →
    (s.obj (slotBase + i)).imageFree = true → (s.obj (slotBase + i)).faulted = false → s.mem.bad = [] →
    s.mem.waits (slotBase + i) = false →
    ∃ t, exec (.txrq h c k) s = .next t ∧ (t.twd.tx i).pend = true ∧ (t.twd.tx i).at_us = s.us ∧
      (t.twd.slot i).txErr.get h = false ∧ (t.obj (slotBase + i)).req.latched = true ∧
      (t.obj (slotBase + i)).req.by_host = (PerHost.both false).set h true ∧
      (t.obj (slotBase + i)).tx.len = (s.twd.slot i).dlc ∧ OnlyObj (slotBase + i) s t ∧ t.dev = s.dev ∧ t.keep = s.keep) ∧
  (∀ (s : State) (h : HostId) (c : Fin 16) (k : Fin 32) (i : Nat), s.WritesNow h → s.twdActs c.val = true → i = 32 * c.val + k.val →
    s.sendSlot i = true → ((s.twd.tx i).pend = true ∨ 8 < (s.twd.slot i).dlc ∨ s.live h = false ∨
      (s.obj (slotBase + i)).imageFree = false) → s.mem.waits (slotBase + i) = false →
    ∃ t, exec (.txrq h c k) s = .next t ∧ (t.twd.slot i).txErr.get h = true ∧ t.twd.slotTx = s.twd.slotTx ∧
      Unchanged [.twd, .irq, .hosts, .out] s t) ∧
  (∀ (s : State) (h : HostId) (c : Fin 16) (k : Fin 32) (i : Nat), s.WritesNow h → s.twdActs c.val = true → i = 32 * c.val + k.val →
    s.sendSlot i = true → (s.twd.tx i).pend = true → (s.obj (slotBase + i)).req.latched = true →
    (s.obj (slotBase + i)).req.by_host.get h = true → (s.obj (slotBase + i)).req.begun = false →
    (s.obj (slotBase + i)).req.done = false → s.mem.waits (slotBase + i) = false →
    ∃ t, exec (.txcan h c k) s = .next t ∧ (t.twd.tx i).pend = false ∧ (t.twd.tx i).failCause = 3 ∧
      (t.obj (slotBase + i)).req.latched = false ∧ (t.obj (slotBase + i)).req.cancelled = true ∧
      (∀ g, ((t.twd.chan c.val).txevt.get g).getLsbD k.val = true) ∧ OnlyObj (slotBase + i) s t) ∧
  (∀ (s : State) (c : Fin 16) (k : Fin 32) (i : Nat), s.dev.mode = .tweed → i = 32 * c.val + k.val →
    (s.twd.tx i).pend = true → (s.obj (slotBase + i)).req.begun = false → (s.obj (slotBase + i)).req.done = false →
    (s.obj (slotBase + i)).req.cancelled = false → s.mem.waits (slotBase + i) = false →
    ∃ t, exec (.txTimeout c k) s = .next t ∧ (t.twd.tx i).pend = false ∧ (t.twd.tx i).failCause = 1 ∧
      (t.obj (slotBase + i)).req.latched = false ∧ (t.obj (slotBase + i)).req.fail = true ∧
      (∀ g, ((t.twd.chan c.val).txevt.get g).getLsbD k.val = true) ∧ OnlyObj (slotBase + i) s t) ∧
  (∀ (s : State) (c : Fin 16) (k : Fin 32) (i : Nat), i = 32 * c.val + k.val → (s.twd.tx i).pend = true →
    (s.obj (slotBase + i)).req.begun = true →
    ∃ t, exec (.txTimeout c k) s = .next t ∧ (t.twd.tx i).pend = true ∧ (t.twd.tx i).timedOut = true ∧
      (t.obj (slotBase + i)).tx.lastTry = true ∧ (t.obj (slotBase + i)).req = (s.obj (slotBase + i)).req ∧
      OnlyObj (slotBase + i) s t ∧ Unchanged [.twd, .objs, .irq, .hosts, .out] s t) ∧
  (∀ (s : State) (h : HostId) (c : Fin 16) (k : Fin 32) (b : Bool) (i : Nat) (j : Instr) (a : SlotWrite), s.WritesNow h →
    s.twdActs c.val = true → i = 32 * c.val + k.val → s.mem.waits (slotBase + i) = true →
    (j = .txrq h c k ∧ a = .txrq ∨ j = .txcan h c k ∧ a = .txcan ∨ j = .twdLock h c k b ∧ a = .lock b) →
    ∃ t, exec j s = .next t ∧ t.mem = { s.mem with held := s.mem.held ++ [(slotBase + i, .slot h a)] } ∧
      Unchanged [.mem, .irq, .hosts, .out] s t) ∧
  (∀ (s : State) (h : HostId) (c : Fin 16) (v : Word), s.WritesNow h → s.twdActs c.val = true →
    ∃ t, exec (.twdTxevtClr h c v) s = .next t ∧
      (t.twd.chan c.val).txevt.get h = (s.twd.chan c.val).txevt.get h &&& ~~~v ∧
      (t.twd.chan c.val).txevt.get h.peer = (s.twd.chan c.val).txevt.get h.peer ∧ t.twd.slotTx = s.twd.slotTx ∧
      Unchanged [.twd] s t)

/-- Persistent registers written by a host, and the recorder: the scan, a new record and a merged one, the commit of
counts, the end of degradation (17 R384, R389-R391, R396). The layouts of a recorder record and of a journal entry,
and the check byte's CRC (17 R388, R397). -/
def Obligations.RecorderRules : Prop :=
  (
  (∀ (s : State) (h : HostId) (j : Fin 512) (v : Word) (i : Nat), s.WritesNow h → i = 512 * (s.host h).pregPage + j.val →
    0x400 ≤ i → s.keep.down = false → s.keep.jobsP = [] →
    ∃ t, exec (.pregDataWrite h (BitVec.ofNat 18 (0x7800 + 4 * j.val)) v) s = .next t ∧ t.preg i = v ∧
      (∀ n, n ≠ i → t.preg n = s.preg n) ∧ t.keep.ownerJobs h = s.keep.ownerJobs h + 1 ∧ t.keep.regs = s.keep.regs ∧
      Unchanged [.keep, .irq, .hosts, .out] s t) ∧
  (∀ (s : State) (h : HostId) (j : Fin 512) (v : Word), s.WritesNow h → 512 * (s.host h).pregPage + j.val < 0x400 →
    ∃ t, exec (.pregDataWrite h (BitVec.ofNat 18 (0x7800 + 4 * j.val)) v) s = .next t ∧
      (t.host h).violations = min 0xFFFFFFFF ((s.host h).violations + 1) ∧ bits (t.host h).violLast 31 28 = 2 ∧
      Unchanged [.rcd, .irq, .hosts, .out] s t) ∧
  (∀ s : State, s.run.buckram = true → s.rcd.scanned = false → s.keep.down = false → s.rcd.spill = [] →
    s.rcd.degraded = .no →
    ∃ t, exec .recorderScan s = .next t ∧ t.rcd.scanned = true ∧ t.rcd.newest = newestOf s.rcd.ring ∧
      t.rcd.ring = s.rcd.ring ∧ t.rcd.queue = s.rcd.queue ∧ Unchanged [.rcd, .mgt] s t) ∧
  (∀ s : State, s.run.buckram = true → s.rcd.scanned = false → s.keep.down = true → s.rcd.spill = [] → s.rcd.degraded = .no →
    s.dev.mode ≠ .sleep →
    ∃ t v, exec .recorderScan s = .next t ∧ t.rcd.scanned = true ∧ t.rcd.degraded = .unreachable ∧ t.rcd.spill = [v] ∧
      v.r.code = 0x0802 ∧ v.r.d0 = 0xFFFFFFFF ∧ t.rcd.newest = some v.r.rseq ∧ t.rcd.ring = s.rcd.ring ∧
      t.irq.pend.getLsbD 162 = true ∧ Unchanged [.rcd, .irq, .hosts, .out] s t) ∧
  (∀ (l : Tbl RecSlot), (newestOf l = none ↔ l = []) ∧ ∀ n, newestOf l = some n → ∃ e ∈ l, e.2.r.rseq = n) ∧
  (∀ (s : State) (v : RecSlot) (n : Word), s.run.buckram = true → s.rcd.scanned = false → s.keep.down = false →
    s.rcd.degraded = .no → s.rcd.spill = [v] → v.r.flags &&& 2 ≠ 0 → v.r.rseq = 0 → v.r.code ≠ 0x0206 → n = nextOf (newestOf s.rcd.ring) →
    ∃ t w, exec .recorderScan s = .next t ∧ t.rcd.newest = some n ∧ t.rcd.ring.find (recSlot n) = some w ∧
      w.r = { v.r with rseq := n, epoch := s.epoch, flags := v.r.flags ||| 1 } ∧ t.rcd.spill = []) ∧
  (∀ (s : State) (e : Event) (q : List Event), s.rcd.queue = e :: q → s.run.buckram = true → s.rcd.scanned = true →
    (s.part 0).cutover = none → s.keep.down = false → s.rcd.degraded = .no → e.code ≠ 0x0206 → e.code ≠ 0x0207 →
    e.code ≠ 0x0A02 → (∀ x ∈ s.rcd.ring, x.2.takes e s.epoch s.rcd.newest = false) →
    (∀ x ∈ s.rcd.spill, x.takes e s.epoch s.rcd.newest = false) →
    ∃ t, exec .eventRecord s = .next t ∧ t.rcd.queue = q ∧ t.rcd.newest = some (nextOf s.rcd.newest) ∧
      t.rcd.ring.find (recSlot (nextOf s.rcd.newest)) = some (e.record (nextOf s.rcd.newest) s.epoch) ∧
      (∃ j ∈ t.keep.jobsF, j.line = 0x8000 + recSlot (nextOf s.rcd.newest)) ∧
      Unchanged [.rcd, .keep, .irq, .hosts, .out] s t) ∧
  (∀ (s : State) (e : Event) (q : List Event) (k : Nat) (v : RecSlot), s.rcd.queue = e :: q → s.run.buckram = true →
    s.rcd.scanned = true → (s.part 0).cutover = none → e.code ≠ 0x0206 → e.code ≠ 0x0207 →
    (s.rcd.ring.find? fun x => x.2.takes e s.epoch s.rcd.newest && s.inRange x.2.r.rseq) = some (k, v) →
    ∃ t w, exec .eventRecord s = .next t ∧ t.rcd.queue = q ∧ t.rcd.newest = s.rcd.newest ∧ t.rcd.ring.find k = some w ∧
      w.r = { v.r with rep := min 65535 (v.r.rep + 1) } ∧ w.pend = v.pend + (if v.r.rep < 65535 then 1 else 0) ∧ w.last = e.at_us ∧
      Unchanged [.rcd, .irq, .hosts, .out] s t) ∧
  (∀ (s : State) (n : Word) (v : RecSlot), s.heldRecord n = some v → v.pend ≠ 0 →
    ∃ t, exec (.repeatCommit n) s = .next t ∧ t.rcd.ring.find (recSlot n) = some { v with pend := 0 } ∧
      (∀ k, k ≠ recSlot n → t.rcd.ring.find k = s.rcd.ring.find k) ∧
      t.keep.jobsF = s.keep.jobsF ++ [{ line := 0x8000 + recSlot n, was := some (.record (recSlot n) (some v)) }] ∧
      Unchanged [.rcd, .keep] s t) ∧
  (∀ (s : State) (n : Word), (s.heldRecord n = none ∨ ∃ v, s.heldRecord n = some v ∧ v.pend = 0) →
    exec (.repeatCommit n) s = .next s) ∧
  (∀ s : State, s.rcd.degraded = .unreachable →
    ∃ t n v, exec .recorderRestored s = .next t ∧ t.rcd.degraded = .no ∧ t.keep.down = false ∧ t.rcd.spill = [] ∧
      t.rcd.newest = some n ∧ t.rcd.ring.find (recSlot n) = some v ∧ v.r.rseq = n ∧ v.r.code = 0x0803 ∧
      v.r.d0 = s.rcd.spill.length ∧ v.r.d1 = s.rcd.spillLost)) ∧
  (
  (∀ r : Record, (Record.bytes r).length = 32 ∧ leNat ((Record.bytes r).take 4) = r.rseq.toNat ∧
    leNat (((Record.bytes r).drop 4).take 2) = r.epoch % 2 ^ 16 ∧ leNat (((Record.bytes r).drop 6).take 2) = r.code % 2 ^ 16 ∧
    leNat (((Record.bytes r).drop 8).take 8) = r.time % 2 ^ 64 ∧
    leNat (((Record.bytes r).drop 16).take 2) = r.source % 2 ^ 16 ∧
    (Record.bytes r)[18]? = some (BitVec.ofNat 8 r.sev) ∧ (Record.bytes r)[19]? = some (BitVec.ofNat 8 r.flags) ∧
    leNat (((Record.bytes r).drop 20).take 4) = r.d0 % 2 ^ 32 ∧ leNat (((Record.bytes r).drop 24).take 4) = r.d1 % 2 ^ 32 ∧
    leNat (((Record.bytes r).drop 28).take 2) = r.rep % 2 ^ 16 ∧
    (Record.bytes r)[30]? = some (crc8 ((Record.bytes r).take 28)) ∧ (Record.bytes r)[31]? = some 0xC3) ∧
  crc8 [0x31, 0x32, 0x33, 0x34, 0x35, 0x36, 0x37, 0x38, 0x39] = 0xF4 ∧
  (∀ e : JEntry, (JEntry.bytes e).length = 32 ∧ leNat ((JEntry.bytes e).take 4) = e.jseq.toNat ∧
    leNat (((JEntry.bytes e).drop 4).take 4) = e.cmdSeq.toNat ∧
    leNat (((JEntry.bytes e).drop 8).take 2) = e.opcode % 2 ^ 16 ∧
    leNat (((JEntry.bytes e).drop 10).take 2) = e.status % 2 ^ 16 ∧
    (JEntry.bytes e)[12]? = some (BitVec.ofNat 8 (streamNum e.stream)) ∧
    (JEntry.bytes e)[13]? = some (BitVec.ofNat 8 e.flags) ∧
    leNat (((JEntry.bytes e).drop 14).take 2) = e.target % 2 ^ 16 ∧
    leNat (((JEntry.bytes e).drop 16).take 4) = e.effCycle.toNat ∧
    (JEntry.bytes e)[20]? = some (BitVec.ofNat 8 e.effWin) ∧ (JEntry.bytes e)[21]? = some 0 ∧
    leNat (((JEntry.bytes e).drop 22).take 2) = e.plen % 2 ^ 16 ∧
    leNat (((JEntry.bytes e).drop 24).take 4) = e.pcrc.toNat ∧
    leNat (((JEntry.bytes e).drop 28).take 2) = e.timeMs % 2 ^ 16 ∧ (JEntry.bytes e)[30]? = some 0 ∧
    (JEntry.bytes e)[31]? = some 0x5A) ∧
  (∀ (s : State) (k : Packet) (st fl : Nat) (c : Word) (w : Nat), ∃ e, (s.enter k st fl c w).heldEntry s.nextJseq = some e ∧
    e.jseq = s.nextJseq ∧ e.cmdSeq = k.seq ∧ e.opcode = k.opcode ∧ e.status = st ∧ e.stream = k.stream ∧ e.flags = fl ∧
    e.target = k.target ∧ e.effCycle = c ∧ e.effWin = w ∧ e.plen = k.bytes.length ∧ e.pcrc = crc32c k.bytes ∧
    e.timeMs = s.clk.plant.toNat / 1000000 % 65536 ∧
    (s.enter k st fl c w).jnl.ring.find (s.nextJseq.toNat % 16384) = some e))

/-- The cursors of the recorder and of the journal: NEXT, MARK, REWIND, a write of the cursor, and the snapshot; each
host has its own (17 R393, R394, R398). -/
def Obligations.Cursors : Prop :=
  (∀ (s : State) (h : HostId) (n e : Word), s.WritesNow h → n = (s.rcd.cur.get h).cursor + 1 → e = nextOf s.rcd.newest →
    seqDiff s.recOldest n ≤ 0 → seqDiff n e ≤ 0 →
    ∃ t, exec (.recNext h) s = .next t ∧ (t.rcd.cur.get h).cursor = n ∧ (t.rcd.cur.get h).atEnd = decide (n = e) ∧
      (t.rcd.cur.get h).copying = decide (n ≠ e) ∧ (t.rcd.cur.get h).mark = (s.rcd.cur.get h).mark ∧
      t.rcd.cur.get h.peer = s.rcd.cur.get h.peer ∧ t.rcd.ring = s.rcd.ring ∧ Unchanged [.rcd, .keep] s t) ∧
  (∀ (s : State) (h : HostId) (n e : Word), s.WritesNow h → n = (s.rcd.cur.get h).cursor + 1 → e = nextOf s.rcd.newest →
    0 < seqDiff s.recOldest n → seqDiff s.recOldest e ≤ 0 →
    ∃ t, exec (.recNext h) s = .next t ∧ (t.rcd.cur.get h).cursor = s.recOldest ∧
      t.rcd.cur.get h.peer = s.rcd.cur.get h.peer ∧ t.rcd.ring = s.rcd.ring ∧ Unchanged [.rcd, .keep] s t) ∧
  (∀ (s : State) (h : HostId), s.WritesNow h →
    ∃ t, exec (.recMark h) s = .next t ∧ (t.rcd.cur.get h).mark = (s.rcd.cur.get h).cursor ∧
      (t.rcd.cur.get h).cursor = (s.rcd.cur.get h).cursor ∧ (t.rcd.cur.get h).markValid = true ∧
      (t.rcd.cur.get h).overtaken = false ∧ t.rcd.cur.get h.peer = s.rcd.cur.get h.peer ∧ t.rcd.ring = s.rcd.ring ∧
      Unchanged [.rcd] s t) ∧
  (∀ (s : State) (h : HostId), s.WritesNow h →
    ∃ t, exec (.recRewind h) s = .next t ∧
      (t.rcd.cur.get h).cursor =
        (if (s.rcd.cur.get h).markValid = true then (s.rcd.cur.get h).mark else s.recOldest) ∧
      ((s.rcd.cur.get h).markValid = false → (t.rcd.cur.get h).lost =
        some ((s.rcd.cur.get h).lost.getD (s.recOldest - (s.rcd.cur.get h).mark))) ∧
      (t.rcd.cur.get h).mark = (s.rcd.cur.get h).mark ∧ t.rcd.cur.get h.peer = s.rcd.cur.get h.peer ∧
      t.rcd.ring = s.rcd.ring ∧ Unchanged [.rcd, .keep] s t) ∧
  (∀ (s : State) (h : HostId) (v : Word), s.WritesNow h →
    ∃ t, exec (.recCursorWrite h v) s = .next t ∧ (t.rcd.cur.get h).cursor = v ∧
      (t.rcd.cur.get h).mark = (s.rcd.cur.get h).mark ∧ t.rcd.cur.get h.peer = s.rcd.cur.get h.peer ∧
      t.rcd.ring = s.rcd.ring ∧ Unchanged [.rcd, .keep] s t) ∧
  (∀ (s : State) (h : HostId) (v : RecSlot), (s.rcd.cur.get h).copying = true →
    s.spillRecord (s.rcd.cur.get h).cursor = none → s.heldRecord (s.rcd.cur.get h).cursor = some v →
    ∃ t, exec (.recSnapshotCopy h) s = .next t ∧ (t.rcd.cur.get h).snap = v.r.bytes ∧
      (t.rcd.cur.get h).copying = false ∧ (t.rcd.cur.get h).gone = false ∧ (t.rcd.cur.get h).spillView = false ∧
      t.rcd.cur.get h.peer = s.rcd.cur.get h.peer ∧ t.rcd.ring = s.rcd.ring ∧ Unchanged [.rcd, .jnl] s t) ∧
  (∀ (s : State) (h : HostId) (e : JEntry), (s.jnl.cur.get h).copying = true →
    s.heldEntry (s.jnl.cur.get h).cursor = some e →
    ∃ t, exec (.recSnapshotCopy h) s = .next t ∧ (t.jnl.cur.get h).snap = e.bytes ∧ (t.jnl.cur.get h).copying = false ∧
      t.jnl.cur.get h.peer = s.jnl.cur.get h.peer ∧ t.jnl.ring = s.jnl.ring ∧ Unchanged [.rcd, .jnl] s t) ∧
  (∀ (s : State) (h : HostId) (n e : Word), s.WritesNow h → n = (s.jnl.cur.get h).cursor + 1 → e = nextOf s.jnl.newest →
    seqDiff s.jnlOldest n ≤ 0 → seqDiff n e ≤ 0 →
    ∃ t, exec (.jnlNext h) s = .next t ∧ (t.jnl.cur.get h).cursor = n ∧ (t.jnl.cur.get h).atEnd = decide (n = e) ∧
      (t.jnl.cur.get h).copying = decide (n ≠ e) ∧ t.jnl.cur.get h.peer = s.jnl.cur.get h.peer ∧
      t.jnl.ring = s.jnl.ring ∧ Unchanged [.jnl, .keep] s t) ∧
  (∀ (s : State) (h : HostId), s.WritesNow h →
    ∃ t, exec (.jnlMark h) s = .next t ∧ (t.jnl.cur.get h).mark = (s.jnl.cur.get h).cursor ∧
      (t.jnl.cur.get h).markValid = true ∧ t.jnl.cur.get h.peer = s.jnl.cur.get h.peer ∧ t.jnl.ring = s.jnl.ring ∧
      Unchanged [.jnl] s t) ∧
  (∀ (s : State) (h : HostId), s.WritesNow h →
    ∃ t, exec (.jnlRewind h) s = .next t ∧
      (t.jnl.cur.get h).cursor =
        (if (s.jnl.cur.get h).markValid = true then (s.jnl.cur.get h).mark else s.jnlOldest) ∧
      t.jnl.cur.get h.peer = s.jnl.cur.get h.peer ∧ t.jnl.ring = s.jnl.ring ∧ Unchanged [.jnl, .keep] s t) ∧
  (∀ (s : State) (h : HostId) (v : Word), s.WritesNow h →
    ∃ t, exec (.jnlCursorWrite h v) s = .next t ∧ (t.jnl.cur.get h).cursor = v ∧
      t.jnl.cur.get h.peer = s.jnl.cur.get h.peer ∧ t.jnl.ring = s.jnl.ring ∧ Unchanged [.jnl, .keep] s t)

/-- Feeds and their ORing pairs (18 R402-R406, R420, R423): what each event does to a feed, and that the hot-swap
machine stands otherwise as it did. -/
def Obligations.Feeds : Prop :=
  (∀ (s : State) (f : Feed) (ok : Bool), s.keep.feedsLost = false →
    ∃ t, exec (.feedStateChange f ok) s = .next t ∧ t.pwr.feed f = { s.pwr.feed f with ok := ok } ∧ t.pwr.hs = s.pwr.hs ∧
      Unchanged [.pwr] s t) ∧
  (∀ (s : State) (f : Feed), s.keep.feedsLost = true → s.pwr2.powered = true → s.pwr.present = true → s.pwr.hs = .off →
    ∃ t, exec (.feedStateChange f true) s = .next t ∧ t.pwr.feed f = { s.pwr.feed f with ok := true } ∧ t.pwr.hs = .start ∧
      t.keep = { s.keep with feedsLost := false }.queueMove .p .lineRead 1 3 ∧ Unchanged [.pwr, .keep] s t) ∧
  (∀ (s : State) (f : Feed), (s.pwr.feed f).ok = true → (s.pwr.feed f).ov = false → s.pwr.present = true →
    s.pwr.hs ≠ .off → s.pwr.hs ≠ .fetFault →
    ∃ t, exec (.oringClose f) s = .next t ∧ t.pwr.feed f = { s.pwr.feed f with on := true } ∧
      t.pwr.hs = (if s.pwr.hs = .start ∧ s.pwr.ready = true then .ramp else s.pwr.hs) ∧ Unchanged [.pwr] s t) ∧
  (∀ (s : State) (f : Feed) (mv : BitVec 16), (s.pwr.feed f).on = true →
    ∃ t, exec (.reverseTurnOff f mv) s = .next t ∧
      t.pwr.feed f = { s.pwr.feed f with on := false, revs := min 65535 ((s.pwr.feed f).revs + 1) } ∧
      t.pwr.hs = s.pwr.hs ∧ t.pwr2.flags = s.pwr2.flags ||| 4 ∧
      (s.link.up = true → s.dev.mode ≠ .insert → s.dev.mode ≠ .latched → s.dev.mode ≠ .sleep →
        t.irq.pend.getLsbD 150 = true) ∧ Unchanged [.pwr, .pwr2, .irq, .kept, .rcd, .hosts, .out] s t) ∧
  (∀ (s : State) (f : Feed), (s.pwr.feed f).on = false → ∀ mv,
    ∃ t, exec (.reverseTurnOff f mv) s = .next t ∧ Unchanged [.irq, .hosts, .out] s t) ∧
  (∀ (s : State) (f : Feed),
    ∃ t, exec (.feedOvervoltage f) s = .next t ∧ t.pwr.feed f = { s.pwr.feed f with on := false, ov := true } ∧
      t.pwr.hs = s.pwr.hs ∧ Unchanged [.pwr] s t) ∧
  (∀ (s : State) (f : Feed), (s.pwr.feed f).ov = true →
    ∃ t, exec (.overvoltageReclose f) s = .next t ∧
      t.pwr.feed f = { s.pwr.feed f with ov := false, on := decide (s.pwr.present = true ∧ s.pwr.hs ≠ .fetFault ∧
        s.pwr.hs ≠ .off) } ∧
      t.pwr.hs = (if s.pwr.present = true ∧ s.pwr.hs = .start ∧ s.pwr.ready = true then .ramp else s.pwr.hs) ∧
      Unchanged [.pwr] s t) ∧
  (∀ (s : State) (f : Feed) (w : Bool) (mv : BitVec 16),
    ∃ t, exec (.feedWarn f w mv) s = .next t ∧ t.pwr.feed f = { s.pwr.feed f with warn := w } ∧ t.pwr.hs = s.pwr.hs ∧
      t.pwr2.flags = (if w = true ∧ (s.pwr.feed f).warn = false then s.pwr2.flags ||| BitVec.ofNat 32 (2 ^ feedNum f)
        else s.pwr2.flags) ∧
      (w = true → (s.pwr.feed f).warn = false → s.link.up = true → s.dev.mode ≠ .insert → s.dev.mode ≠ .latched →
        s.dev.mode ≠ .sleep → t.irq.pend.getLsbD (143 + feedNum f) = true) ∧
      Unchanged [.pwr, .pwr2, .irq, .kept, .rcd, .hosts, .out] s t) ∧
  (∀ s : State, s.pwr.feedA.ok = false → s.pwr.feedB.ok = false → s.pwr.hs ≠ .off →
    ∃ t, exec .bothFeedsLost s = .next t ∧ t.pwr.hs = (if s.pwr.hs = .fetFault then .fetFault else .off) ∧
      t.pwr.feedA.on = false ∧ t.pwr.feedB.on = false ∧ t.pwr.count = s.pwr.count ∧ t.pwr.pgood = false ∧
      t.pwr.rfcArmed = s.pwr.rfcArmed ∧ t.keep.feedsLost = true ∧ t.keep.regs = s.keep.regs ∧ t.rcd.spill = [] ∧
      t.mgt.spillAt = 0 ∧ t.dev.mode = (if s.pwr.hs = .fetFault then .latched else .insert))

/-- The hot-swap machine (18 R407-R422): start, ramp, power good, trips with their count and latch, retry, removal,
and what a shorted FET does. Felt: each pole moves towards its target, the junction temperature is their sum above
the reference, which is TSENSE where a fitted NTC reads above T_AMB; above FELT_TRIP, and with TSENSE above TS_TRIP, the
machine trips (18 R413, R414, R425). Of the causes of one tick the lowest code is recorded; the trip comes before a clearing of the
count and before a release of the same tick (18 R421). -/
def Obligations.HotSwapAndFelt : Prop :=
  (
  (∀ s : State, s.pwr.hs = .off → (s.pwr.feedA.ok = true ∨ s.pwr.feedB.ok = true) →
    ∃ t, exec .powerDieStart s = .next t ∧ t.pwr.hs = .start ∧ t.pwr.present = true ∧ t.pwr2.powered = true ∧
      t.dev.mode = .insert ∧ t.link.amioc = false ∧ t.keep.regs = s.keep.regs) ∧
  (∀ (s : State) (c a : Bool), s.pwr.hs = .start →
    ∃ t, exec (.hsStartReadsDone c a false) s = .next t ∧ t.pwr.count = 0 ∧ t.pwr.rfcSeen = false ∧
      t.pwr.limits = (if c = true then s.keep.reg 0x100 else 0x030C01F4) ∧
      (∀ i, 0x101 ≤ i → i ≤ 0x107 → t.pwr.setting i = if c = true then s.keep.reg i else factoryReg i) ∧
      t.pwr.hs = (if s.pwr.feedA.on = true ∨ s.pwr.feedB.on = true then .ramp else .start) ∧ t.dev = s.dev) ∧
  (∀ (s : State) (c a : Bool) (l : Option StateLine) (most n : Nat), s.pwr.hs = .start →
    l = (if a = true then s.keep.stateLine else none) →
    most = bits (if c = true then s.keep.reg 0x100 else 0x030C01F4#32) 26 24 →
    n = (match l with | some x => x.count | none => most) →
    ∃ t, exec (.hsStartReadsDone c a true) s = .next t ∧ t.pwr.count = n ∧ t.pwr.elapsed = true ∧ t.pwr.rfcArmed = decide (n ≠ 0) ∧
      t.pwr.line = l.getD {} ∧ t.pwr2.dt1 = 0 ∧ t.pwr2.tj = t.feltTrip ∧
      t.pwr.hs = (if most ≤ n ∨ (∃ x, l = some x ∧ x.latched = true) then .latched else .cool) ∧
      t.dev.mode = (if t.pwr.hs = .latched then .latched else .insert)) ∧
  (∀ (s : State) (mv : BitVec 16), s.pwr.present = true → s.pwr.hs = .ramp →
    ∃ t, exec (.pgoodAssert mv) s = .next t ∧ t.pwr.hs = .on ∧ t.pwr.pgood = true ∧ t.dev.mode = .boot ∧
      t.dev.prevMode = .insert ∧ t.dev.resetCause = 0 ∧ t.run.diLatch = s.fld.filtered.toNat % 8 ∧
      t.run.diDue = decide (s.fld.samples < 500) ∧ t.keep.regs = s.keep.regs) ∧
  (∀ (s : State) (mv : BitVec 16), s.pwr.present = true → s.pwr.hs = .on → s.pwr.pgood = false →
    ∃ t, exec (.pgoodAssert mv) s = .next t ∧ t.pwr = { s.pwr with pgood := true } ∧
      Unchanged [.pwr, .irq, .kept, .rcd, .hosts, .out] s t) ∧
  (∀ (s : State) (v : Bool) (mv : BitVec 16), s.pwr.present = true → s.pwr.hs = .on → s.pwr.pgood = true →
    ∃ t, exec (.pgoodDeassert v mv) s = .next t ∧ t.pwr = { s.pwr with pgood := false } ∧
      t.pwr2.flags = s.pwr2.flags ||| 0x20 ∧ Unchanged [.pwr, .pwr2, .irq, .kept, .rcd, .hosts, .out] s t) ∧
  (∀ (s : State) (i : Instr) (a b : BitVec 16) (c n : Nat), s.pwr.present = true →
    ((i = .pgLost a ∧ c = 5 ∧ s.pwr.hs = .on ∧ s.pwr.pgood = false) ∨ (i = .rampTimeout a b ∧ c = 6 ∧ s.pwr.hs = .ramp) ∨
      (i = .fastTrip a ∧ c = 2 ∧ (s.pwr.hs = .ramp ∨ s.pwr.hs = .on))) →
    ((s.pwr2.cleared.all fun x => !s.pwr2.thisTick x.1) = true ∧ n = s.pwr.count ∨
      ∃ x, s.pwr2.cleared = some x ∧ s.pwr2.thisTick x.1 = true ∧ n = x.2.1) →
    ∃ t, exec i s = .next t ∧ t.pwr.cause = c ∧ t.pwr.pgood = false ∧ t.pwr.limiting = false ∧
      t.pwr2.tripAt = some s.pwr2.osc ∧ t.pwr.line.trips = min 0xFFFFFFFF (s.pwr.line.trips + 1) ∧
      t.pwr.line.cause = c ∧ 145 ∈ t.pwr2.unreported ∧ (bits s.pwr.limits 26 24 ≤ n → 148 ∈ t.pwr2.unreported) ∧
      t.keep.regs = s.keep.regs ∧
      ((s.pwr2.released.all fun x => !s.pwr2.thisTick x) = true →
        t.pwr.hs = (if n < bits s.pwr.limits 26 24 then .cool else .latched) ∧
        t.dev.mode = (if n < bits s.pwr.limits 26 24 then .insert else .latched) ∧ t.pwr.count = n ∧
        t.pwr.rfcArmed = true ∧ t.pwr.elapsed = false ∧ t.pwr.line.count = n ∧ t.pwr.line.seq = s.pwr.line.seq + 1 ∧
        t.pwr.line.latched = decide (bits s.pwr.limits 26 24 ≤ n)) ∧
      ((∃ x, s.pwr2.released = some x ∧ s.pwr2.thisTick x = true) →
        t.pwr.hs = .cool ∧ t.dev.mode = .insert ∧ t.pwr.count = 0 ∧ t.pwr.rfcArmed = false ∧ t.pwr.elapsed = true)) ∧
  (∀ (s : State) (a : BitVec 16) (x : Nat), s.pwr.present = true → (s.pwr.hs = .cool ∨ s.pwr.hs = .latched) → 2 < s.pwr.cause →
    s.pwr2.tripAt = some x → s.pwr2.thisTick x = true →
    ∃ t, exec (.fastTrip a) s = .next t ∧ t.pwr.cause = 2 ∧ t.pwr.line.cause = 2 ∧ t.pwr.hs = s.pwr.hs ∧
      t.pwr.count = s.pwr.count ∧ Unchanged [.pwr, .keep, .rcd, .irq, .hosts, .out] s t) ∧
  (∀ s : State, s.pwr.present = true → s.pwr.hs = .on → s.pwr.pgood = true →
    ∃ t, exec .pgoodHeld60s s = .next t ∧ t.pwr.count = 0 ∧ t.pwr.rfcArmed = false ∧ t.pwr.hs = .on ∧
      t.pwr2 = { s.pwr2 with cleared := some (s.pwr2.osc, s.pwr.count, s.pwr.rfcArmed) } ∧
      Unchanged [.pwr, .pwr2, .keep] s t) ∧
  (∀ s : State, s.pwr.present = true → s.pwr.hs = .on → s.pwr.limiting = false →
    ∃ t, exec .currentLimitEngage s = .next t ∧ t.pwr = { s.pwr with limiting := true } ∧
      t.pwr2.limitEvents = min 65535 (s.pwr2.limitEvents + 1) ∧ t.pwr2.flags = s.pwr2.flags ||| 0x10 ∧
      Unchanged [.pwr, .pwr2] s t) ∧
  (∀ s : State, exec .currentLimitEnd s = .next { s with pwr := { s.pwr with limiting := false } }) ∧
  (∀ (s : State) (i : Instr) (a : BitVec 16),
    ((i = .backupTrip a ∧ (s.pwr.hs = .cool ∨ s.pwr.hs = .latched) ∧ s.pwr.cause = 2) ∨
      (i = .fetShort a ∧ (s.pwr.hs = .cool ∨ s.pwr.hs = .latched ∨ s.pwr.hs = .start))) →
    ∃ t, exec i s = .next t ∧ t.pwr.hs = .fetFault ∧ t.pwr.cause = 1 ∧ t.pwr.feedA.on = false ∧ t.pwr.feedB.on = false ∧
      t.dev.mode = .latched ∧ 145 ∈ t.pwr2.unreported ∧ 146 ∈ t.pwr2.unreported ∧ t.keep.regs = s.keep.regs ∧
      t.pwr.line.seq = s.pwr.line.seq + 1 ∧ t.pwr.line.cause = 1 ∧
      t.pwr.line.trips = (if i = .fetShort a then min 0xFFFFFFFF (s.pwr.line.trips + 1) else s.pwr.line.trips) ∧
      t.pwr.rfcArmed = (s.pwr.rfcArmed || decide (i = .fetShort a))) ∧
  (∀ s : State, s.pwr.hs = .cool → s.pwr.present = true → s.pwr2.tj ≤ s.feltCool →
    (s.tsMode = true → s.pwr.tsFault = false → s.pwr2.tsense ≤ s.tsTrip - 100) →
    (s.pwr.elapsed = true ∨ ∃ x, s.pwr2.tripAt = some x ∧ x + 200000000 * 2 ^ s.pwr.count ≤ s.pwr2.osc) →
    ∃ t, exec .retryStart s = .next t ∧ t.pwr.hs = .ramp ∧ t.pwr.count = s.pwr.count + 1 ∧ t.pwr.rfcArmed = true ∧
      t.pwr.line.count = s.pwr.count + 1 ∧ t.pwr.line.seq = s.pwr.line.seq + 1 ∧ Unchanged [.pwr, .keep] s t) ∧
  (∀ s : State, s.pwr.hs = .cool →
    (s.feltCool < s.pwr2.tj ∨ (s.tsMode = true ∧ s.pwr.tsFault = false ∧ s.tsTrip - 100 < s.pwr2.tsense) ∨
      (s.pwr.elapsed = false ∧ ∀ x, s.pwr2.tripAt = some x → s.pwr2.osc < x + 200000000 * 2 ^ s.pwr.count)) →
    exec .retryStart s = .next s) ∧
  (∀ s : State, ∃ t, exec .moduleRemoval s = .next t ∧ t.pwr.present = false ∧ t.pwr.feedA.on = false ∧
    t.pwr.feedB.on = false ∧ t.pwr.pgood = false ∧ t.pwr.hs = s.pwr.hs ∧ t.pwr.count = s.pwr.count ∧
    t.dev.mode = (if s.pwr.hs = .latched ∨ s.pwr.hs = .fetFault then .latched else .insert) ∧
    t.keep.regs = s.keep.regs) ∧
  (∀ s : State, ∃ t, exec .powerDiePowerLoss s = .next t ∧ t.pwr.hs = .off ∧ t.pwr.rfcArmed = false ∧ t.pwr.count = 0 ∧
    t.pwr2.powered = false ∧ t.dev.mode = .insert ∧ t.rcd.spill = [] ∧ t.keep.regs = s.keep.regs ∧
    t.keep.stateLine = s.keep.stateLine)) ∧
  (
  (∀ (dt : Int) (p r n : Nat), 0 < n →
    (dt ≤ ((p * r : Nat) : Int) * 2 ^ 32 / 10000 → dt ≤ feltPole dt p r n ∧ feltPole dt p r n ≤ ((p * r : Nat) : Int) * 2 ^ 32 / 10000)) ∧
  (∀ (s : State) (w : BitVec 32) (ts : BitVec 16) (o : Bool),
    (s.pwr.present = false ∨ (s.pwr.hs ≠ .ramp ∧ s.pwr.hs ≠ .on)) → (s.pwr2.tripAt.all fun x => !s.pwr2.thisTick x) = true →
    ∃ t, exec (.feltUpdate w ts o) s = .next t ∧ t.pwr2.tsense = ts.toInt ∧
      t.pwr2.dt1 = feltPole s.pwr2.dt1 0 (bits (s.pwr.setting 0x104) 15 0) (bits (s.pwr.setting 0x104) 31 16) ∧
      t.pwr2.dt2 = feltPole s.pwr2.dt2 0 (bits (s.pwr.setting 0x105) 15 0) (1000 * bits (s.pwr.setting 0x105) 31 16) ∧
      t.pwr = { s.pwr with tsFault := o } ∧ t.dev = s.dev ∧
      Unchanged [.pwr, .pwr2, .irq, .kept, .rcd, .hosts, .out] s t) ∧
  (∀ (s : State) (w : BitVec 32) (ts : BitVec 16) (o : Bool) (ref tj : Int), s.pwr.present = true →
    (s.pwr.hs = .ramp ∨ s.pwr.hs = .on) →
    ref = (if s.tsMode = true ∧ o = false then max s.tAmb ts.toInt else s.tAmb) →
    tj = ref + (feltPole s.pwr2.dt1 w.toNat (bits (s.pwr.setting 0x104) 15 0) (bits (s.pwr.setting 0x104) 31 16) +
      feltPole s.pwr2.dt2 w.toNat (bits (s.pwr.setting 0x105) 15 0) (1000 * bits (s.pwr.setting 0x105) 31 16)) / 2 ^ 32 →
    ∃ t, exec (.feltUpdate w ts o) s = .next t ∧ t.pwr2.tj = tj ∧ t.pwr2.tsense = ts.toInt ∧ t.pwr.tsFault = o ∧
      (o = true → s.pwr.tsFault = false → t.pwr2.flags.getLsbD 6 = true) ∧
      (s.feltWarn ≤ tj → s.pwr2.hot = false → t.pwr2.flags.getLsbD 3 = true) ∧
      (if s.tsMode = true ∧ o = false ∧ s.tsTrip ≤ ts.toInt then
        (t.pwr.hs = .cool ∨ t.pwr.hs = .latched) ∧ t.pwr.cause = 3 ∧ t.pwr.line.cause = 3
      else if s.feltTrip ≤ tj then
        (t.pwr.hs = .cool ∨ t.pwr.hs = .latched) ∧ t.pwr.cause = 4 ∧ t.pwr.line.cause = 4 ∧ t.pwr.line.tj = tj
      else t.pwr.hs = s.pwr.hs ∧ t.pwr.cause = s.pwr.cause ∧ t.dev = s.dev)))

/-- Field inputs, outputs and the field supply (19 R430-R437): each filter counts up and down to its length, an
output that trips latches off and tells why, and the supply's states follow its thresholds. Amioc's sensors (19
R439): a conversion is shown whole, the sense current is that of the closed ORing pairs, in proportion to their forward
drops (what is rounded, and a feed whose pair is open, are the model's choice: log entry 156), a threshold is reported once until the reading has fallen 5 degrees below it, and
a rail is outside at 5 % from its nominal value. -/
def Obligations.FieldAndSensors : Prop :=
  (
  (∀ (s : State) (raw : BitVec 8),
    ∃ t, exec (.diSample raw) s = .next t ∧
      (∀ i, i < 8 → (t.fld.input i).filter = (s.fld.input i).filter ∧ (t.fld.input i).raw = raw.getLsbD i ∧
        ((s.fld.input i).filter = 0 → (t.fld.input i).state = raw.getLsbD i) ∧
        ((s.fld.input i).filter ≠ 0 →
          (t.fld.input i).count = (if raw.getLsbD i then min (s.fld.input i).filter ((s.fld.input i).count + 1)
            else (s.fld.input i).count - 1) ∧
          (t.fld.input i).state = (if (t.fld.input i).count = (s.fld.input i).filter then true
            else if (t.fld.input i).count = 0 then false else (s.fld.input i).state))) ∧
      t.fld.frameDi = (if s.link.up = true then t.fld.filtered else s.fld.frameDi) ∧
      (s.link.up = true → t.fld.filtered ≠ s.fld.frameDi → s.dev.mode ≠ .insert → s.dev.mode ≠ .latched →
        s.dev.mode ≠ .sleep → t.irq.pend.getLsbD 151 = true) ∧
      t.fld.dos = s.fld.dos ∧ t.fld.state = s.fld.state ∧ t.fld.flags = s.fld.flags ∧ (s.run.diDue = false → t.run = s.run) ∧
      Unchanged [.fld, .run, .irq, .kept, .hosts, .out] s t) ∧
  (∀ (s : State) (o : Fin 4) (i : Instr) (a : BitVec 16) (c : Nat),
    ((i = .doLimitTimeout o a ∧ c = 1 ∧ s.fld.state ≠ .uv) ∨ (i = .doFaultLatch o .thermal a ∧ c = 2) ∨
      (i = .doFaultLatch o .reverse a ∧ c = 3)) →
    (s.fld.output o.val).held = true → (s.fld.output o.val).fault = false →
    ∃ t, exec i s = .next t ∧ t.fld.output o.val = { s.fld.output o.val with fault := true, cause := c } ∧
      t.outOn o.val = false ∧ (∀ q, q ≠ o.val → t.fld.output q = s.fld.output q) ∧ t.fld.flags = s.fld.flags ||| 1 ∧
      t.fld.di = s.fld.di ∧ t.fld.state = s.fld.state ∧
      (s.link.up = true → s.dev.mode ≠ .insert → s.dev.mode ≠ .latched → s.dev.mode ≠ .sleep →
        t.irq.pend.getLsbD 152 = true) ∧
      Unchanged [.fld, .irq, .kept, .rcd, .hosts, .out] s t) ∧
  (∀ (s : State) (o : Fin 4) (mv : BitVec 16), (s.fld.output o.val).held = false → (s.fld.output o.val).ext = false →
    ∃ t, exec (.extDriveDetect o mv) s = .next t ∧ t.fld.output o.val = { s.fld.output o.val with ext := true } ∧
      (∀ q, q ≠ o.val → t.fld.output q = s.fld.output q) ∧ t.fld.flags = s.fld.flags ||| 2 ∧ t.fld.state = s.fld.state ∧
      (s.link.up = true → s.dev.mode ≠ .insert → s.dev.mode ≠ .latched → s.dev.mode ≠ .sleep →
        t.irq.pend.getLsbD 155 = true) ∧
      Unchanged [.fld, .irq, .kept, .rcd, .hosts, .out] s t) ∧
  (∀ (s : State) (o : Fin 4),
    ∃ t, exec (.extDriveClear o) s = .next t ∧ t.fld.output o.val = { s.fld.output o.val with ext := false } ∧
      (∀ q, q ≠ o.val → t.fld.output q = s.fld.output q) ∧ t.fld.flags = s.fld.flags ∧ Unchanged [.fld] s t) ∧
  (∀ (s : State) (mv : BitVec 16), s.fld.state = .normal →
    ∃ t, exec (.fldLowEntry mv) s = .next t ∧ t.fld = { s.fld with state := .low, low := true, volts := mv.toNat / 10,
                                                                   flags := s.fld.flags ||| 4 } ∧
      (s.link.up = true → s.dev.mode ≠ .insert → s.dev.mode ≠ .latched → s.dev.mode ≠ .sleep →
        t.irq.pend.getLsbD 153 = true) ∧
      Unchanged [.fld, .irq, .kept, .rcd, .hosts, .out] s t) ∧
  (∀ s : State, exec .fldLowExit s = .next { s with fld := { s.fld with
    state := if s.fld.state = .low then .normal else s.fld.state, low := false } }) ∧
  (∀ (s : State) (mv : BitVec 16), s.fld.state ≠ .uv →
    ∃ t, exec (.fldUvEntry mv) s = .next t ∧ t.fld = { s.fld with state := .uv, volts := mv.toNat / 10,
                                                                  flags := s.fld.flags ||| 8 } ∧
      (∀ o, t.outOn o = false) ∧
      (s.link.up = true → s.dev.mode ≠ .insert → s.dev.mode ≠ .latched → s.dev.mode ≠ .sleep →
        t.irq.pend.getLsbD 154 = true) ∧
      Unchanged [.fld, .irq, .kept, .rcd, .hosts, .out] s t) ∧
  (∀ s : State, s.fld.state = .uv →
    ∃ t, exec .fldAutoRestore s = .next t ∧
      t.fld = (if s.fld.autoRestore = true then { s.fld with state := .normal, low := false } else s.fld) ∧
      Unchanged [.fld, .rcd] s t)) ∧
  (
  (∀ (s : State) (r : Sensors),
    ∃ t, exec (.sensorConversion r) s = .next t ∧ t.mgt.sens = r ∧ t.fld.volts = r.fldV.toNat ∧
      (s.pwr.feedA.on = false → t.mgt.ifeedA = 0) ∧ (s.pwr.feedB.on = false → t.mgt.ifeedB = 0) ∧
      ((s.pwr.feedA.on = true ∨ s.pwr.feedB.on = true) → t.mgt.ifeedA + t.mgt.ifeedB = r.iout.toNat) ∧
      (s.pwr.feedA.on = true → s.pwr.feedB.on = true → 0 < r.dropA.toNat + r.dropB.toNat →
        t.mgt.ifeedA = r.iout.toNat * r.dropA.toNat / (r.dropA.toNat + r.dropB.toNat)) ∧
      (∀ i, i < 8 →
        (i ∈ t.mgt.warn ↔ if i ∈ s.mgt.warn then (t.sensor i).2.1 - 50 < (t.sensor i).1
          else (t.sensor i).2.1 ≤ (t.sensor i).1) ∧
        (i ∈ t.mgt.crit ↔ if i ∈ s.mgt.crit then (t.sensor i).2.2 - 50 < (t.sensor i).1
          else (t.sensor i).2.2 ≤ (t.sensor i).1)) ∧
      (∀ i, i < 12 → (i ∈ t.mgt.railOut ↔ railOutside (railNominal.getD i 0) (r.rails.getD i 0).toNat = true)) ∧
      (∀ i, i < 8 → i ∈ t.mgt.warn → i ∉ s.mgt.warn → t.fld.flags.getLsbD 4 = true) ∧
      (∀ i, i < 8 → i ∈ t.mgt.crit → i ∉ s.mgt.crit → t.fld.flags.getLsbD 5 = true) ∧
      (∀ i, i < 12 → i ∈ t.mgt.railOut → i ∉ s.mgt.railOut → t.fld.flags.getLsbD 6 = true) ∧
      t.fld.di = s.fld.di ∧ t.fld.dos = s.fld.dos ∧ t.fld.state = s.fld.state ∧
      Unchanged [.mgt, .fld, .irq, .kept, .rcd, .hosts, .out] s t))

/-- The management port and the console (19 R440, R441, 16 R367): while Amioc is being cut over the port answers no
command and the console gives none; otherwise each command does what it does, and a write whose PEC fails is ignored and
counted. A submitted packet is executed as its command row is while the frame die takes commands; without service firmware Amioc answers.
What a packet of more than 4 KiB, an empty or too long write, a buffer of another length than its packet's and a submission over a
link that is down are answered with is the model's own choice (log entry 28). -/
def Obligations.ManagementPort : Prop :=
  (∀ (s : State) (i : Instr) (b : List Byte), (i = .smbusStatus ∨ (∃ p d, i = .hsRelease p d) ∨ i = .spillRead ∨
      (∃ p, i = .pktWrite p b) ∨ (∃ p, i = .smbusWake p) ∨ (∃ p, i = .pktSubmit p) ∨ i = .pktRead) → s.pwr2.powered = true → (s.part 2).cutover.isSome = true →
    ∃ t, exec i s = .next t ∧ (∃ l, t.out = l ++ .nack :: s.out) ∧ Unchanged [.out, .irq, .hosts] s t) ∧
  (∀ (s : State) (i : Instr), (i = .uartStatus ∨ i = .uartRelease ∨ i = .uartSpill ∨ i = .uartWake) → s.portAnswers = false →
    exec i s = .next s) ∧
  (∀ (s : State) (i : Instr), ((∃ d, i = .hsRelease false d) ∨ (∃ b, i = .pktWrite false b) ∨ i = .smbusWake false ∨
      i = .pktSubmit false) → s.portAnswers = true →
    ∃ t, exec i s = .next t ∧ t.mgt = { s.mgt with pec := min 65535 (s.mgt.pec + 1) } ∧
      Unchanged [.mgt, .irq, .hosts, .out] s t) ∧
  (∀ (s : State) (i : Instr), (i = .smbusStatus ∨ i = .uartStatus) → s.portAnswers = true →
    ∃ t, exec i s = .next t ∧ t.pwr2 = { s.pwr2 with alert := false } ∧ t.mgt = { s.mgt with alert := false } ∧
      t.out = .status s.statusValues :: s.out ∧ Unchanged [.pwr2, .mgt, .out] s t) ∧
  (∀ (s : State) (i : Instr), (i = .hsRelease true 0xA5 ∨ i = .uartRelease) → s.portAnswers = true →
    s.fld.filtered.getLsbD 4 = true → (s.pwr.hs = .latched ∨ s.pwr.hs = .cool) →
    ∃ t, exec i s = .next t ∧ t.pwr.hs = .cool ∧ t.pwr.elapsed = true ∧ t.pwr.count = 0 ∧ t.pwr.rfcArmed = false ∧
      t.dev = { s.dev with mode := .insert } ∧ Unchanged [.pwr, .keep, .dev] s t) ∧
  (∀ (s : State) (i : Instr), (i = .hsRelease true 0xA5 ∨ i = .uartRelease) → s.portAnswers = true →
    s.fld.filtered.getLsbD 4 = true → s.pwr.hs ≠ .latched → s.pwr.hs ≠ .cool →
    ∃ t, exec i s = .next t ∧ t.pwr2 = { s.pwr2 with released := some s.pwr2.osc } ∧ Unchanged [.pwr2] s t) ∧
  (∀ (s : State) (d : Byte), s.portAnswers = true → (s.fld.filtered.getLsbD 4 = false ∨ d ≠ 0xA5) →
    exec (.hsRelease true d) s = .next { s with out := .nack :: s.out }) ∧
  (∀ s : State, s.portAnswers = true → s.fld.filtered.getLsbD 4 = false → exec .uartRelease s = .next s) ∧
  (∀ (s : State) (i : Instr) (v : RecSlot), (i = .spillRead ∨ i = .uartSpill) → s.portAnswers = true →
    s.rcd.spillOrder[s.mgt.spillAt]? = some v →
    ∃ t, exec i s = .next t ∧ t.out = .mgmt v.r.bytes :: s.out ∧ t.mgt.spillAt = s.mgt.spillAt + 1 ∧ t.rcd = s.rcd ∧
      Unchanged [.mgt, .out] s t) ∧
  (∀ s : State, s.rcd.spill.length = 64 → 1 ≤ s.rcd.spillNext → s.rcd.spillNext < 64 →
    s.rcd.spillOrder.length = 64 ∧ s.rcd.spillOrder[0]? = s.rcd.spill[0]? ∧
    s.rcd.spillOrder[1]? = s.rcd.spill[s.rcd.spillNext]?) ∧
  (∀ (s : State) (b : List Byte), s.portAnswers = true → 0 < b.length → b.length ≤ 255 →
    s.mgt.req.length + b.length ≤ 4096 →
    ∃ t, exec (.pktWrite true b) s = .next t ∧ t.mgt = { s.mgt with req := s.mgt.req ++ b } ∧ Unchanged [.mgt] s t) ∧
  (∀ (s : State) (b : List Byte), s.portAnswers = true → (b = [] ∨ 255 < b.length ∨ 4096 < s.mgt.req.length + b.length) →
    exec (.pktWrite true b) s = .next { s with out := .nack :: s.out }) ∧
  (∀ s : State, s.portAnswers = true → s.run.svc = true → s.link.up = false →
    ∃ t, exec (.pktSubmit true) s = .next t ∧ (∃ l, t.out = l ++ .nack :: s.out) ∧ Unchanged [.out, .irq, .hosts] s t) ∧
  (∀ (s : State) (k : Packet) (i : Instr), s.portAnswers = true → k = s.bufferPacket → s.run.svc = true → s.link.up = true →
    s.link.askIn = [] → s.link.mailIn = [] → s.mayTake k = true → s.waitsBefore k = false → i.packet = some k →
    ∃ t, exec (.pktSubmit true) s = .next t ∧
      exec i { s with mgt := { s.mgt with req := [], packets := min 65535 (s.mgt.packets + 1) } } = .next t) ∧
  (∀ (s : State) (k : Packet), s.portAnswers = true → k = s.bufferPacket → s.run.svc = true → s.link.up = true →
    s.link.askIn = [] → s.link.mailIn = [] → s.link.askOut = [] → s.link.mailOut = [] → s.mayTake k = true →
    s.mgt.req.length ≠ 16 + wordsPlen (bytesWords 1024 s.mgt.req) →
    ∃ t, exec (.pktSubmit true) s = .next t ∧ t.mgt.req = [] ∧ t.mgt.packets = min 65535 (s.mgt.packets + 1) ∧
      t.mgt.replies = s.mgt.replies ++ [(wordsBytes (Reply.words (Reply.mk .mgmt k.path k.opcode 0x0101 k.seq 0xFFFF []
        false 0))).take 16] ∧
      Unchanged [.mgt, .cmds, .irq, .hosts, .out] s t) ∧
  (∀ (s : State) (k : Packet), s.portAnswers = true → s.run.svc = false → k = s.bufferPacket → (opClass k.opcode).isSome = true →
    s.mgt.req.length ≠ 16 + wordsPlen (bytesWords 1024 s.mgt.req) →
    ∃ t, exec (.pktSubmit true) s = .next t ∧ t.mgt.req = [] ∧ t.mgt.packets = min 65535 (s.mgt.packets + 1) ∧
      t.mgt.replies = s.mgt.replies ++ [(wordsBytes (Reply.words (Reply.mk .mgmt k.path k.opcode 0x0101 k.seq 0xFFFF []
        false 0))).take 16] ∧
      t.mgt.alert = true ∧ Unchanged [.mgt, .cmds, .irq, .hosts, .out] s t) ∧
  (∀ (s : State) (k : Packet), s.portAnswers = true → s.run.svc = false → k = s.bufferPacket → k.bad = 0 →
    k.badPart2 = false → s.amiocRun k = none →
    ∃ t, exec (.pktSubmit true) s = .next t ∧ t.mgt.req = [] ∧ t.mgt.packets = min 65535 (s.mgt.packets + 1) ∧
      t.mgt.replies = s.mgt.replies ++ [(wordsBytes (Reply.words (Reply.mk .mgmt k.path k.opcode stBusy k.seq 0xFFFF []
        false 0))).take 16] ∧
      t.mgt.alert = true ∧ Unchanged [.mgt, .cmds, .irq, .hosts, .out] s t) ∧
  (∀ s : State, s.portAnswers = true → s.run.svc = true → s.link.up = true → s.canTake .mgmt = false →
    ∃ t, exec (.pktSubmit true) s = .next t ∧ t.mgt.req = [] ∧ t.link.askIn = s.link.askIn ++ [s.bufferPacket] ∧
      Unchanged [.mgt, .link, .irq, .hosts, .out] s t) ∧
  (∀ (s : State) (r : List Byte) (rs : List (List Byte)), s.portAnswers = true → s.mgt.replies = r :: rs →
    ∃ t, exec .pktRead s = .next t ∧ t.out = .mgmt (r.take 255) :: s.out ∧
      t.mgt.replies = (if r.length ≤ 255 then rs else r.drop 255 :: rs) ∧
      t.mgt.alert = (s.mgt.alert && !t.mgt.replies.isEmpty) ∧ Unchanged [.mgt, .out] s t)

/-- The state right after reset (01 R458, 02 R55, 04 R80, 11 R264, 12 R285, 14 R311, 15 R333): BOOT is entered with
cause 0 and nothing yet started, message memory reads zero, and nothing waits; an idle tick before any domain is
powered moves the power die's oscillator alone (log entry 1). Values that the spec does not give are the model's (log entry 2) and stand in
no clause. -/
def Obligations.ResetState : Prop :=
  State.reset.dev.mode = .boot ∧ State.reset.dev.prevMode = .insert ∧ State.reset.dev.resetCause = 0 ∧
  State.reset.dev.profile = none ∧ State.reset.run.buckram = false ∧ State.reset.run.svc = false ∧
  State.reset.run.cfgPolicy = 2 ∧ State.reset.pwr.hs = .on ∧ State.reset.pwr.pgood = true ∧
  (∀ a, State.reset.poolByte a = 0) ∧ State.reset.memOk = true ∧
  (∀ p, (State.reset.port p).stat.state = .disabled ∧ (∀ h, ((State.reset.port p).flags.get h).ch = 0)) ∧
  (∀ h, (State.reset.host h).state = .absent ∧ (State.reset.host h).hb = 0 ∧ (State.reset.host h).cmd.words = [] ∧
    (State.reset.host h).dring.en = false ∧ (State.reset.host h).cring.en = false) ∧
  (∀ n, State.reset.irq.pend.getLsbD n = false) ∧ (∀ t, (State.reset.target t).mask = BitVec.allOnes 256) ∧
  (∀ x, (State.reset.stream x).nextSeq = none) ∧ State.reset.jnl.ring = [] ∧
  State.reset.pending = [] ∧
  step State.reset = .next { State.reset with pwr2 := { State.reset.pwr2 with osc := 1 } }

/-- Request packets read back (12 R274, R277, 13 R292): the words of a packet spell the packet of its row, and the
bytes of every parameter block the parameters they were made of. -/
def Obligations.PacketRoundTrip : Prop :=
  (∀ p : Params, Params.fits p = true → decodeParams (Params.opcode p) (encodeParams p) = some p) ∧
  (∀ (hd : Head) (p : Params), Params.fits p = true → hd.reserved = false → (encodeParams p).length ≤ 4080 →
    packetOf hd.stream hd.path (Head.words hd p) = Head.packet hd p)

/-- Every command, and every tick, keeps the byte memory in its canonical form (04 R80, the model's form of the
memory). -/
def Obligations.MemoryCanonicalKept : Prop :=
  ∀ s t : State, s.memOk = true → step s = .next t → t.memOk = true

/-- Delivery to the hosts completes (09 R198, R211, R213, R222): BATCH_SEAL takes the oldest window once every port
has closed it; BATCH_COPY_DONE ends the copy that has begun, and the host's batch interrupt stands; a CONS within
what waits is taken; DIRECT_ENTRY_DELIVER writes the oldest entry that waits where the ring has room, skips it where it has none, and
raises the port's source once no host waits for it (after both hosts: the model's choice, log entry 164); it waits behind a batch
whose copy is in progress (11 R256, R257). -/
def Obligations.DeliveryCompletes : Prop :=
  (∀ (s : State) (x : WinDlv) (rest : List WinDlv), s.dlv.wins = x :: rest → x.tClosed = true → x.started = true →
    x.dlv = .batch → (∀ y ∈ rest, y.tClosed = true → y.dlv = .batch) →
    ∃ t, exec .batchSeal s = .next t ∧ t.dlv.wins = rest ∧ t.objs = s.objs ∧ t.pool = s.pool ∧ t.dev = s.dev ∧
      t.trk = s.trk ∧ t.routes = s.routes ∧ t.dlv.inForce = s.dlv.inForce ∧ t.dlv.cur = s.dlv.cur ∧
      ((s.host .a).dring.en = false → (s.host .b).dring.en = false → s.dlv.batches = [] → t.dlv.batches = [])) ∧
  (∀ (s : State) (h : HostId) (b : Batch), s.nextBatch h = some b → b.started.get h = true → (s.host h).pcie.dma = true →
    s.mem.bad = [] →
    ∃ t, exec (.batchCopyDone h) s = .next t ∧ (∀ y ∈ t.dlv.batches, y.n = b.n → y.waits.get h = false) ∧
      (s.dev.mode ≠ .sleep → t.irq.pend.getLsbD (129 + h.num) = true) ∧
      (t.host h).dring.prod = (if b.oldRing.get h = none then
        (s.host h).dring.prod + BitVec.ofNat 32 ((s.host h).dring.padNow + b.span) else (s.host h).dring.prod) ∧
      (t.host h).dring.cons = (s.host h).dring.cons ∧ t.dlv.wins = s.dlv.wins ∧ t.dlv.direct = s.dlv.direct ∧
      t.objs = s.objs ∧ t.pool = s.pool ∧ t.mem = s.mem ∧ t.ports = s.ports ∧ t.dev = s.dev) ∧
  (∀ (s : State) (h : HostId) (v : Word), s.WritesNow h → (s.host h).dring.en = true → v.toNat % 64 = 0 →
    (v - (s.host h).dring.cons).toNat ≤ (s.host h).dring.used →
    exec (.dringCons h v) s = .next (s.modHost h fun x => { x with dring := { x.dring with cons := v } })) ∧
  (∀ (s : State) (h : HostId) (v : Word), s.WritesNow h → (s.host h).dring.en = false →
    ∃ t, exec (.dringCons h v) s = .next t ∧ (t.host h).dring = (s.host h).dring ∧
      (t.host h).violations = min 0xFFFFFFFF ((s.host h).violations + 1) ∧ bits (t.host h).violLast 31 28 = 8 ∧
      OnlyHost h s t ∧ Unchanged [.hosts, .rcd] s t) ∧
  (∀ (s : State) (h : HostId) (e : DEntry) (es : List DEntry), s.dlv.direct = e :: es → e.waits.get h = true →
    s.mem.bad = [] → s.copyingTo h = false →
    ∃ t, exec (.directEntryDeliver h) s = .next t ∧
      (∀ x ∈ t.dlv.direct, x.dseq = e.dseq → x.waits.get h = false) ∧
      ((s.host h).pcie.dma = true → (s.host h).dring.en = true → e.bytes.length ≤ (s.host h).dring.free →
        (t.host h).dring = { (s.host h).dring with prod := (s.host h).dring.prod + BitVec.ofNat 32 e.bytes.length } ∧
        (t.host h).gapTotal = (s.host h).gapTotal) ∧
      ((s.host h).pcie.dma = false ∨ (s.host h).dring.en = false ∨ (s.host h).dring.free < e.bytes.length →
        (t.host h).dring = (s.host h).dring ∧ (t.host h).gapTotal = min 0xFFFFFFFF ((s.host h).gapTotal + 1)) ∧
      (e.waits.get h.peer = false → e.port < 64 → s.dev.mode ≠ .sleep → t.irq.pend.getLsbD (e.port + 65) = true) ∧
      { t.host h.peer with pcie := (s.host h.peer).pcie } = s.host h.peer ∧
      t.dlv.wins = s.dlv.wins ∧ t.dlv.batches = s.dlv.batches ∧ Unchanged [.dlv, .hosts, .irq, .kept, .out] s t) ∧
  (∀ (s : State) (h : HostId), s.copyingTo h = true →
    ∃ t, exec (.directEntryDeliver h) s = .next t ∧ t.dlv = s.dlv ∧ HostBecomes s t h (s.host h) ∧
      Unchanged [.irq, .hosts, .out] s t)
end

