-- ==== Sys2Proof/Laws/State.lean ====
section
/-! SUPPORT. Each named update of the state against each piece of the state: a piece that the update does not name is as it
was. All true by `rfl`. -/

namespace Sys2Proof.Machine

variable (s : State)

@[simp] theorem State.modHost_clk (h : HostId) (f : Hst → Hst) : (s.modHost h f).clk = s.clk := rfl
@[simp] theorem State.modHost_dev (h : HostId) (f : Hst → Hst) : (s.modHost h f).dev = s.dev := rfl
@[simp] theorem State.modHost_run (h : HostId) (f : Hst → Hst) : (s.modHost h f).run = s.run := rfl
@[simp] theorem State.modHost_irq (h : HostId) (f : Hst → Hst) : (s.modHost h f).irq = s.irq := rfl
@[simp] theorem State.modHost_cmds (h : HostId) (f : Hst → Hst) : (s.modHost h f).cmds = s.cmds := rfl
@[simp] theorem State.modHost_jnl (h : HostId) (f : Hst → Hst) : (s.modHost h f).jnl = s.jnl := rfl
@[simp] theorem State.modHost_rcd (h : HostId) (f : Hst → Hst) : (s.modHost h f).rcd = s.rcd := rfl
@[simp] theorem State.modHost_keep (h : HostId) (f : Hst → Hst) : (s.modHost h f).keep = s.keep := rfl
@[simp] theorem State.modHost_ports (h : HostId) (f : Hst → Hst) : (s.modHost h f).ports = s.ports := rfl
@[simp] theorem State.modHost_objs (h : HostId) (f : Hst → Hst) : (s.modHost h f).objs = s.objs := rfl
@[simp] theorem State.modHost_pool (h : HostId) (f : Hst → Hst) : (s.modHost h f).pool = s.pool := rfl
@[simp] theorem State.modHost_mem (h : HostId) (f : Hst → Hst) : (s.modHost h f).mem = s.mem := rfl
@[simp] theorem State.modHost_flt (h : HostId) (f : Hst → Hst) : (s.modHost h f).flt = s.flt := rfl
@[simp] theorem State.modHost_routes (h : HostId) (f : Hst → Hst) : (s.modHost h f).routes = s.routes := rfl
@[simp] theorem State.modHost_pairs (h : HostId) (f : Hst → Hst) : (s.modHost h f).pairs = s.pairs := rfl
@[simp] theorem State.modHost_copiesPrev (h : HostId) (f : Hst → Hst) : (s.modHost h f).copiesPrev = s.copiesPrev := rfl
@[simp] theorem State.modHost_copyNext (h : HostId) (f : Hst → Hst) : (s.modHost h f).copyNext = s.copyNext := rfl
@[simp] theorem State.modHost_dense (h : HostId) (f : Hst → Hst) : (s.modHost h f).dense = s.dense := rfl
@[simp] theorem State.modHost_dlv (h : HostId) (f : Hst → Hst) : (s.modHost h f).dlv = s.dlv := rfl
@[simp] theorem State.modHost_trk (h : HostId) (f : Hst → Hst) : (s.modHost h f).trk = s.trk := rfl
@[simp] theorem State.modHost_trk2 (h : HostId) (f : Hst → Hst) : (s.modHost h f).trk2 = s.trk2 := rfl
@[simp] theorem State.modHost_fw (h : HostId) (f : Hst → Hst) : (s.modHost h f).fw = s.fw := rfl
@[simp] theorem State.modHost_engines (h : HostId) (f : Hst → Hst) : (s.modHost h f).engines = s.engines := rfl
@[simp] theorem State.modHost_canvas (h : HostId) (f : Hst → Hst) : (s.modHost h f).canvas = s.canvas := rfl
@[simp] theorem State.modHost_twd (h : HostId) (f : Hst → Hst) : (s.modHost h f).twd = s.twd := rfl
@[simp] theorem State.modHost_pwr (h : HostId) (f : Hst → Hst) : (s.modHost h f).pwr = s.pwr := rfl
@[simp] theorem State.modHost_pwr2 (h : HostId) (f : Hst → Hst) : (s.modHost h f).pwr2 = s.pwr2 := rfl
@[simp] theorem State.modHost_link (h : HostId) (f : Hst → Hst) : (s.modHost h f).link = s.link := rfl
@[simp] theorem State.modHost_fld (h : HostId) (f : Hst → Hst) : (s.modHost h f).fld = s.fld := rfl
@[simp] theorem State.modHost_mgt (h : HostId) (f : Hst → Hst) : (s.modHost h f).mgt = s.mgt := rfl
@[simp] theorem State.modHost_kept (h : HostId) (f : Hst → Hst) : (s.modHost h f).kept = s.kept := rfl
@[simp] theorem State.modHost_out (h : HostId) (f : Hst → Hst) : (s.modHost h f).out = s.out := rfl
@[simp] theorem State.modHost_pending (h : HostId) (f : Hst → Hst) : (s.modHost h f).pending = s.pending := rfl

@[simp] theorem State.setPort_clk (p : Nat) (v : PortS) : (s.setPort p v).clk = s.clk := rfl
@[simp] theorem State.setPort_dev (p : Nat) (v : PortS) : (s.setPort p v).dev = s.dev := rfl
@[simp] theorem State.setPort_run (p : Nat) (v : PortS) : (s.setPort p v).run = s.run := rfl
@[simp] theorem State.setPort_irq (p : Nat) (v : PortS) : (s.setPort p v).irq = s.irq := rfl
@[simp] theorem State.setPort_hosts (p : Nat) (v : PortS) : (s.setPort p v).hosts = s.hosts := rfl
@[simp] theorem State.setPort_cmds (p : Nat) (v : PortS) : (s.setPort p v).cmds = s.cmds := rfl
@[simp] theorem State.setPort_jnl (p : Nat) (v : PortS) : (s.setPort p v).jnl = s.jnl := rfl
@[simp] theorem State.setPort_rcd (p : Nat) (v : PortS) : (s.setPort p v).rcd = s.rcd := rfl
@[simp] theorem State.setPort_keep (p : Nat) (v : PortS) : (s.setPort p v).keep = s.keep := rfl
@[simp] theorem State.setPort_objs (p : Nat) (v : PortS) : (s.setPort p v).objs = s.objs := rfl
@[simp] theorem State.setPort_pool (p : Nat) (v : PortS) : (s.setPort p v).pool = s.pool := rfl
@[simp] theorem State.setPort_mem (p : Nat) (v : PortS) : (s.setPort p v).mem = s.mem := rfl
@[simp] theorem State.setPort_flt (p : Nat) (v : PortS) : (s.setPort p v).flt = s.flt := rfl
@[simp] theorem State.setPort_routes (p : Nat) (v : PortS) : (s.setPort p v).routes = s.routes := rfl
@[simp] theorem State.setPort_pairs (p : Nat) (v : PortS) : (s.setPort p v).pairs = s.pairs := rfl
@[simp] theorem State.setPort_copiesPrev (p : Nat) (v : PortS) : (s.setPort p v).copiesPrev = s.copiesPrev := rfl
@[simp] theorem State.setPort_copyNext (p : Nat) (v : PortS) : (s.setPort p v).copyNext = s.copyNext := rfl
@[simp] theorem State.setPort_dense (p : Nat) (v : PortS) : (s.setPort p v).dense = s.dense := rfl
@[simp] theorem State.setPort_dlv (p : Nat) (v : PortS) : (s.setPort p v).dlv = s.dlv := rfl
@[simp] theorem State.setPort_trk (p : Nat) (v : PortS) : (s.setPort p v).trk = s.trk := rfl
@[simp] theorem State.setPort_trk2 (p : Nat) (v : PortS) : (s.setPort p v).trk2 = s.trk2 := rfl
@[simp] theorem State.setPort_fw (p : Nat) (v : PortS) : (s.setPort p v).fw = s.fw := rfl
@[simp] theorem State.setPort_engines (p : Nat) (v : PortS) : (s.setPort p v).engines = s.engines := rfl
@[simp] theorem State.setPort_canvas (p : Nat) (v : PortS) : (s.setPort p v).canvas = s.canvas := rfl
@[simp] theorem State.setPort_twd (p : Nat) (v : PortS) : (s.setPort p v).twd = s.twd := rfl
@[simp] theorem State.setPort_pwr (p : Nat) (v : PortS) : (s.setPort p v).pwr = s.pwr := rfl
@[simp] theorem State.setPort_pwr2 (p : Nat) (v : PortS) : (s.setPort p v).pwr2 = s.pwr2 := rfl
@[simp] theorem State.setPort_link (p : Nat) (v : PortS) : (s.setPort p v).link = s.link := rfl
@[simp] theorem State.setPort_fld (p : Nat) (v : PortS) : (s.setPort p v).fld = s.fld := rfl
@[simp] theorem State.setPort_mgt (p : Nat) (v : PortS) : (s.setPort p v).mgt = s.mgt := rfl
@[simp] theorem State.setPort_kept (p : Nat) (v : PortS) : (s.setPort p v).kept = s.kept := rfl
@[simp] theorem State.setPort_out (p : Nat) (v : PortS) : (s.setPort p v).out = s.out := rfl
@[simp] theorem State.setPort_pending (p : Nat) (v : PortS) : (s.setPort p v).pending = s.pending := rfl

@[simp] theorem State.modPort_clk (p : Nat) (f : PortS → PortS) : (s.modPort p f).clk = s.clk := rfl
@[simp] theorem State.modPort_dev (p : Nat) (f : PortS → PortS) : (s.modPort p f).dev = s.dev := rfl
@[simp] theorem State.modPort_run (p : Nat) (f : PortS → PortS) : (s.modPort p f).run = s.run := rfl
@[simp] theorem State.modPort_irq (p : Nat) (f : PortS → PortS) : (s.modPort p f).irq = s.irq := rfl
@[simp] theorem State.modPort_hosts (p : Nat) (f : PortS → PortS) : (s.modPort p f).hosts = s.hosts := rfl
@[simp] theorem State.modPort_cmds (p : Nat) (f : PortS → PortS) : (s.modPort p f).cmds = s.cmds := rfl
@[simp] theorem State.modPort_jnl (p : Nat) (f : PortS → PortS) : (s.modPort p f).jnl = s.jnl := rfl
@[simp] theorem State.modPort_rcd (p : Nat) (f : PortS → PortS) : (s.modPort p f).rcd = s.rcd := rfl
@[simp] theorem State.modPort_keep (p : Nat) (f : PortS → PortS) : (s.modPort p f).keep = s.keep := rfl
@[simp] theorem State.modPort_objs (p : Nat) (f : PortS → PortS) : (s.modPort p f).objs = s.objs := rfl
@[simp] theorem State.modPort_pool (p : Nat) (f : PortS → PortS) : (s.modPort p f).pool = s.pool := rfl
@[simp] theorem State.modPort_mem (p : Nat) (f : PortS → PortS) : (s.modPort p f).mem = s.mem := rfl
@[simp] theorem State.modPort_flt (p : Nat) (f : PortS → PortS) : (s.modPort p f).flt = s.flt := rfl
@[simp] theorem State.modPort_routes (p : Nat) (f : PortS → PortS) : (s.modPort p f).routes = s.routes := rfl
@[simp] theorem State.modPort_pairs (p : Nat) (f : PortS → PortS) : (s.modPort p f).pairs = s.pairs := rfl
@[simp] theorem State.modPort_copiesPrev (p : Nat) (f : PortS → PortS) : (s.modPort p f).copiesPrev = s.copiesPrev := rfl
@[simp] theorem State.modPort_copyNext (p : Nat) (f : PortS → PortS) : (s.modPort p f).copyNext = s.copyNext := rfl
@[simp] theorem State.modPort_dense (p : Nat) (f : PortS → PortS) : (s.modPort p f).dense = s.dense := rfl
@[simp] theorem State.modPort_dlv (p : Nat) (f : PortS → PortS) : (s.modPort p f).dlv = s.dlv := rfl
@[simp] theorem State.modPort_trk (p : Nat) (f : PortS → PortS) : (s.modPort p f).trk = s.trk := rfl
@[simp] theorem State.modPort_trk2 (p : Nat) (f : PortS → PortS) : (s.modPort p f).trk2 = s.trk2 := rfl
@[simp] theorem State.modPort_fw (p : Nat) (f : PortS → PortS) : (s.modPort p f).fw = s.fw := rfl
@[simp] theorem State.modPort_engines (p : Nat) (f : PortS → PortS) : (s.modPort p f).engines = s.engines := rfl
@[simp] theorem State.modPort_canvas (p : Nat) (f : PortS → PortS) : (s.modPort p f).canvas = s.canvas := rfl
@[simp] theorem State.modPort_twd (p : Nat) (f : PortS → PortS) : (s.modPort p f).twd = s.twd := rfl
@[simp] theorem State.modPort_pwr (p : Nat) (f : PortS → PortS) : (s.modPort p f).pwr = s.pwr := rfl
@[simp] theorem State.modPort_pwr2 (p : Nat) (f : PortS → PortS) : (s.modPort p f).pwr2 = s.pwr2 := rfl
@[simp] theorem State.modPort_link (p : Nat) (f : PortS → PortS) : (s.modPort p f).link = s.link := rfl
@[simp] theorem State.modPort_fld (p : Nat) (f : PortS → PortS) : (s.modPort p f).fld = s.fld := rfl
@[simp] theorem State.modPort_mgt (p : Nat) (f : PortS → PortS) : (s.modPort p f).mgt = s.mgt := rfl
@[simp] theorem State.modPort_kept (p : Nat) (f : PortS → PortS) : (s.modPort p f).kept = s.kept := rfl
@[simp] theorem State.modPort_out (p : Nat) (f : PortS → PortS) : (s.modPort p f).out = s.out := rfl
@[simp] theorem State.modPort_pending (p : Nat) (f : PortS → PortS) : (s.modPort p f).pending = s.pending := rfl

@[simp] theorem State.setRx_clk (p : Nat) (r : Option RxFrame) : (s.setRx p r).clk = s.clk := rfl
@[simp] theorem State.setRx_dev (p : Nat) (r : Option RxFrame) : (s.setRx p r).dev = s.dev := rfl
@[simp] theorem State.setRx_run (p : Nat) (r : Option RxFrame) : (s.setRx p r).run = s.run := rfl
@[simp] theorem State.setRx_irq (p : Nat) (r : Option RxFrame) : (s.setRx p r).irq = s.irq := rfl
@[simp] theorem State.setRx_hosts (p : Nat) (r : Option RxFrame) : (s.setRx p r).hosts = s.hosts := rfl
@[simp] theorem State.setRx_cmds (p : Nat) (r : Option RxFrame) : (s.setRx p r).cmds = s.cmds := rfl
@[simp] theorem State.setRx_jnl (p : Nat) (r : Option RxFrame) : (s.setRx p r).jnl = s.jnl := rfl
@[simp] theorem State.setRx_rcd (p : Nat) (r : Option RxFrame) : (s.setRx p r).rcd = s.rcd := rfl
@[simp] theorem State.setRx_keep (p : Nat) (r : Option RxFrame) : (s.setRx p r).keep = s.keep := rfl
@[simp] theorem State.setRx_objs (p : Nat) (r : Option RxFrame) : (s.setRx p r).objs = s.objs := rfl
@[simp] theorem State.setRx_pool (p : Nat) (r : Option RxFrame) : (s.setRx p r).pool = s.pool := rfl
@[simp] theorem State.setRx_mem (p : Nat) (r : Option RxFrame) : (s.setRx p r).mem = s.mem := rfl
@[simp] theorem State.setRx_flt (p : Nat) (r : Option RxFrame) : (s.setRx p r).flt = s.flt := rfl
@[simp] theorem State.setRx_routes (p : Nat) (r : Option RxFrame) : (s.setRx p r).routes = s.routes := rfl
@[simp] theorem State.setRx_pairs (p : Nat) (r : Option RxFrame) : (s.setRx p r).pairs = s.pairs := rfl
@[simp] theorem State.setRx_copiesPrev (p : Nat) (r : Option RxFrame) : (s.setRx p r).copiesPrev = s.copiesPrev := rfl
@[simp] theorem State.setRx_copyNext (p : Nat) (r : Option RxFrame) : (s.setRx p r).copyNext = s.copyNext := rfl
@[simp] theorem State.setRx_dense (p : Nat) (r : Option RxFrame) : (s.setRx p r).dense = s.dense := rfl
@[simp] theorem State.setRx_dlv (p : Nat) (r : Option RxFrame) : (s.setRx p r).dlv = s.dlv := rfl
@[simp] theorem State.setRx_trk (p : Nat) (r : Option RxFrame) : (s.setRx p r).trk = s.trk := rfl
@[simp] theorem State.setRx_trk2 (p : Nat) (r : Option RxFrame) : (s.setRx p r).trk2 = s.trk2 := rfl
@[simp] theorem State.setRx_fw (p : Nat) (r : Option RxFrame) : (s.setRx p r).fw = s.fw := rfl
@[simp] theorem State.setRx_engines (p : Nat) (r : Option RxFrame) : (s.setRx p r).engines = s.engines := rfl
@[simp] theorem State.setRx_canvas (p : Nat) (r : Option RxFrame) : (s.setRx p r).canvas = s.canvas := rfl
@[simp] theorem State.setRx_twd (p : Nat) (r : Option RxFrame) : (s.setRx p r).twd = s.twd := rfl
@[simp] theorem State.setRx_pwr (p : Nat) (r : Option RxFrame) : (s.setRx p r).pwr = s.pwr := rfl
@[simp] theorem State.setRx_pwr2 (p : Nat) (r : Option RxFrame) : (s.setRx p r).pwr2 = s.pwr2 := rfl
@[simp] theorem State.setRx_link (p : Nat) (r : Option RxFrame) : (s.setRx p r).link = s.link := rfl
@[simp] theorem State.setRx_fld (p : Nat) (r : Option RxFrame) : (s.setRx p r).fld = s.fld := rfl
@[simp] theorem State.setRx_mgt (p : Nat) (r : Option RxFrame) : (s.setRx p r).mgt = s.mgt := rfl
@[simp] theorem State.setRx_kept (p : Nat) (r : Option RxFrame) : (s.setRx p r).kept = s.kept := rfl
@[simp] theorem State.setRx_out (p : Nat) (r : Option RxFrame) : (s.setRx p r).out = s.out := rfl
@[simp] theorem State.setRx_pending (p : Nat) (r : Option RxFrame) : (s.setRx p r).pending = s.pending := rfl

@[simp] theorem State.setTx_clk (p : Nat) (t : Option TxFrame) : (s.setTx p t).clk = s.clk := rfl
@[simp] theorem State.setTx_dev (p : Nat) (t : Option TxFrame) : (s.setTx p t).dev = s.dev := rfl
@[simp] theorem State.setTx_run (p : Nat) (t : Option TxFrame) : (s.setTx p t).run = s.run := rfl
@[simp] theorem State.setTx_irq (p : Nat) (t : Option TxFrame) : (s.setTx p t).irq = s.irq := rfl
@[simp] theorem State.setTx_hosts (p : Nat) (t : Option TxFrame) : (s.setTx p t).hosts = s.hosts := rfl
@[simp] theorem State.setTx_cmds (p : Nat) (t : Option TxFrame) : (s.setTx p t).cmds = s.cmds := rfl
@[simp] theorem State.setTx_jnl (p : Nat) (t : Option TxFrame) : (s.setTx p t).jnl = s.jnl := rfl
@[simp] theorem State.setTx_rcd (p : Nat) (t : Option TxFrame) : (s.setTx p t).rcd = s.rcd := rfl
@[simp] theorem State.setTx_keep (p : Nat) (t : Option TxFrame) : (s.setTx p t).keep = s.keep := rfl
@[simp] theorem State.setTx_objs (p : Nat) (t : Option TxFrame) : (s.setTx p t).objs = s.objs := rfl
@[simp] theorem State.setTx_pool (p : Nat) (t : Option TxFrame) : (s.setTx p t).pool = s.pool := rfl
@[simp] theorem State.setTx_mem (p : Nat) (t : Option TxFrame) : (s.setTx p t).mem = s.mem := rfl
@[simp] theorem State.setTx_flt (p : Nat) (t : Option TxFrame) : (s.setTx p t).flt = s.flt := rfl
@[simp] theorem State.setTx_routes (p : Nat) (t : Option TxFrame) : (s.setTx p t).routes = s.routes := rfl
@[simp] theorem State.setTx_pairs (p : Nat) (t : Option TxFrame) : (s.setTx p t).pairs = s.pairs := rfl
@[simp] theorem State.setTx_copiesPrev (p : Nat) (t : Option TxFrame) : (s.setTx p t).copiesPrev = s.copiesPrev := rfl
@[simp] theorem State.setTx_copyNext (p : Nat) (t : Option TxFrame) : (s.setTx p t).copyNext = s.copyNext := rfl
@[simp] theorem State.setTx_dense (p : Nat) (t : Option TxFrame) : (s.setTx p t).dense = s.dense := rfl
@[simp] theorem State.setTx_dlv (p : Nat) (t : Option TxFrame) : (s.setTx p t).dlv = s.dlv := rfl
@[simp] theorem State.setTx_trk (p : Nat) (t : Option TxFrame) : (s.setTx p t).trk = s.trk := rfl
@[simp] theorem State.setTx_trk2 (p : Nat) (t : Option TxFrame) : (s.setTx p t).trk2 = s.trk2 := rfl
@[simp] theorem State.setTx_fw (p : Nat) (t : Option TxFrame) : (s.setTx p t).fw = s.fw := rfl
@[simp] theorem State.setTx_engines (p : Nat) (t : Option TxFrame) : (s.setTx p t).engines = s.engines := rfl
@[simp] theorem State.setTx_canvas (p : Nat) (t : Option TxFrame) : (s.setTx p t).canvas = s.canvas := rfl
@[simp] theorem State.setTx_twd (p : Nat) (t : Option TxFrame) : (s.setTx p t).twd = s.twd := rfl
@[simp] theorem State.setTx_pwr (p : Nat) (t : Option TxFrame) : (s.setTx p t).pwr = s.pwr := rfl
@[simp] theorem State.setTx_pwr2 (p : Nat) (t : Option TxFrame) : (s.setTx p t).pwr2 = s.pwr2 := rfl
@[simp] theorem State.setTx_link (p : Nat) (t : Option TxFrame) : (s.setTx p t).link = s.link := rfl
@[simp] theorem State.setTx_fld (p : Nat) (t : Option TxFrame) : (s.setTx p t).fld = s.fld := rfl
@[simp] theorem State.setTx_mgt (p : Nat) (t : Option TxFrame) : (s.setTx p t).mgt = s.mgt := rfl
@[simp] theorem State.setTx_kept (p : Nat) (t : Option TxFrame) : (s.setTx p t).kept = s.kept := rfl
@[simp] theorem State.setTx_out (p : Nat) (t : Option TxFrame) : (s.setTx p t).out = s.out := rfl
@[simp] theorem State.setTx_pending (p : Nat) (t : Option TxFrame) : (s.setTx p t).pending = s.pending := rfl

@[simp] theorem State.flagCh_clk (p : Nat) (m : Word) : (s.flagCh p m).clk = s.clk := rfl
@[simp] theorem State.flagCh_dev (p : Nat) (m : Word) : (s.flagCh p m).dev = s.dev := rfl
@[simp] theorem State.flagCh_run (p : Nat) (m : Word) : (s.flagCh p m).run = s.run := rfl
@[simp] theorem State.flagCh_irq (p : Nat) (m : Word) : (s.flagCh p m).irq = s.irq := rfl
@[simp] theorem State.flagCh_hosts (p : Nat) (m : Word) : (s.flagCh p m).hosts = s.hosts := rfl
@[simp] theorem State.flagCh_cmds (p : Nat) (m : Word) : (s.flagCh p m).cmds = s.cmds := rfl
@[simp] theorem State.flagCh_jnl (p : Nat) (m : Word) : (s.flagCh p m).jnl = s.jnl := rfl
@[simp] theorem State.flagCh_rcd (p : Nat) (m : Word) : (s.flagCh p m).rcd = s.rcd := rfl
@[simp] theorem State.flagCh_keep (p : Nat) (m : Word) : (s.flagCh p m).keep = s.keep := rfl
@[simp] theorem State.flagCh_objs (p : Nat) (m : Word) : (s.flagCh p m).objs = s.objs := rfl
@[simp] theorem State.flagCh_pool (p : Nat) (m : Word) : (s.flagCh p m).pool = s.pool := rfl
@[simp] theorem State.flagCh_mem (p : Nat) (m : Word) : (s.flagCh p m).mem = s.mem := rfl
@[simp] theorem State.flagCh_flt (p : Nat) (m : Word) : (s.flagCh p m).flt = s.flt := rfl
@[simp] theorem State.flagCh_routes (p : Nat) (m : Word) : (s.flagCh p m).routes = s.routes := rfl
@[simp] theorem State.flagCh_pairs (p : Nat) (m : Word) : (s.flagCh p m).pairs = s.pairs := rfl
@[simp] theorem State.flagCh_copiesPrev (p : Nat) (m : Word) : (s.flagCh p m).copiesPrev = s.copiesPrev := rfl
@[simp] theorem State.flagCh_copyNext (p : Nat) (m : Word) : (s.flagCh p m).copyNext = s.copyNext := rfl
@[simp] theorem State.flagCh_dense (p : Nat) (m : Word) : (s.flagCh p m).dense = s.dense := rfl
@[simp] theorem State.flagCh_dlv (p : Nat) (m : Word) : (s.flagCh p m).dlv = s.dlv := rfl
@[simp] theorem State.flagCh_trk (p : Nat) (m : Word) : (s.flagCh p m).trk = s.trk := rfl
@[simp] theorem State.flagCh_trk2 (p : Nat) (m : Word) : (s.flagCh p m).trk2 = s.trk2 := rfl
@[simp] theorem State.flagCh_fw (p : Nat) (m : Word) : (s.flagCh p m).fw = s.fw := rfl
@[simp] theorem State.flagCh_engines (p : Nat) (m : Word) : (s.flagCh p m).engines = s.engines := rfl
@[simp] theorem State.flagCh_canvas (p : Nat) (m : Word) : (s.flagCh p m).canvas = s.canvas := rfl
@[simp] theorem State.flagCh_twd (p : Nat) (m : Word) : (s.flagCh p m).twd = s.twd := rfl
@[simp] theorem State.flagCh_pwr (p : Nat) (m : Word) : (s.flagCh p m).pwr = s.pwr := rfl
@[simp] theorem State.flagCh_pwr2 (p : Nat) (m : Word) : (s.flagCh p m).pwr2 = s.pwr2 := rfl
@[simp] theorem State.flagCh_link (p : Nat) (m : Word) : (s.flagCh p m).link = s.link := rfl
@[simp] theorem State.flagCh_fld (p : Nat) (m : Word) : (s.flagCh p m).fld = s.fld := rfl
@[simp] theorem State.flagCh_mgt (p : Nat) (m : Word) : (s.flagCh p m).mgt = s.mgt := rfl
@[simp] theorem State.flagCh_kept (p : Nat) (m : Word) : (s.flagCh p m).kept = s.kept := rfl
@[simp] theorem State.flagCh_out (p : Nat) (m : Word) : (s.flagCh p m).out = s.out := rfl
@[simp] theorem State.flagCh_pending (p : Nat) (m : Word) : (s.flagCh p m).pending = s.pending := rfl

@[simp] theorem State.flagSilk_clk (p : Nat) (m : Word) : (s.flagSilk p m).clk = s.clk := rfl
@[simp] theorem State.flagSilk_dev (p : Nat) (m : Word) : (s.flagSilk p m).dev = s.dev := rfl
@[simp] theorem State.flagSilk_run (p : Nat) (m : Word) : (s.flagSilk p m).run = s.run := rfl
@[simp] theorem State.flagSilk_irq (p : Nat) (m : Word) : (s.flagSilk p m).irq = s.irq := rfl
@[simp] theorem State.flagSilk_hosts (p : Nat) (m : Word) : (s.flagSilk p m).hosts = s.hosts := rfl
@[simp] theorem State.flagSilk_cmds (p : Nat) (m : Word) : (s.flagSilk p m).cmds = s.cmds := rfl
@[simp] theorem State.flagSilk_jnl (p : Nat) (m : Word) : (s.flagSilk p m).jnl = s.jnl := rfl
@[simp] theorem State.flagSilk_rcd (p : Nat) (m : Word) : (s.flagSilk p m).rcd = s.rcd := rfl
@[simp] theorem State.flagSilk_keep (p : Nat) (m : Word) : (s.flagSilk p m).keep = s.keep := rfl
@[simp] theorem State.flagSilk_objs (p : Nat) (m : Word) : (s.flagSilk p m).objs = s.objs := rfl
@[simp] theorem State.flagSilk_pool (p : Nat) (m : Word) : (s.flagSilk p m).pool = s.pool := rfl
@[simp] theorem State.flagSilk_mem (p : Nat) (m : Word) : (s.flagSilk p m).mem = s.mem := rfl
@[simp] theorem State.flagSilk_flt (p : Nat) (m : Word) : (s.flagSilk p m).flt = s.flt := rfl
@[simp] theorem State.flagSilk_routes (p : Nat) (m : Word) : (s.flagSilk p m).routes = s.routes := rfl
@[simp] theorem State.flagSilk_pairs (p : Nat) (m : Word) : (s.flagSilk p m).pairs = s.pairs := rfl
@[simp] theorem State.flagSilk_copiesPrev (p : Nat) (m : Word) : (s.flagSilk p m).copiesPrev = s.copiesPrev := rfl
@[simp] theorem State.flagSilk_copyNext (p : Nat) (m : Word) : (s.flagSilk p m).copyNext = s.copyNext := rfl
@[simp] theorem State.flagSilk_dense (p : Nat) (m : Word) : (s.flagSilk p m).dense = s.dense := rfl
@[simp] theorem State.flagSilk_dlv (p : Nat) (m : Word) : (s.flagSilk p m).dlv = s.dlv := rfl
@[simp] theorem State.flagSilk_trk (p : Nat) (m : Word) : (s.flagSilk p m).trk = s.trk := rfl
@[simp] theorem State.flagSilk_trk2 (p : Nat) (m : Word) : (s.flagSilk p m).trk2 = s.trk2 := rfl
@[simp] theorem State.flagSilk_fw (p : Nat) (m : Word) : (s.flagSilk p m).fw = s.fw := rfl
@[simp] theorem State.flagSilk_engines (p : Nat) (m : Word) : (s.flagSilk p m).engines = s.engines := rfl
@[simp] theorem State.flagSilk_canvas (p : Nat) (m : Word) : (s.flagSilk p m).canvas = s.canvas := rfl
@[simp] theorem State.flagSilk_twd (p : Nat) (m : Word) : (s.flagSilk p m).twd = s.twd := rfl
@[simp] theorem State.flagSilk_pwr (p : Nat) (m : Word) : (s.flagSilk p m).pwr = s.pwr := rfl
@[simp] theorem State.flagSilk_pwr2 (p : Nat) (m : Word) : (s.flagSilk p m).pwr2 = s.pwr2 := rfl
@[simp] theorem State.flagSilk_link (p : Nat) (m : Word) : (s.flagSilk p m).link = s.link := rfl
@[simp] theorem State.flagSilk_fld (p : Nat) (m : Word) : (s.flagSilk p m).fld = s.fld := rfl
@[simp] theorem State.flagSilk_mgt (p : Nat) (m : Word) : (s.flagSilk p m).mgt = s.mgt := rfl
@[simp] theorem State.flagSilk_kept (p : Nat) (m : Word) : (s.flagSilk p m).kept = s.kept := rfl
@[simp] theorem State.flagSilk_out (p : Nat) (m : Word) : (s.flagSilk p m).out = s.out := rfl
@[simp] theorem State.flagSilk_pending (p : Nat) (m : Word) : (s.flagSilk p m).pending = s.pending := rfl

@[simp] theorem State.flagTx_clk (p : Nat) (m : Word) : (s.flagTx p m).clk = s.clk := rfl
@[simp] theorem State.flagTx_dev (p : Nat) (m : Word) : (s.flagTx p m).dev = s.dev := rfl
@[simp] theorem State.flagTx_run (p : Nat) (m : Word) : (s.flagTx p m).run = s.run := rfl
@[simp] theorem State.flagTx_irq (p : Nat) (m : Word) : (s.flagTx p m).irq = s.irq := rfl
@[simp] theorem State.flagTx_hosts (p : Nat) (m : Word) : (s.flagTx p m).hosts = s.hosts := rfl
@[simp] theorem State.flagTx_cmds (p : Nat) (m : Word) : (s.flagTx p m).cmds = s.cmds := rfl
@[simp] theorem State.flagTx_jnl (p : Nat) (m : Word) : (s.flagTx p m).jnl = s.jnl := rfl
@[simp] theorem State.flagTx_rcd (p : Nat) (m : Word) : (s.flagTx p m).rcd = s.rcd := rfl
@[simp] theorem State.flagTx_keep (p : Nat) (m : Word) : (s.flagTx p m).keep = s.keep := rfl
@[simp] theorem State.flagTx_objs (p : Nat) (m : Word) : (s.flagTx p m).objs = s.objs := rfl
@[simp] theorem State.flagTx_pool (p : Nat) (m : Word) : (s.flagTx p m).pool = s.pool := rfl
@[simp] theorem State.flagTx_mem (p : Nat) (m : Word) : (s.flagTx p m).mem = s.mem := rfl
@[simp] theorem State.flagTx_flt (p : Nat) (m : Word) : (s.flagTx p m).flt = s.flt := rfl
@[simp] theorem State.flagTx_routes (p : Nat) (m : Word) : (s.flagTx p m).routes = s.routes := rfl
@[simp] theorem State.flagTx_pairs (p : Nat) (m : Word) : (s.flagTx p m).pairs = s.pairs := rfl
@[simp] theorem State.flagTx_copiesPrev (p : Nat) (m : Word) : (s.flagTx p m).copiesPrev = s.copiesPrev := rfl
@[simp] theorem State.flagTx_copyNext (p : Nat) (m : Word) : (s.flagTx p m).copyNext = s.copyNext := rfl
@[simp] theorem State.flagTx_dense (p : Nat) (m : Word) : (s.flagTx p m).dense = s.dense := rfl
@[simp] theorem State.flagTx_dlv (p : Nat) (m : Word) : (s.flagTx p m).dlv = s.dlv := rfl
@[simp] theorem State.flagTx_trk (p : Nat) (m : Word) : (s.flagTx p m).trk = s.trk := rfl
@[simp] theorem State.flagTx_trk2 (p : Nat) (m : Word) : (s.flagTx p m).trk2 = s.trk2 := rfl
@[simp] theorem State.flagTx_fw (p : Nat) (m : Word) : (s.flagTx p m).fw = s.fw := rfl
@[simp] theorem State.flagTx_engines (p : Nat) (m : Word) : (s.flagTx p m).engines = s.engines := rfl
@[simp] theorem State.flagTx_canvas (p : Nat) (m : Word) : (s.flagTx p m).canvas = s.canvas := rfl
@[simp] theorem State.flagTx_twd (p : Nat) (m : Word) : (s.flagTx p m).twd = s.twd := rfl
@[simp] theorem State.flagTx_pwr (p : Nat) (m : Word) : (s.flagTx p m).pwr = s.pwr := rfl
@[simp] theorem State.flagTx_pwr2 (p : Nat) (m : Word) : (s.flagTx p m).pwr2 = s.pwr2 := rfl
@[simp] theorem State.flagTx_link (p : Nat) (m : Word) : (s.flagTx p m).link = s.link := rfl
@[simp] theorem State.flagTx_fld (p : Nat) (m : Word) : (s.flagTx p m).fld = s.fld := rfl
@[simp] theorem State.flagTx_mgt (p : Nat) (m : Word) : (s.flagTx p m).mgt = s.mgt := rfl
@[simp] theorem State.flagTx_kept (p : Nat) (m : Word) : (s.flagTx p m).kept = s.kept := rfl
@[simp] theorem State.flagTx_out (p : Nat) (m : Word) : (s.flagTx p m).out = s.out := rfl
@[simp] theorem State.flagTx_pending (p : Nat) (m : Word) : (s.flagTx p m).pending = s.pending := rfl

@[simp] theorem State.flagErr_clk (p : Nat) (m : Word) : (s.flagErr p m).clk = s.clk := rfl
@[simp] theorem State.flagErr_dev (p : Nat) (m : Word) : (s.flagErr p m).dev = s.dev := rfl
@[simp] theorem State.flagErr_run (p : Nat) (m : Word) : (s.flagErr p m).run = s.run := rfl
@[simp] theorem State.flagErr_irq (p : Nat) (m : Word) : (s.flagErr p m).irq = s.irq := rfl
@[simp] theorem State.flagErr_hosts (p : Nat) (m : Word) : (s.flagErr p m).hosts = s.hosts := rfl
@[simp] theorem State.flagErr_cmds (p : Nat) (m : Word) : (s.flagErr p m).cmds = s.cmds := rfl
@[simp] theorem State.flagErr_jnl (p : Nat) (m : Word) : (s.flagErr p m).jnl = s.jnl := rfl
@[simp] theorem State.flagErr_rcd (p : Nat) (m : Word) : (s.flagErr p m).rcd = s.rcd := rfl
@[simp] theorem State.flagErr_keep (p : Nat) (m : Word) : (s.flagErr p m).keep = s.keep := rfl
@[simp] theorem State.flagErr_objs (p : Nat) (m : Word) : (s.flagErr p m).objs = s.objs := rfl
@[simp] theorem State.flagErr_pool (p : Nat) (m : Word) : (s.flagErr p m).pool = s.pool := rfl
@[simp] theorem State.flagErr_mem (p : Nat) (m : Word) : (s.flagErr p m).mem = s.mem := rfl
@[simp] theorem State.flagErr_flt (p : Nat) (m : Word) : (s.flagErr p m).flt = s.flt := rfl
@[simp] theorem State.flagErr_routes (p : Nat) (m : Word) : (s.flagErr p m).routes = s.routes := rfl
@[simp] theorem State.flagErr_pairs (p : Nat) (m : Word) : (s.flagErr p m).pairs = s.pairs := rfl
@[simp] theorem State.flagErr_copiesPrev (p : Nat) (m : Word) : (s.flagErr p m).copiesPrev = s.copiesPrev := rfl
@[simp] theorem State.flagErr_copyNext (p : Nat) (m : Word) : (s.flagErr p m).copyNext = s.copyNext := rfl
@[simp] theorem State.flagErr_dense (p : Nat) (m : Word) : (s.flagErr p m).dense = s.dense := rfl
@[simp] theorem State.flagErr_dlv (p : Nat) (m : Word) : (s.flagErr p m).dlv = s.dlv := rfl
@[simp] theorem State.flagErr_trk (p : Nat) (m : Word) : (s.flagErr p m).trk = s.trk := rfl
@[simp] theorem State.flagErr_trk2 (p : Nat) (m : Word) : (s.flagErr p m).trk2 = s.trk2 := rfl
@[simp] theorem State.flagErr_fw (p : Nat) (m : Word) : (s.flagErr p m).fw = s.fw := rfl
@[simp] theorem State.flagErr_engines (p : Nat) (m : Word) : (s.flagErr p m).engines = s.engines := rfl
@[simp] theorem State.flagErr_canvas (p : Nat) (m : Word) : (s.flagErr p m).canvas = s.canvas := rfl
@[simp] theorem State.flagErr_twd (p : Nat) (m : Word) : (s.flagErr p m).twd = s.twd := rfl
@[simp] theorem State.flagErr_pwr (p : Nat) (m : Word) : (s.flagErr p m).pwr = s.pwr := rfl
@[simp] theorem State.flagErr_pwr2 (p : Nat) (m : Word) : (s.flagErr p m).pwr2 = s.pwr2 := rfl
@[simp] theorem State.flagErr_link (p : Nat) (m : Word) : (s.flagErr p m).link = s.link := rfl
@[simp] theorem State.flagErr_fld (p : Nat) (m : Word) : (s.flagErr p m).fld = s.fld := rfl
@[simp] theorem State.flagErr_mgt (p : Nat) (m : Word) : (s.flagErr p m).mgt = s.mgt := rfl
@[simp] theorem State.flagErr_kept (p : Nat) (m : Word) : (s.flagErr p m).kept = s.kept := rfl
@[simp] theorem State.flagErr_out (p : Nat) (m : Word) : (s.flagErr p m).out = s.out := rfl
@[simp] theorem State.flagErr_pending (p : Nat) (m : Word) : (s.flagErr p m).pending = s.pending := rfl

@[simp] theorem State.flagGrd_clk (m : Word) : (s.flagGrd m).clk = s.clk := rfl
@[simp] theorem State.flagGrd_dev (m : Word) : (s.flagGrd m).dev = s.dev := rfl
@[simp] theorem State.flagGrd_run (m : Word) : (s.flagGrd m).run = s.run := rfl
@[simp] theorem State.flagGrd_irq (m : Word) : (s.flagGrd m).irq = s.irq := rfl
@[simp] theorem State.flagGrd_hosts (m : Word) : (s.flagGrd m).hosts = s.hosts := rfl
@[simp] theorem State.flagGrd_cmds (m : Word) : (s.flagGrd m).cmds = s.cmds := rfl
@[simp] theorem State.flagGrd_jnl (m : Word) : (s.flagGrd m).jnl = s.jnl := rfl
@[simp] theorem State.flagGrd_rcd (m : Word) : (s.flagGrd m).rcd = s.rcd := rfl
@[simp] theorem State.flagGrd_keep (m : Word) : (s.flagGrd m).keep = s.keep := rfl
@[simp] theorem State.flagGrd_ports (m : Word) : (s.flagGrd m).ports = s.ports := rfl
@[simp] theorem State.flagGrd_objs (m : Word) : (s.flagGrd m).objs = s.objs := rfl
@[simp] theorem State.flagGrd_pool (m : Word) : (s.flagGrd m).pool = s.pool := rfl
@[simp] theorem State.flagGrd_mem (m : Word) : (s.flagGrd m).mem = s.mem := rfl
@[simp] theorem State.flagGrd_flt (m : Word) : (s.flagGrd m).flt = s.flt := rfl
@[simp] theorem State.flagGrd_routes (m : Word) : (s.flagGrd m).routes = s.routes := rfl
@[simp] theorem State.flagGrd_pairs (m : Word) : (s.flagGrd m).pairs = s.pairs := rfl
@[simp] theorem State.flagGrd_copiesPrev (m : Word) : (s.flagGrd m).copiesPrev = s.copiesPrev := rfl
@[simp] theorem State.flagGrd_copyNext (m : Word) : (s.flagGrd m).copyNext = s.copyNext := rfl
@[simp] theorem State.flagGrd_dense (m : Word) : (s.flagGrd m).dense = s.dense := rfl
@[simp] theorem State.flagGrd_dlv (m : Word) : (s.flagGrd m).dlv = s.dlv := rfl
@[simp] theorem State.flagGrd_trk (m : Word) : (s.flagGrd m).trk = s.trk := rfl
@[simp] theorem State.flagGrd_fw (m : Word) : (s.flagGrd m).fw = s.fw := rfl
@[simp] theorem State.flagGrd_engines (m : Word) : (s.flagGrd m).engines = s.engines := rfl
@[simp] theorem State.flagGrd_canvas (m : Word) : (s.flagGrd m).canvas = s.canvas := rfl
@[simp] theorem State.flagGrd_twd (m : Word) : (s.flagGrd m).twd = s.twd := rfl
@[simp] theorem State.flagGrd_pwr (m : Word) : (s.flagGrd m).pwr = s.pwr := rfl
@[simp] theorem State.flagGrd_pwr2 (m : Word) : (s.flagGrd m).pwr2 = s.pwr2 := rfl
@[simp] theorem State.flagGrd_link (m : Word) : (s.flagGrd m).link = s.link := rfl
@[simp] theorem State.flagGrd_fld (m : Word) : (s.flagGrd m).fld = s.fld := rfl
@[simp] theorem State.flagGrd_mgt (m : Word) : (s.flagGrd m).mgt = s.mgt := rfl
@[simp] theorem State.flagGrd_kept (m : Word) : (s.flagGrd m).kept = s.kept := rfl
@[simp] theorem State.flagGrd_out (m : Word) : (s.flagGrd m).out = s.out := rfl
@[simp] theorem State.flagGrd_pending (m : Word) : (s.flagGrd m).pending = s.pending := rfl

@[simp] theorem State.flagPwr_clk (m : Word) : (s.flagPwr m).clk = s.clk := rfl
@[simp] theorem State.flagPwr_dev (m : Word) : (s.flagPwr m).dev = s.dev := rfl
@[simp] theorem State.flagPwr_run (m : Word) : (s.flagPwr m).run = s.run := rfl
@[simp] theorem State.flagPwr_irq (m : Word) : (s.flagPwr m).irq = s.irq := rfl
@[simp] theorem State.flagPwr_hosts (m : Word) : (s.flagPwr m).hosts = s.hosts := rfl
@[simp] theorem State.flagPwr_cmds (m : Word) : (s.flagPwr m).cmds = s.cmds := rfl
@[simp] theorem State.flagPwr_jnl (m : Word) : (s.flagPwr m).jnl = s.jnl := rfl
@[simp] theorem State.flagPwr_rcd (m : Word) : (s.flagPwr m).rcd = s.rcd := rfl
@[simp] theorem State.flagPwr_keep (m : Word) : (s.flagPwr m).keep = s.keep := rfl
@[simp] theorem State.flagPwr_ports (m : Word) : (s.flagPwr m).ports = s.ports := rfl
@[simp] theorem State.flagPwr_objs (m : Word) : (s.flagPwr m).objs = s.objs := rfl
@[simp] theorem State.flagPwr_pool (m : Word) : (s.flagPwr m).pool = s.pool := rfl
@[simp] theorem State.flagPwr_mem (m : Word) : (s.flagPwr m).mem = s.mem := rfl
@[simp] theorem State.flagPwr_flt (m : Word) : (s.flagPwr m).flt = s.flt := rfl
@[simp] theorem State.flagPwr_routes (m : Word) : (s.flagPwr m).routes = s.routes := rfl
@[simp] theorem State.flagPwr_pairs (m : Word) : (s.flagPwr m).pairs = s.pairs := rfl
@[simp] theorem State.flagPwr_copiesPrev (m : Word) : (s.flagPwr m).copiesPrev = s.copiesPrev := rfl
@[simp] theorem State.flagPwr_copyNext (m : Word) : (s.flagPwr m).copyNext = s.copyNext := rfl
@[simp] theorem State.flagPwr_dense (m : Word) : (s.flagPwr m).dense = s.dense := rfl
@[simp] theorem State.flagPwr_dlv (m : Word) : (s.flagPwr m).dlv = s.dlv := rfl
@[simp] theorem State.flagPwr_trk (m : Word) : (s.flagPwr m).trk = s.trk := rfl
@[simp] theorem State.flagPwr_trk2 (m : Word) : (s.flagPwr m).trk2 = s.trk2 := rfl
@[simp] theorem State.flagPwr_fw (m : Word) : (s.flagPwr m).fw = s.fw := rfl
@[simp] theorem State.flagPwr_engines (m : Word) : (s.flagPwr m).engines = s.engines := rfl
@[simp] theorem State.flagPwr_canvas (m : Word) : (s.flagPwr m).canvas = s.canvas := rfl
@[simp] theorem State.flagPwr_twd (m : Word) : (s.flagPwr m).twd = s.twd := rfl
@[simp] theorem State.flagPwr_pwr (m : Word) : (s.flagPwr m).pwr = s.pwr := rfl
@[simp] theorem State.flagPwr_link (m : Word) : (s.flagPwr m).link = s.link := rfl
@[simp] theorem State.flagPwr_fld (m : Word) : (s.flagPwr m).fld = s.fld := rfl
@[simp] theorem State.flagPwr_mgt (m : Word) : (s.flagPwr m).mgt = s.mgt := rfl
@[simp] theorem State.flagPwr_kept (m : Word) : (s.flagPwr m).kept = s.kept := rfl
@[simp] theorem State.flagPwr_out (m : Word) : (s.flagPwr m).out = s.out := rfl
@[simp] theorem State.flagPwr_pending (m : Word) : (s.flagPwr m).pending = s.pending := rfl

@[simp] theorem State.flagMgt_clk (m : Word) : (s.flagMgt m).clk = s.clk := rfl
@[simp] theorem State.flagMgt_dev (m : Word) : (s.flagMgt m).dev = s.dev := rfl
@[simp] theorem State.flagMgt_run (m : Word) : (s.flagMgt m).run = s.run := rfl
@[simp] theorem State.flagMgt_irq (m : Word) : (s.flagMgt m).irq = s.irq := rfl
@[simp] theorem State.flagMgt_hosts (m : Word) : (s.flagMgt m).hosts = s.hosts := rfl
@[simp] theorem State.flagMgt_cmds (m : Word) : (s.flagMgt m).cmds = s.cmds := rfl
@[simp] theorem State.flagMgt_jnl (m : Word) : (s.flagMgt m).jnl = s.jnl := rfl
@[simp] theorem State.flagMgt_rcd (m : Word) : (s.flagMgt m).rcd = s.rcd := rfl
@[simp] theorem State.flagMgt_keep (m : Word) : (s.flagMgt m).keep = s.keep := rfl
@[simp] theorem State.flagMgt_ports (m : Word) : (s.flagMgt m).ports = s.ports := rfl
@[simp] theorem State.flagMgt_objs (m : Word) : (s.flagMgt m).objs = s.objs := rfl
@[simp] theorem State.flagMgt_pool (m : Word) : (s.flagMgt m).pool = s.pool := rfl
@[simp] theorem State.flagMgt_mem (m : Word) : (s.flagMgt m).mem = s.mem := rfl
@[simp] theorem State.flagMgt_flt (m : Word) : (s.flagMgt m).flt = s.flt := rfl
@[simp] theorem State.flagMgt_routes (m : Word) : (s.flagMgt m).routes = s.routes := rfl
@[simp] theorem State.flagMgt_pairs (m : Word) : (s.flagMgt m).pairs = s.pairs := rfl
@[simp] theorem State.flagMgt_copiesPrev (m : Word) : (s.flagMgt m).copiesPrev = s.copiesPrev := rfl
@[simp] theorem State.flagMgt_copyNext (m : Word) : (s.flagMgt m).copyNext = s.copyNext := rfl
@[simp] theorem State.flagMgt_dense (m : Word) : (s.flagMgt m).dense = s.dense := rfl
@[simp] theorem State.flagMgt_dlv (m : Word) : (s.flagMgt m).dlv = s.dlv := rfl
@[simp] theorem State.flagMgt_trk (m : Word) : (s.flagMgt m).trk = s.trk := rfl
@[simp] theorem State.flagMgt_trk2 (m : Word) : (s.flagMgt m).trk2 = s.trk2 := rfl
@[simp] theorem State.flagMgt_fw (m : Word) : (s.flagMgt m).fw = s.fw := rfl
@[simp] theorem State.flagMgt_engines (m : Word) : (s.flagMgt m).engines = s.engines := rfl
@[simp] theorem State.flagMgt_canvas (m : Word) : (s.flagMgt m).canvas = s.canvas := rfl
@[simp] theorem State.flagMgt_twd (m : Word) : (s.flagMgt m).twd = s.twd := rfl
@[simp] theorem State.flagMgt_pwr (m : Word) : (s.flagMgt m).pwr = s.pwr := rfl
@[simp] theorem State.flagMgt_pwr2 (m : Word) : (s.flagMgt m).pwr2 = s.pwr2 := rfl
@[simp] theorem State.flagMgt_link (m : Word) : (s.flagMgt m).link = s.link := rfl
@[simp] theorem State.flagMgt_mgt (m : Word) : (s.flagMgt m).mgt = s.mgt := rfl
@[simp] theorem State.flagMgt_kept (m : Word) : (s.flagMgt m).kept = s.kept := rfl
@[simp] theorem State.flagMgt_out (m : Word) : (s.flagMgt m).out = s.out := rfl
@[simp] theorem State.flagMgt_pending (m : Word) : (s.flagMgt m).pending = s.pending := rfl

@[simp] theorem State.setObj_clk (o : Nat) (v : Obj) : (s.setObj o v).clk = s.clk := rfl
@[simp] theorem State.setObj_dev (o : Nat) (v : Obj) : (s.setObj o v).dev = s.dev := rfl
@[simp] theorem State.setObj_run (o : Nat) (v : Obj) : (s.setObj o v).run = s.run := rfl
@[simp] theorem State.setObj_irq (o : Nat) (v : Obj) : (s.setObj o v).irq = s.irq := rfl
@[simp] theorem State.setObj_hosts (o : Nat) (v : Obj) : (s.setObj o v).hosts = s.hosts := rfl
@[simp] theorem State.setObj_cmds (o : Nat) (v : Obj) : (s.setObj o v).cmds = s.cmds := rfl
@[simp] theorem State.setObj_jnl (o : Nat) (v : Obj) : (s.setObj o v).jnl = s.jnl := rfl
@[simp] theorem State.setObj_rcd (o : Nat) (v : Obj) : (s.setObj o v).rcd = s.rcd := rfl
@[simp] theorem State.setObj_keep (o : Nat) (v : Obj) : (s.setObj o v).keep = s.keep := rfl
@[simp] theorem State.setObj_ports (o : Nat) (v : Obj) : (s.setObj o v).ports = s.ports := rfl
@[simp] theorem State.setObj_pool (o : Nat) (v : Obj) : (s.setObj o v).pool = s.pool := rfl
@[simp] theorem State.setObj_mem (o : Nat) (v : Obj) : (s.setObj o v).mem = s.mem := rfl
@[simp] theorem State.setObj_flt (o : Nat) (v : Obj) : (s.setObj o v).flt = s.flt := rfl
@[simp] theorem State.setObj_routes (o : Nat) (v : Obj) : (s.setObj o v).routes = s.routes := rfl
@[simp] theorem State.setObj_pairs (o : Nat) (v : Obj) : (s.setObj o v).pairs = s.pairs := rfl
@[simp] theorem State.setObj_copiesPrev (o : Nat) (v : Obj) : (s.setObj o v).copiesPrev = s.copiesPrev := rfl
@[simp] theorem State.setObj_copyNext (o : Nat) (v : Obj) : (s.setObj o v).copyNext = s.copyNext := rfl
@[simp] theorem State.setObj_dense (o : Nat) (v : Obj) : (s.setObj o v).dense = s.dense := rfl
@[simp] theorem State.setObj_dlv (o : Nat) (v : Obj) : (s.setObj o v).dlv = s.dlv := rfl
@[simp] theorem State.setObj_trk (o : Nat) (v : Obj) : (s.setObj o v).trk = s.trk := rfl
@[simp] theorem State.setObj_trk2 (o : Nat) (v : Obj) : (s.setObj o v).trk2 = s.trk2 := rfl
@[simp] theorem State.setObj_fw (o : Nat) (v : Obj) : (s.setObj o v).fw = s.fw := rfl
@[simp] theorem State.setObj_engines (o : Nat) (v : Obj) : (s.setObj o v).engines = s.engines := rfl
@[simp] theorem State.setObj_canvas (o : Nat) (v : Obj) : (s.setObj o v).canvas = s.canvas := rfl
@[simp] theorem State.setObj_twd (o : Nat) (v : Obj) : (s.setObj o v).twd = s.twd := rfl
@[simp] theorem State.setObj_pwr (o : Nat) (v : Obj) : (s.setObj o v).pwr = s.pwr := rfl
@[simp] theorem State.setObj_pwr2 (o : Nat) (v : Obj) : (s.setObj o v).pwr2 = s.pwr2 := rfl
@[simp] theorem State.setObj_link (o : Nat) (v : Obj) : (s.setObj o v).link = s.link := rfl
@[simp] theorem State.setObj_fld (o : Nat) (v : Obj) : (s.setObj o v).fld = s.fld := rfl
@[simp] theorem State.setObj_mgt (o : Nat) (v : Obj) : (s.setObj o v).mgt = s.mgt := rfl
@[simp] theorem State.setObj_kept (o : Nat) (v : Obj) : (s.setObj o v).kept = s.kept := rfl
@[simp] theorem State.setObj_out (o : Nat) (v : Obj) : (s.setObj o v).out = s.out := rfl
@[simp] theorem State.setObj_pending (o : Nat) (v : Obj) : (s.setObj o v).pending = s.pending := rfl

@[simp] theorem State.modObj_clk (o : Nat) (f : Obj → Obj) : (s.modObj o f).clk = s.clk := rfl
@[simp] theorem State.modObj_dev (o : Nat) (f : Obj → Obj) : (s.modObj o f).dev = s.dev := rfl
@[simp] theorem State.modObj_run (o : Nat) (f : Obj → Obj) : (s.modObj o f).run = s.run := rfl
@[simp] theorem State.modObj_irq (o : Nat) (f : Obj → Obj) : (s.modObj o f).irq = s.irq := rfl
@[simp] theorem State.modObj_hosts (o : Nat) (f : Obj → Obj) : (s.modObj o f).hosts = s.hosts := rfl
@[simp] theorem State.modObj_cmds (o : Nat) (f : Obj → Obj) : (s.modObj o f).cmds = s.cmds := rfl
@[simp] theorem State.modObj_jnl (o : Nat) (f : Obj → Obj) : (s.modObj o f).jnl = s.jnl := rfl
@[simp] theorem State.modObj_rcd (o : Nat) (f : Obj → Obj) : (s.modObj o f).rcd = s.rcd := rfl
@[simp] theorem State.modObj_keep (o : Nat) (f : Obj → Obj) : (s.modObj o f).keep = s.keep := rfl
@[simp] theorem State.modObj_ports (o : Nat) (f : Obj → Obj) : (s.modObj o f).ports = s.ports := rfl
@[simp] theorem State.modObj_pool (o : Nat) (f : Obj → Obj) : (s.modObj o f).pool = s.pool := rfl
@[simp] theorem State.modObj_mem (o : Nat) (f : Obj → Obj) : (s.modObj o f).mem = s.mem := rfl
@[simp] theorem State.modObj_flt (o : Nat) (f : Obj → Obj) : (s.modObj o f).flt = s.flt := rfl
@[simp] theorem State.modObj_routes (o : Nat) (f : Obj → Obj) : (s.modObj o f).routes = s.routes := rfl
@[simp] theorem State.modObj_pairs (o : Nat) (f : Obj → Obj) : (s.modObj o f).pairs = s.pairs := rfl
@[simp] theorem State.modObj_copiesPrev (o : Nat) (f : Obj → Obj) : (s.modObj o f).copiesPrev = s.copiesPrev := rfl
@[simp] theorem State.modObj_copyNext (o : Nat) (f : Obj → Obj) : (s.modObj o f).copyNext = s.copyNext := rfl
@[simp] theorem State.modObj_dense (o : Nat) (f : Obj → Obj) : (s.modObj o f).dense = s.dense := rfl
@[simp] theorem State.modObj_dlv (o : Nat) (f : Obj → Obj) : (s.modObj o f).dlv = s.dlv := rfl
@[simp] theorem State.modObj_trk (o : Nat) (f : Obj → Obj) : (s.modObj o f).trk = s.trk := rfl
@[simp] theorem State.modObj_trk2 (o : Nat) (f : Obj → Obj) : (s.modObj o f).trk2 = s.trk2 := rfl
@[simp] theorem State.modObj_fw (o : Nat) (f : Obj → Obj) : (s.modObj o f).fw = s.fw := rfl
@[simp] theorem State.modObj_engines (o : Nat) (f : Obj → Obj) : (s.modObj o f).engines = s.engines := rfl
@[simp] theorem State.modObj_canvas (o : Nat) (f : Obj → Obj) : (s.modObj o f).canvas = s.canvas := rfl
@[simp] theorem State.modObj_twd (o : Nat) (f : Obj → Obj) : (s.modObj o f).twd = s.twd := rfl
@[simp] theorem State.modObj_pwr (o : Nat) (f : Obj → Obj) : (s.modObj o f).pwr = s.pwr := rfl
@[simp] theorem State.modObj_pwr2 (o : Nat) (f : Obj → Obj) : (s.modObj o f).pwr2 = s.pwr2 := rfl
@[simp] theorem State.modObj_link (o : Nat) (f : Obj → Obj) : (s.modObj o f).link = s.link := rfl
@[simp] theorem State.modObj_fld (o : Nat) (f : Obj → Obj) : (s.modObj o f).fld = s.fld := rfl
@[simp] theorem State.modObj_mgt (o : Nat) (f : Obj → Obj) : (s.modObj o f).mgt = s.mgt := rfl
@[simp] theorem State.modObj_kept (o : Nat) (f : Obj → Obj) : (s.modObj o f).kept = s.kept := rfl
@[simp] theorem State.modObj_out (o : Nat) (f : Obj → Obj) : (s.modObj o f).out = s.out := rfl
@[simp] theorem State.modObj_pending (o : Nat) (f : Obj → Obj) : (s.modObj o f).pending = s.pending := rfl

@[simp] theorem State.modTarget_clk (t : Nat) (f : IrqTarget → IrqTarget) : (s.modTarget t f).clk = s.clk := rfl
@[simp] theorem State.modTarget_dev (t : Nat) (f : IrqTarget → IrqTarget) : (s.modTarget t f).dev = s.dev := rfl
@[simp] theorem State.modTarget_run (t : Nat) (f : IrqTarget → IrqTarget) : (s.modTarget t f).run = s.run := rfl
@[simp] theorem State.modTarget_hosts (t : Nat) (f : IrqTarget → IrqTarget) : (s.modTarget t f).hosts = s.hosts := rfl
@[simp] theorem State.modTarget_cmds (t : Nat) (f : IrqTarget → IrqTarget) : (s.modTarget t f).cmds = s.cmds := rfl
@[simp] theorem State.modTarget_jnl (t : Nat) (f : IrqTarget → IrqTarget) : (s.modTarget t f).jnl = s.jnl := rfl
@[simp] theorem State.modTarget_rcd (t : Nat) (f : IrqTarget → IrqTarget) : (s.modTarget t f).rcd = s.rcd := rfl
@[simp] theorem State.modTarget_keep (t : Nat) (f : IrqTarget → IrqTarget) : (s.modTarget t f).keep = s.keep := rfl
@[simp] theorem State.modTarget_ports (t : Nat) (f : IrqTarget → IrqTarget) : (s.modTarget t f).ports = s.ports := rfl
@[simp] theorem State.modTarget_objs (t : Nat) (f : IrqTarget → IrqTarget) : (s.modTarget t f).objs = s.objs := rfl
@[simp] theorem State.modTarget_pool (t : Nat) (f : IrqTarget → IrqTarget) : (s.modTarget t f).pool = s.pool := rfl
@[simp] theorem State.modTarget_mem (t : Nat) (f : IrqTarget → IrqTarget) : (s.modTarget t f).mem = s.mem := rfl
@[simp] theorem State.modTarget_flt (t : Nat) (f : IrqTarget → IrqTarget) : (s.modTarget t f).flt = s.flt := rfl
@[simp] theorem State.modTarget_routes (t : Nat) (f : IrqTarget → IrqTarget) : (s.modTarget t f).routes = s.routes := rfl
@[simp] theorem State.modTarget_pairs (t : Nat) (f : IrqTarget → IrqTarget) : (s.modTarget t f).pairs = s.pairs := rfl
@[simp] theorem State.modTarget_copiesPrev (t : Nat) (f : IrqTarget → IrqTarget) : (s.modTarget t f).copiesPrev = s.copiesPrev := rfl
@[simp] theorem State.modTarget_copyNext (t : Nat) (f : IrqTarget → IrqTarget) : (s.modTarget t f).copyNext = s.copyNext := rfl
@[simp] theorem State.modTarget_dense (t : Nat) (f : IrqTarget → IrqTarget) : (s.modTarget t f).dense = s.dense := rfl
@[simp] theorem State.modTarget_dlv (t : Nat) (f : IrqTarget → IrqTarget) : (s.modTarget t f).dlv = s.dlv := rfl
@[simp] theorem State.modTarget_trk (t : Nat) (f : IrqTarget → IrqTarget) : (s.modTarget t f).trk = s.trk := rfl
@[simp] theorem State.modTarget_trk2 (t : Nat) (f : IrqTarget → IrqTarget) : (s.modTarget t f).trk2 = s.trk2 := rfl
@[simp] theorem State.modTarget_fw (t : Nat) (f : IrqTarget → IrqTarget) : (s.modTarget t f).fw = s.fw := rfl
@[simp] theorem State.modTarget_engines (t : Nat) (f : IrqTarget → IrqTarget) : (s.modTarget t f).engines = s.engines := rfl
@[simp] theorem State.modTarget_canvas (t : Nat) (f : IrqTarget → IrqTarget) : (s.modTarget t f).canvas = s.canvas := rfl
@[simp] theorem State.modTarget_twd (t : Nat) (f : IrqTarget → IrqTarget) : (s.modTarget t f).twd = s.twd := rfl
@[simp] theorem State.modTarget_pwr (t : Nat) (f : IrqTarget → IrqTarget) : (s.modTarget t f).pwr = s.pwr := rfl
@[simp] theorem State.modTarget_pwr2 (t : Nat) (f : IrqTarget → IrqTarget) : (s.modTarget t f).pwr2 = s.pwr2 := rfl
@[simp] theorem State.modTarget_link (t : Nat) (f : IrqTarget → IrqTarget) : (s.modTarget t f).link = s.link := rfl
@[simp] theorem State.modTarget_fld (t : Nat) (f : IrqTarget → IrqTarget) : (s.modTarget t f).fld = s.fld := rfl
@[simp] theorem State.modTarget_mgt (t : Nat) (f : IrqTarget → IrqTarget) : (s.modTarget t f).mgt = s.mgt := rfl
@[simp] theorem State.modTarget_kept (t : Nat) (f : IrqTarget → IrqTarget) : (s.modTarget t f).kept = s.kept := rfl
@[simp] theorem State.modTarget_out (t : Nat) (f : IrqTarget → IrqTarget) : (s.modTarget t f).out = s.out := rfl
@[simp] theorem State.modTarget_pending (t : Nat) (f : IrqTarget → IrqTarget) : (s.modTarget t f).pending = s.pending := rfl

@[simp] theorem State.emit_clk (o : Out) : (s.emit o).clk = s.clk := rfl
@[simp] theorem State.emit_dev (o : Out) : (s.emit o).dev = s.dev := rfl
@[simp] theorem State.emit_run (o : Out) : (s.emit o).run = s.run := rfl
@[simp] theorem State.emit_irq (o : Out) : (s.emit o).irq = s.irq := rfl
@[simp] theorem State.emit_hosts (o : Out) : (s.emit o).hosts = s.hosts := rfl
@[simp] theorem State.emit_cmds (o : Out) : (s.emit o).cmds = s.cmds := rfl
@[simp] theorem State.emit_jnl (o : Out) : (s.emit o).jnl = s.jnl := rfl
@[simp] theorem State.emit_rcd (o : Out) : (s.emit o).rcd = s.rcd := rfl
@[simp] theorem State.emit_keep (o : Out) : (s.emit o).keep = s.keep := rfl
@[simp] theorem State.emit_ports (o : Out) : (s.emit o).ports = s.ports := rfl
@[simp] theorem State.emit_objs (o : Out) : (s.emit o).objs = s.objs := rfl
@[simp] theorem State.emit_pool (o : Out) : (s.emit o).pool = s.pool := rfl
@[simp] theorem State.emit_mem (o : Out) : (s.emit o).mem = s.mem := rfl
@[simp] theorem State.emit_flt (o : Out) : (s.emit o).flt = s.flt := rfl
@[simp] theorem State.emit_routes (o : Out) : (s.emit o).routes = s.routes := rfl
@[simp] theorem State.emit_pairs (o : Out) : (s.emit o).pairs = s.pairs := rfl
@[simp] theorem State.emit_copiesPrev (o : Out) : (s.emit o).copiesPrev = s.copiesPrev := rfl
@[simp] theorem State.emit_copyNext (o : Out) : (s.emit o).copyNext = s.copyNext := rfl
@[simp] theorem State.emit_dense (o : Out) : (s.emit o).dense = s.dense := rfl
@[simp] theorem State.emit_dlv (o : Out) : (s.emit o).dlv = s.dlv := rfl
@[simp] theorem State.emit_trk (o : Out) : (s.emit o).trk = s.trk := rfl
@[simp] theorem State.emit_trk2 (o : Out) : (s.emit o).trk2 = s.trk2 := rfl
@[simp] theorem State.emit_fw (o : Out) : (s.emit o).fw = s.fw := rfl
@[simp] theorem State.emit_engines (o : Out) : (s.emit o).engines = s.engines := rfl
@[simp] theorem State.emit_canvas (o : Out) : (s.emit o).canvas = s.canvas := rfl
@[simp] theorem State.emit_twd (o : Out) : (s.emit o).twd = s.twd := rfl
@[simp] theorem State.emit_pwr (o : Out) : (s.emit o).pwr = s.pwr := rfl
@[simp] theorem State.emit_pwr2 (o : Out) : (s.emit o).pwr2 = s.pwr2 := rfl
@[simp] theorem State.emit_link (o : Out) : (s.emit o).link = s.link := rfl
@[simp] theorem State.emit_fld (o : Out) : (s.emit o).fld = s.fld := rfl
@[simp] theorem State.emit_mgt (o : Out) : (s.emit o).mgt = s.mgt := rfl
@[simp] theorem State.emit_kept (o : Out) : (s.emit o).kept = s.kept := rfl
@[simp] theorem State.emit_pending (o : Out) : (s.emit o).pending = s.pending := rfl

@[simp] theorem State.modEngine_clk (e : Nat) (f : Engine → Engine) : (s.modEngine e f).clk = s.clk := rfl
@[simp] theorem State.modEngine_dev (e : Nat) (f : Engine → Engine) : (s.modEngine e f).dev = s.dev := rfl
@[simp] theorem State.modEngine_run (e : Nat) (f : Engine → Engine) : (s.modEngine e f).run = s.run := rfl
@[simp] theorem State.modEngine_irq (e : Nat) (f : Engine → Engine) : (s.modEngine e f).irq = s.irq := rfl
@[simp] theorem State.modEngine_hosts (e : Nat) (f : Engine → Engine) : (s.modEngine e f).hosts = s.hosts := rfl
@[simp] theorem State.modEngine_cmds (e : Nat) (f : Engine → Engine) : (s.modEngine e f).cmds = s.cmds := rfl
@[simp] theorem State.modEngine_jnl (e : Nat) (f : Engine → Engine) : (s.modEngine e f).jnl = s.jnl := rfl
@[simp] theorem State.modEngine_rcd (e : Nat) (f : Engine → Engine) : (s.modEngine e f).rcd = s.rcd := rfl
@[simp] theorem State.modEngine_keep (e : Nat) (f : Engine → Engine) : (s.modEngine e f).keep = s.keep := rfl
@[simp] theorem State.modEngine_ports (e : Nat) (f : Engine → Engine) : (s.modEngine e f).ports = s.ports := rfl
@[simp] theorem State.modEngine_objs (e : Nat) (f : Engine → Engine) : (s.modEngine e f).objs = s.objs := rfl
@[simp] theorem State.modEngine_pool (e : Nat) (f : Engine → Engine) : (s.modEngine e f).pool = s.pool := rfl
@[simp] theorem State.modEngine_mem (e : Nat) (f : Engine → Engine) : (s.modEngine e f).mem = s.mem := rfl
@[simp] theorem State.modEngine_flt (e : Nat) (f : Engine → Engine) : (s.modEngine e f).flt = s.flt := rfl
@[simp] theorem State.modEngine_routes (e : Nat) (f : Engine → Engine) : (s.modEngine e f).routes = s.routes := rfl
@[simp] theorem State.modEngine_pairs (e : Nat) (f : Engine → Engine) : (s.modEngine e f).pairs = s.pairs := rfl
@[simp] theorem State.modEngine_copiesPrev (e : Nat) (f : Engine → Engine) : (s.modEngine e f).copiesPrev = s.copiesPrev := rfl
@[simp] theorem State.modEngine_copyNext (e : Nat) (f : Engine → Engine) : (s.modEngine e f).copyNext = s.copyNext := rfl
@[simp] theorem State.modEngine_dense (e : Nat) (f : Engine → Engine) : (s.modEngine e f).dense = s.dense := rfl
@[simp] theorem State.modEngine_dlv (e : Nat) (f : Engine → Engine) : (s.modEngine e f).dlv = s.dlv := rfl
@[simp] theorem State.modEngine_trk (e : Nat) (f : Engine → Engine) : (s.modEngine e f).trk = s.trk := rfl
@[simp] theorem State.modEngine_trk2 (e : Nat) (f : Engine → Engine) : (s.modEngine e f).trk2 = s.trk2 := rfl
@[simp] theorem State.modEngine_fw (e : Nat) (f : Engine → Engine) : (s.modEngine e f).fw = s.fw := rfl
@[simp] theorem State.modEngine_canvas (e : Nat) (f : Engine → Engine) : (s.modEngine e f).canvas = s.canvas := rfl
@[simp] theorem State.modEngine_twd (e : Nat) (f : Engine → Engine) : (s.modEngine e f).twd = s.twd := rfl
@[simp] theorem State.modEngine_pwr (e : Nat) (f : Engine → Engine) : (s.modEngine e f).pwr = s.pwr := rfl
@[simp] theorem State.modEngine_pwr2 (e : Nat) (f : Engine → Engine) : (s.modEngine e f).pwr2 = s.pwr2 := rfl
@[simp] theorem State.modEngine_link (e : Nat) (f : Engine → Engine) : (s.modEngine e f).link = s.link := rfl
@[simp] theorem State.modEngine_fld (e : Nat) (f : Engine → Engine) : (s.modEngine e f).fld = s.fld := rfl
@[simp] theorem State.modEngine_mgt (e : Nat) (f : Engine → Engine) : (s.modEngine e f).mgt = s.mgt := rfl
@[simp] theorem State.modEngine_kept (e : Nat) (f : Engine → Engine) : (s.modEngine e f).kept = s.kept := rfl
@[simp] theorem State.modEngine_out (e : Nat) (f : Engine → Engine) : (s.modEngine e f).out = s.out := rfl
@[simp] theorem State.modEngine_pending (e : Nat) (f : Engine → Engine) : (s.modEngine e f).pending = s.pending := rfl

@[simp] theorem State.modPart_clk (p : Nat) (f : Part → Part) : (s.modPart p f).clk = s.clk := rfl
@[simp] theorem State.modPart_dev (p : Nat) (f : Part → Part) : (s.modPart p f).dev = s.dev := rfl
@[simp] theorem State.modPart_run (p : Nat) (f : Part → Part) : (s.modPart p f).run = s.run := rfl
@[simp] theorem State.modPart_irq (p : Nat) (f : Part → Part) : (s.modPart p f).irq = s.irq := rfl
@[simp] theorem State.modPart_hosts (p : Nat) (f : Part → Part) : (s.modPart p f).hosts = s.hosts := rfl
@[simp] theorem State.modPart_cmds (p : Nat) (f : Part → Part) : (s.modPart p f).cmds = s.cmds := rfl
@[simp] theorem State.modPart_jnl (p : Nat) (f : Part → Part) : (s.modPart p f).jnl = s.jnl := rfl
@[simp] theorem State.modPart_rcd (p : Nat) (f : Part → Part) : (s.modPart p f).rcd = s.rcd := rfl
@[simp] theorem State.modPart_keep (p : Nat) (f : Part → Part) : (s.modPart p f).keep = s.keep := rfl
@[simp] theorem State.modPart_ports (p : Nat) (f : Part → Part) : (s.modPart p f).ports = s.ports := rfl
@[simp] theorem State.modPart_objs (p : Nat) (f : Part → Part) : (s.modPart p f).objs = s.objs := rfl
@[simp] theorem State.modPart_pool (p : Nat) (f : Part → Part) : (s.modPart p f).pool = s.pool := rfl
@[simp] theorem State.modPart_mem (p : Nat) (f : Part → Part) : (s.modPart p f).mem = s.mem := rfl
@[simp] theorem State.modPart_flt (p : Nat) (f : Part → Part) : (s.modPart p f).flt = s.flt := rfl
@[simp] theorem State.modPart_routes (p : Nat) (f : Part → Part) : (s.modPart p f).routes = s.routes := rfl
@[simp] theorem State.modPart_pairs (p : Nat) (f : Part → Part) : (s.modPart p f).pairs = s.pairs := rfl
@[simp] theorem State.modPart_copiesPrev (p : Nat) (f : Part → Part) : (s.modPart p f).copiesPrev = s.copiesPrev := rfl
@[simp] theorem State.modPart_copyNext (p : Nat) (f : Part → Part) : (s.modPart p f).copyNext = s.copyNext := rfl
@[simp] theorem State.modPart_dense (p : Nat) (f : Part → Part) : (s.modPart p f).dense = s.dense := rfl
@[simp] theorem State.modPart_dlv (p : Nat) (f : Part → Part) : (s.modPart p f).dlv = s.dlv := rfl
@[simp] theorem State.modPart_trk (p : Nat) (f : Part → Part) : (s.modPart p f).trk = s.trk := rfl
@[simp] theorem State.modPart_trk2 (p : Nat) (f : Part → Part) : (s.modPart p f).trk2 = s.trk2 := rfl
@[simp] theorem State.modPart_engines (p : Nat) (f : Part → Part) : (s.modPart p f).engines = s.engines := rfl
@[simp] theorem State.modPart_canvas (p : Nat) (f : Part → Part) : (s.modPart p f).canvas = s.canvas := rfl
@[simp] theorem State.modPart_twd (p : Nat) (f : Part → Part) : (s.modPart p f).twd = s.twd := rfl
@[simp] theorem State.modPart_pwr (p : Nat) (f : Part → Part) : (s.modPart p f).pwr = s.pwr := rfl
@[simp] theorem State.modPart_pwr2 (p : Nat) (f : Part → Part) : (s.modPart p f).pwr2 = s.pwr2 := rfl
@[simp] theorem State.modPart_link (p : Nat) (f : Part → Part) : (s.modPart p f).link = s.link := rfl
@[simp] theorem State.modPart_fld (p : Nat) (f : Part → Part) : (s.modPart p f).fld = s.fld := rfl
@[simp] theorem State.modPart_mgt (p : Nat) (f : Part → Part) : (s.modPart p f).mgt = s.mgt := rfl
@[simp] theorem State.modPart_kept (p : Nat) (f : Part → Part) : (s.modPart p f).kept = s.kept := rfl
@[simp] theorem State.modPart_out (p : Nat) (f : Part → Part) : (s.modPart p f).out = s.out := rfl
@[simp] theorem State.modPart_pending (p : Nat) (f : Part → Part) : (s.modPart p f).pending = s.pending := rfl

@[simp] theorem State.modStream_clk (st : Stream) (f : StreamState → StreamState) : (s.modStream st f).clk = s.clk := rfl
@[simp] theorem State.modStream_dev (st : Stream) (f : StreamState → StreamState) : (s.modStream st f).dev = s.dev := rfl
@[simp] theorem State.modStream_run (st : Stream) (f : StreamState → StreamState) : (s.modStream st f).run = s.run := rfl
@[simp] theorem State.modStream_irq (st : Stream) (f : StreamState → StreamState) : (s.modStream st f).irq = s.irq := rfl
@[simp] theorem State.modStream_hosts (st : Stream) (f : StreamState → StreamState) : (s.modStream st f).hosts = s.hosts := rfl
@[simp] theorem State.modStream_jnl (st : Stream) (f : StreamState → StreamState) : (s.modStream st f).jnl = s.jnl := rfl
@[simp] theorem State.modStream_rcd (st : Stream) (f : StreamState → StreamState) : (s.modStream st f).rcd = s.rcd := rfl
@[simp] theorem State.modStream_keep (st : Stream) (f : StreamState → StreamState) : (s.modStream st f).keep = s.keep := rfl
@[simp] theorem State.modStream_ports (st : Stream) (f : StreamState → StreamState) : (s.modStream st f).ports = s.ports := rfl
@[simp] theorem State.modStream_objs (st : Stream) (f : StreamState → StreamState) : (s.modStream st f).objs = s.objs := rfl
@[simp] theorem State.modStream_pool (st : Stream) (f : StreamState → StreamState) : (s.modStream st f).pool = s.pool := rfl
@[simp] theorem State.modStream_mem (st : Stream) (f : StreamState → StreamState) : (s.modStream st f).mem = s.mem := rfl
@[simp] theorem State.modStream_flt (st : Stream) (f : StreamState → StreamState) : (s.modStream st f).flt = s.flt := rfl
@[simp] theorem State.modStream_routes (st : Stream) (f : StreamState → StreamState) : (s.modStream st f).routes = s.routes := rfl
@[simp] theorem State.modStream_pairs (st : Stream) (f : StreamState → StreamState) : (s.modStream st f).pairs = s.pairs := rfl
@[simp] theorem State.modStream_copiesPrev (st : Stream) (f : StreamState → StreamState) : (s.modStream st f).copiesPrev = s.copiesPrev := rfl
@[simp] theorem State.modStream_copyNext (st : Stream) (f : StreamState → StreamState) : (s.modStream st f).copyNext = s.copyNext := rfl
@[simp] theorem State.modStream_dense (st : Stream) (f : StreamState → StreamState) : (s.modStream st f).dense = s.dense := rfl
@[simp] theorem State.modStream_dlv (st : Stream) (f : StreamState → StreamState) : (s.modStream st f).dlv = s.dlv := rfl
@[simp] theorem State.modStream_trk (st : Stream) (f : StreamState → StreamState) : (s.modStream st f).trk = s.trk := rfl
@[simp] theorem State.modStream_trk2 (st : Stream) (f : StreamState → StreamState) : (s.modStream st f).trk2 = s.trk2 := rfl
@[simp] theorem State.modStream_fw (st : Stream) (f : StreamState → StreamState) : (s.modStream st f).fw = s.fw := rfl
@[simp] theorem State.modStream_engines (st : Stream) (f : StreamState → StreamState) : (s.modStream st f).engines = s.engines := rfl
@[simp] theorem State.modStream_canvas (st : Stream) (f : StreamState → StreamState) : (s.modStream st f).canvas = s.canvas := rfl
@[simp] theorem State.modStream_twd (st : Stream) (f : StreamState → StreamState) : (s.modStream st f).twd = s.twd := rfl
@[simp] theorem State.modStream_pwr (st : Stream) (f : StreamState → StreamState) : (s.modStream st f).pwr = s.pwr := rfl
@[simp] theorem State.modStream_pwr2 (st : Stream) (f : StreamState → StreamState) : (s.modStream st f).pwr2 = s.pwr2 := rfl
@[simp] theorem State.modStream_link (st : Stream) (f : StreamState → StreamState) : (s.modStream st f).link = s.link := rfl
@[simp] theorem State.modStream_fld (st : Stream) (f : StreamState → StreamState) : (s.modStream st f).fld = s.fld := rfl
@[simp] theorem State.modStream_mgt (st : Stream) (f : StreamState → StreamState) : (s.modStream st f).mgt = s.mgt := rfl
@[simp] theorem State.modStream_kept (st : Stream) (f : StreamState → StreamState) : (s.modStream st f).kept = s.kept := rfl
@[simp] theorem State.modStream_out (st : Stream) (f : StreamState → StreamState) : (s.modStream st f).out = s.out := rfl
@[simp] theorem State.modStream_pending (st : Stream) (f : StreamState → StreamState) : (s.modStream st f).pending = s.pending := rfl

@[simp] theorem State.modOut_clk (o : Nat) (g : DoS → DoS) : (s.modOut o g).clk = s.clk := rfl
@[simp] theorem State.modOut_dev (o : Nat) (g : DoS → DoS) : (s.modOut o g).dev = s.dev := rfl
@[simp] theorem State.modOut_run (o : Nat) (g : DoS → DoS) : (s.modOut o g).run = s.run := rfl
@[simp] theorem State.modOut_irq (o : Nat) (g : DoS → DoS) : (s.modOut o g).irq = s.irq := rfl
@[simp] theorem State.modOut_hosts (o : Nat) (g : DoS → DoS) : (s.modOut o g).hosts = s.hosts := rfl
@[simp] theorem State.modOut_cmds (o : Nat) (g : DoS → DoS) : (s.modOut o g).cmds = s.cmds := rfl
@[simp] theorem State.modOut_jnl (o : Nat) (g : DoS → DoS) : (s.modOut o g).jnl = s.jnl := rfl
@[simp] theorem State.modOut_rcd (o : Nat) (g : DoS → DoS) : (s.modOut o g).rcd = s.rcd := rfl
@[simp] theorem State.modOut_keep (o : Nat) (g : DoS → DoS) : (s.modOut o g).keep = s.keep := rfl
@[simp] theorem State.modOut_ports (o : Nat) (g : DoS → DoS) : (s.modOut o g).ports = s.ports := rfl
@[simp] theorem State.modOut_objs (o : Nat) (g : DoS → DoS) : (s.modOut o g).objs = s.objs := rfl
@[simp] theorem State.modOut_pool (o : Nat) (g : DoS → DoS) : (s.modOut o g).pool = s.pool := rfl
@[simp] theorem State.modOut_mem (o : Nat) (g : DoS → DoS) : (s.modOut o g).mem = s.mem := rfl
@[simp] theorem State.modOut_flt (o : Nat) (g : DoS → DoS) : (s.modOut o g).flt = s.flt := rfl
@[simp] theorem State.modOut_routes (o : Nat) (g : DoS → DoS) : (s.modOut o g).routes = s.routes := rfl
@[simp] theorem State.modOut_pairs (o : Nat) (g : DoS → DoS) : (s.modOut o g).pairs = s.pairs := rfl
@[simp] theorem State.modOut_copiesPrev (o : Nat) (g : DoS → DoS) : (s.modOut o g).copiesPrev = s.copiesPrev := rfl
@[simp] theorem State.modOut_copyNext (o : Nat) (g : DoS → DoS) : (s.modOut o g).copyNext = s.copyNext := rfl
@[simp] theorem State.modOut_dense (o : Nat) (g : DoS → DoS) : (s.modOut o g).dense = s.dense := rfl
@[simp] theorem State.modOut_dlv (o : Nat) (g : DoS → DoS) : (s.modOut o g).dlv = s.dlv := rfl
@[simp] theorem State.modOut_trk (o : Nat) (g : DoS → DoS) : (s.modOut o g).trk = s.trk := rfl
@[simp] theorem State.modOut_trk2 (o : Nat) (g : DoS → DoS) : (s.modOut o g).trk2 = s.trk2 := rfl
@[simp] theorem State.modOut_fw (o : Nat) (g : DoS → DoS) : (s.modOut o g).fw = s.fw := rfl
@[simp] theorem State.modOut_engines (o : Nat) (g : DoS → DoS) : (s.modOut o g).engines = s.engines := rfl
@[simp] theorem State.modOut_canvas (o : Nat) (g : DoS → DoS) : (s.modOut o g).canvas = s.canvas := rfl
@[simp] theorem State.modOut_twd (o : Nat) (g : DoS → DoS) : (s.modOut o g).twd = s.twd := rfl
@[simp] theorem State.modOut_pwr (o : Nat) (g : DoS → DoS) : (s.modOut o g).pwr = s.pwr := rfl
@[simp] theorem State.modOut_pwr2 (o : Nat) (g : DoS → DoS) : (s.modOut o g).pwr2 = s.pwr2 := rfl
@[simp] theorem State.modOut_link (o : Nat) (g : DoS → DoS) : (s.modOut o g).link = s.link := rfl
@[simp] theorem State.modOut_mgt (o : Nat) (g : DoS → DoS) : (s.modOut o g).mgt = s.mgt := rfl
@[simp] theorem State.modOut_kept (o : Nat) (g : DoS → DoS) : (s.modOut o g).kept = s.kept := rfl
@[simp] theorem State.modOut_out (o : Nat) (g : DoS → DoS) : (s.modOut o g).out = s.out := rfl
@[simp] theorem State.modOut_pending (o : Nat) (g : DoS → DoS) : (s.modOut o g).pending = s.pending := rfl

end Sys2Proof.Machine
end

