-- ==== Sys2Proof/Laws/Table.lean ====
section
/-! SUPPORT. Tables and the addressed memory: reading after writing, and the canonical forms that every write keeps. -/

namespace Sys2Proof.Machine

/-! ## Tables -/

@[simp] theorem Tbl.get_put_self {α : Type} (d v : α) (k : Nat) (t : Tbl α) : (t.put k v).get d k = v := by
  induction t with
  | nil => simp [Tbl.put, Tbl.get]
  | cons e t ih =>
    obtain ⟨i, w⟩ := e
    simp only [Tbl.put]
    split
    · simp [Tbl.get]
    · split
      · simp [Tbl.get]
      · rename_i h
        simp only [Tbl.get]
        rw [if_neg (fun e => h e.symm), ih]

theorem Tbl.get_put_ne {α : Type} (d v : α) (k j : Nat) (h : j ≠ k) (t : Tbl α) : (t.put k v).get d j = t.get d j := by
  induction t with
  | nil => simp [Tbl.put, Tbl.get, Ne.symm h]
  | cons e t ih =>
    obtain ⟨i, w⟩ := e
    simp only [Tbl.put]
    split
    · simp [Tbl.get, Ne.symm h]
    · split
      · rename_i h2
        subst h2
        simp [Tbl.get, Ne.symm h]
      · simp [Tbl.get, ih]

@[simp] theorem Tbl.find_put_self {α : Type} (v : α) (k : Nat) (t : Tbl α) : (t.put k v).find k = some v := by
  induction t with
  | nil => simp [Tbl.put, Tbl.find]
  | cons e t ih =>
    obtain ⟨i, w⟩ := e
    simp only [Tbl.put]
    split
    · simp [Tbl.find]
    · split
      · simp [Tbl.find]
      · rename_i h
        simp only [Tbl.find]
        rw [if_neg (fun e => h e.symm), ih]

theorem Tbl.find_put_ne {α : Type} (v : α) (k j : Nat) (h : j ≠ k) (t : Tbl α) : (t.put k v).find j = t.find j := by
  induction t with
  | nil => simp [Tbl.put, Tbl.find, Ne.symm h]
  | cons e t ih =>
    obtain ⟨i, w⟩ := e
    simp only [Tbl.put]
    split
    · simp [Tbl.find, Ne.symm h]
    · split
      · rename_i h2
        subst h2
        simp [Tbl.find, Ne.symm h]
      · simp [Tbl.find, ih]

@[simp] theorem Tbl.get_del_self {α : Type} (d : α) (k : Nat) (t : Tbl α) : (t.del k).get d k = d := by
  induction t with
  | nil => rfl
  | cons e t ih =>
    obtain ⟨i, w⟩ := e
    simp only [Tbl.del]
    split
    · exact ih
    · rename_i h
      simp only [Tbl.get]
      rw [if_neg h, ih]

/-! ## Values for the two hosts -/

@[simp] theorem PerHost.get_set_self {α : Type} (p : PerHost α) (h : HostId) (v : α) : (p.set h v).get h = v := by
  cases h <;> rfl

theorem PerHost.get_set_ne {α : Type} (p : PerHost α) (h k : HostId) (v : α) (hk : k ≠ h) : (p.set h v).get k = p.get k := by
  cases h <;> cases k <;> first | rfl | exact absurd rfl hk

/-! ## Memory -/

@[simp] theorem Mem.read_write_self (m : Mem) (a : Nat) (b : Byte) (lo : Nat) (h : Mem.wfFrom lo m = true) :
    (m.write a b).read a = b := by
  induction m generalizing lo with
  | nil => by_cases hb : b = 0#8 <;> simp [Mem.write, Mem.read, hb]
  | cons e m ih =>
    obtain ⟨i, c⟩ := e
    simp only [Mem.wfFrom, Bool.and_eq_true, decide_eq_true_eq] at h
    have gone : ∀ (l : Nat) (m : Mem) (x : Nat), Mem.wfFrom l m = true → x < l → m.read x = 0 := by
      intro l m
      induction m generalizing l with
      | nil => intro x _ _; rfl
      | cons e m ih =>
        obtain ⟨j, d⟩ := e
        intro x hw hx
        simp only [Mem.wfFrom, Bool.and_eq_true, decide_eq_true_eq] at hw
        have : j ≠ x := by omega
        simp only [Mem.read, this, if_false]
        exact ih (j + 1) x hw.2 (by omega)
    simp only [Mem.write]
    split
    · rename_i hlt
      split
      · rename_i hb
        have : i ≠ a := by omega
        simp only [Mem.read, this, if_false, hb]
        exact gone _ _ _ h.2 (by omega)
      · simp [Mem.read]
    · split
      · rename_i heq
        split
        · rename_i hb
          rw [hb]
          exact gone _ _ _ h.2 (by omega)
        · simp [Mem.read]
      · rename_i hne
        have : i ≠ a := fun e => hne e.symm
        simp only [Mem.read, this, if_false]
        exact ih (i + 1) h.2

theorem Mem.read_write_ne (m : Mem) (a x : Nat) (b : Byte) (hx : x ≠ a) : (m.write a b).read x = m.read x := by
  induction m with
  | nil => by_cases hb : b = 0#8 <;> simp [Mem.write, Mem.read, hb, Ne.symm hx]
  | cons e m ih =>
    obtain ⟨i, c⟩ := e
    simp only [Mem.write]
    split
    · split
      · rfl
      · simp [Mem.read, Ne.symm hx]
    · split
      · rename_i heq
        subst heq
        split <;> simp [Mem.read, Ne.symm hx]
      · simp [Mem.read, ih]

theorem Mem.wfFrom_write (m : Mem) (a lo : Nat) (b : Byte) (h : Mem.wfFrom lo m = true) (hl : lo ≤ a) :
    Mem.wfFrom lo (m.write a b) = true := by
  induction m generalizing lo with
  | nil =>
    by_cases hb : b = 0#8
    · simp [Mem.write, hb, Mem.wfFrom]
    · simp [Mem.write, hb, Mem.wfFrom, hl]
  | cons e m ih =>
    obtain ⟨i, c⟩ := e
    simp only [Mem.wfFrom, Bool.and_eq_true, decide_eq_true_eq, bne_iff_ne, ne_eq] at h
    have mono : ∀ (l k : Nat) (m : Mem), l ≤ k → Mem.wfFrom k m = true → Mem.wfFrom l m = true := by
      intro l k m hlk hw
      cases m with
      | nil => rfl
      | cons e m =>
        obtain ⟨j, d⟩ := e
        simp only [Mem.wfFrom, Bool.and_eq_true, decide_eq_true_eq] at hw ⊢
        exact ⟨⟨by omega, hw.1.2⟩, hw.2⟩
    simp only [Mem.write]
    split
    · rename_i hlt
      split
      · simp only [Mem.wfFrom, Bool.and_eq_true, decide_eq_true_eq, bne_iff_ne, ne_eq]
        exact h
      · rename_i hb
        simp only [Mem.wfFrom, Bool.and_eq_true, decide_eq_true_eq, bne_iff_ne, ne_eq]
        exact ⟨⟨hl, hb⟩, ⟨by omega, h.1.2⟩, h.2⟩
    · split
      · rename_i heq
        split
        · exact mono lo (i + 1) m (by omega) h.2
        · rename_i hb
          simp only [Mem.wfFrom, Bool.and_eq_true, decide_eq_true_eq, bne_iff_ne, ne_eq]
          exact ⟨⟨hl, hb⟩, by rw [heq]; exact h.2⟩
      · simp only [Mem.wfFrom, Bool.and_eq_true, decide_eq_true_eq, bne_iff_ne, ne_eq]
        exact ⟨h.1, ih (i + 1) h.2 (by omega)⟩

/-- A write keeps the canonical form. -/
theorem Memory.wf_write (m : Mem) (a : Nat) (b : Byte) (h : Memory.wf m = true) : Memory.wf (m.write a b) = true :=
  Mem.wfFrom_write m a 0 b h (Nat.zero_le a)

/-- So does a write of several bytes. -/
theorem Memory.wf_writeN (m : Mem) (a : Nat) (bs : List Byte) (h : Memory.wf m = true) :
    Memory.wf (m.writeN a bs) = true := by
  induction bs generalizing m a with
  | nil => exact h
  | cons b bs ih => exact ih _ _ (Memory.wf_write m a b h)

/-- So do writes of zeros. -/
theorem Memory.wf_zeroN (m : Mem) (a n : Nat) (h : Memory.wf m = true) : Memory.wf (m.zeroN a n) = true := by
  induction n generalizing m a with
  | zero => exact h
  | succ n ih => exact ih _ _ (Memory.wf_write m a 0 h)

end Sys2Proof.Machine
end

