-- ==== Sys2Proof/Laws/Ops.lean ====
section
/-! SUPPORT. What each shared operation leaves as it was, piece by piece, and what it does. -/

namespace Sys2Proof.Machine

/-- What every single change keeps, the changes of a list keep. -/
theorem forAll_keeps {α β : Type} (g : State → β) (f : α → State → State) (h : ∀ x s, g (f x s) = g s) (l : List α)
    (s : State) : g (forAll f l s) = g s := by
  induction l generalizing s with
  | nil => rfl
  | cons x xs ih => simp [forAll, ih, h]

/-- A property that every single change keeps holds after the changes of a list. -/
theorem forAll_inv {α : Type} (P : State → Prop) (f : α → State → State) (h : ∀ x s, P s → P (f x s)) (l : List α)
    (s : State) (hs : P s) : P (forAll f l s) := by
  induction l generalizing s with
  | nil => exact hs
  | cons x xs ih => exact ih _ (h x s hs)

variable (s : State)

@[simp] theorem State.markSeen_clk (n : Nat) (b : Option Nat) : (s.markSeen n b).clk = s.clk := 
  forAll_keeps State.clk _ (fun t s => by split <;> rfl) _ _
@[simp] theorem State.markSeen_dev (n : Nat) (b : Option Nat) : (s.markSeen n b).dev = s.dev := 
  forAll_keeps State.dev _ (fun t s => by split <;> rfl) _ _
@[simp] theorem State.markSeen_run (n : Nat) (b : Option Nat) : (s.markSeen n b).run = s.run := 
  forAll_keeps State.run _ (fun t s => by split <;> rfl) _ _
@[simp] theorem State.markSeen_hosts (n : Nat) (b : Option Nat) : (s.markSeen n b).hosts = s.hosts := 
  forAll_keeps State.hosts _ (fun t s => by split <;> rfl) _ _
@[simp] theorem State.markSeen_cmds (n : Nat) (b : Option Nat) : (s.markSeen n b).cmds = s.cmds := 
  forAll_keeps State.cmds _ (fun t s => by split <;> rfl) _ _
@[simp] theorem State.markSeen_jnl (n : Nat) (b : Option Nat) : (s.markSeen n b).jnl = s.jnl := 
  forAll_keeps State.jnl _ (fun t s => by split <;> rfl) _ _
@[simp] theorem State.markSeen_rcd (n : Nat) (b : Option Nat) : (s.markSeen n b).rcd = s.rcd := 
  forAll_keeps State.rcd _ (fun t s => by split <;> rfl) _ _
@[simp] theorem State.markSeen_keep (n : Nat) (b : Option Nat) : (s.markSeen n b).keep = s.keep := 
  forAll_keeps State.keep _ (fun t s => by split <;> rfl) _ _
@[simp] theorem State.markSeen_ports (n : Nat) (b : Option Nat) : (s.markSeen n b).ports = s.ports := 
  forAll_keeps State.ports _ (fun t s => by split <;> rfl) _ _
@[simp] theorem State.markSeen_objs (n : Nat) (b : Option Nat) : (s.markSeen n b).objs = s.objs := 
  forAll_keeps State.objs _ (fun t s => by split <;> rfl) _ _
@[simp] theorem State.markSeen_pool (n : Nat) (b : Option Nat) : (s.markSeen n b).pool = s.pool := 
  forAll_keeps State.pool _ (fun t s => by split <;> rfl) _ _
@[simp] theorem State.markSeen_mem (n : Nat) (b : Option Nat) : (s.markSeen n b).mem = s.mem := 
  forAll_keeps State.mem _ (fun t s => by split <;> rfl) _ _
@[simp] theorem State.markSeen_flt (n : Nat) (b : Option Nat) : (s.markSeen n b).flt = s.flt := 
  forAll_keeps State.flt _ (fun t s => by split <;> rfl) _ _
@[simp] theorem State.markSeen_routes (n : Nat) (b : Option Nat) : (s.markSeen n b).routes = s.routes := 
  forAll_keeps State.routes _ (fun t s => by split <;> rfl) _ _
@[simp] theorem State.markSeen_pairs (n : Nat) (b : Option Nat) : (s.markSeen n b).pairs = s.pairs := 
  forAll_keeps State.pairs _ (fun t s => by split <;> rfl) _ _
@[simp] theorem State.markSeen_copiesPrev (n : Nat) (b : Option Nat) : (s.markSeen n b).copiesPrev = s.copiesPrev := 
  forAll_keeps State.copiesPrev _ (fun t s => by split <;> rfl) _ _
@[simp] theorem State.markSeen_copyNext (n : Nat) (b : Option Nat) : (s.markSeen n b).copyNext = s.copyNext := 
  forAll_keeps State.copyNext _ (fun t s => by split <;> rfl) _ _
@[simp] theorem State.markSeen_dense (n : Nat) (b : Option Nat) : (s.markSeen n b).dense = s.dense := 
  forAll_keeps State.dense _ (fun t s => by split <;> rfl) _ _
@[simp] theorem State.markSeen_dlv (n : Nat) (b : Option Nat) : (s.markSeen n b).dlv = s.dlv := 
  forAll_keeps State.dlv _ (fun t s => by split <;> rfl) _ _
@[simp] theorem State.markSeen_trk (n : Nat) (b : Option Nat) : (s.markSeen n b).trk = s.trk := 
  forAll_keeps State.trk _ (fun t s => by split <;> rfl) _ _
@[simp] theorem State.markSeen_trk2 (n : Nat) (b : Option Nat) : (s.markSeen n b).trk2 = s.trk2 := 
  forAll_keeps State.trk2 _ (fun t s => by split <;> rfl) _ _
@[simp] theorem State.markSeen_fw (n : Nat) (b : Option Nat) : (s.markSeen n b).fw = s.fw := 
  forAll_keeps State.fw _ (fun t s => by split <;> rfl) _ _
@[simp] theorem State.markSeen_engines (n : Nat) (b : Option Nat) : (s.markSeen n b).engines = s.engines := 
  forAll_keeps State.engines _ (fun t s => by split <;> rfl) _ _
@[simp] theorem State.markSeen_canvas (n : Nat) (b : Option Nat) : (s.markSeen n b).canvas = s.canvas := 
  forAll_keeps State.canvas _ (fun t s => by split <;> rfl) _ _
@[simp] theorem State.markSeen_twd (n : Nat) (b : Option Nat) : (s.markSeen n b).twd = s.twd := 
  forAll_keeps State.twd _ (fun t s => by split <;> rfl) _ _
@[simp] theorem State.markSeen_pwr (n : Nat) (b : Option Nat) : (s.markSeen n b).pwr = s.pwr := 
  forAll_keeps State.pwr _ (fun t s => by split <;> rfl) _ _
@[simp] theorem State.markSeen_pwr2 (n : Nat) (b : Option Nat) : (s.markSeen n b).pwr2 = s.pwr2 := 
  forAll_keeps State.pwr2 _ (fun t s => by split <;> rfl) _ _
@[simp] theorem State.markSeen_link (n : Nat) (b : Option Nat) : (s.markSeen n b).link = s.link := 
  forAll_keeps State.link _ (fun t s => by split <;> rfl) _ _
@[simp] theorem State.markSeen_fld (n : Nat) (b : Option Nat) : (s.markSeen n b).fld = s.fld := 
  forAll_keeps State.fld _ (fun t s => by split <;> rfl) _ _
@[simp] theorem State.markSeen_mgt (n : Nat) (b : Option Nat) : (s.markSeen n b).mgt = s.mgt := 
  forAll_keeps State.mgt _ (fun t s => by split <;> rfl) _ _
@[simp] theorem State.markSeen_kept (n : Nat) (b : Option Nat) : (s.markSeen n b).kept = s.kept := 
  forAll_keeps State.kept _ (fun t s => by split <;> rfl) _ _
@[simp] theorem State.markSeen_out (n : Nat) (b : Option Nat) : (s.markSeen n b).out = s.out := 
  forAll_keeps State.out _ (fun t s => by split <;> rfl) _ _
@[simp] theorem State.markSeen_pending (n : Nat) (b : Option Nat) : (s.markSeen n b).pending = s.pending := 
  forAll_keeps State.pending _ (fun t s => by split <;> rfl) _ _

@[simp] theorem State.setPend_clk (n : Nat) (b : Option Nat) : (s.setPend n b).clk = s.clk := 
  by unfold State.setPend; split <;> simp
@[simp] theorem State.setPend_dev (n : Nat) (b : Option Nat) : (s.setPend n b).dev = s.dev := 
  by unfold State.setPend; split <;> simp
@[simp] theorem State.setPend_run (n : Nat) (b : Option Nat) : (s.setPend n b).run = s.run := 
  by unfold State.setPend; split <;> simp
@[simp] theorem State.setPend_hosts (n : Nat) (b : Option Nat) : (s.setPend n b).hosts = s.hosts := 
  by unfold State.setPend; split <;> simp
@[simp] theorem State.setPend_cmds (n : Nat) (b : Option Nat) : (s.setPend n b).cmds = s.cmds := 
  by unfold State.setPend; split <;> simp
@[simp] theorem State.setPend_jnl (n : Nat) (b : Option Nat) : (s.setPend n b).jnl = s.jnl := 
  by unfold State.setPend; split <;> simp
@[simp] theorem State.setPend_rcd (n : Nat) (b : Option Nat) : (s.setPend n b).rcd = s.rcd := 
  by unfold State.setPend; split <;> simp
@[simp] theorem State.setPend_keep (n : Nat) (b : Option Nat) : (s.setPend n b).keep = s.keep := 
  by unfold State.setPend; split <;> simp
@[simp] theorem State.setPend_ports (n : Nat) (b : Option Nat) : (s.setPend n b).ports = s.ports := 
  by unfold State.setPend; split <;> simp
@[simp] theorem State.setPend_objs (n : Nat) (b : Option Nat) : (s.setPend n b).objs = s.objs := 
  by unfold State.setPend; split <;> simp
@[simp] theorem State.setPend_pool (n : Nat) (b : Option Nat) : (s.setPend n b).pool = s.pool := 
  by unfold State.setPend; split <;> simp
@[simp] theorem State.setPend_mem (n : Nat) (b : Option Nat) : (s.setPend n b).mem = s.mem := 
  by unfold State.setPend; split <;> simp
@[simp] theorem State.setPend_flt (n : Nat) (b : Option Nat) : (s.setPend n b).flt = s.flt := 
  by unfold State.setPend; split <;> simp
@[simp] theorem State.setPend_routes (n : Nat) (b : Option Nat) : (s.setPend n b).routes = s.routes := 
  by unfold State.setPend; split <;> simp
@[simp] theorem State.setPend_pairs (n : Nat) (b : Option Nat) : (s.setPend n b).pairs = s.pairs := 
  by unfold State.setPend; split <;> simp
@[simp] theorem State.setPend_copiesPrev (n : Nat) (b : Option Nat) : (s.setPend n b).copiesPrev = s.copiesPrev := 
  by unfold State.setPend; split <;> simp
@[simp] theorem State.setPend_copyNext (n : Nat) (b : Option Nat) : (s.setPend n b).copyNext = s.copyNext := 
  by unfold State.setPend; split <;> simp
@[simp] theorem State.setPend_dense (n : Nat) (b : Option Nat) : (s.setPend n b).dense = s.dense := 
  by unfold State.setPend; split <;> simp
@[simp] theorem State.setPend_dlv (n : Nat) (b : Option Nat) : (s.setPend n b).dlv = s.dlv := 
  by unfold State.setPend; split <;> simp
@[simp] theorem State.setPend_trk (n : Nat) (b : Option Nat) : (s.setPend n b).trk = s.trk := 
  by unfold State.setPend; split <;> simp
@[simp] theorem State.setPend_trk2 (n : Nat) (b : Option Nat) : (s.setPend n b).trk2 = s.trk2 := 
  by unfold State.setPend; split <;> simp
@[simp] theorem State.setPend_fw (n : Nat) (b : Option Nat) : (s.setPend n b).fw = s.fw := 
  by unfold State.setPend; split <;> simp
@[simp] theorem State.setPend_engines (n : Nat) (b : Option Nat) : (s.setPend n b).engines = s.engines := 
  by unfold State.setPend; split <;> simp
@[simp] theorem State.setPend_canvas (n : Nat) (b : Option Nat) : (s.setPend n b).canvas = s.canvas := 
  by unfold State.setPend; split <;> simp
@[simp] theorem State.setPend_twd (n : Nat) (b : Option Nat) : (s.setPend n b).twd = s.twd := 
  by unfold State.setPend; split <;> simp
@[simp] theorem State.setPend_pwr (n : Nat) (b : Option Nat) : (s.setPend n b).pwr = s.pwr := 
  by unfold State.setPend; split <;> simp
@[simp] theorem State.setPend_pwr2 (n : Nat) (b : Option Nat) : (s.setPend n b).pwr2 = s.pwr2 := 
  by unfold State.setPend; split <;> simp
@[simp] theorem State.setPend_link (n : Nat) (b : Option Nat) : (s.setPend n b).link = s.link := 
  by unfold State.setPend; split <;> simp
@[simp] theorem State.setPend_fld (n : Nat) (b : Option Nat) : (s.setPend n b).fld = s.fld := 
  by unfold State.setPend; split <;> simp
@[simp] theorem State.setPend_mgt (n : Nat) (b : Option Nat) : (s.setPend n b).mgt = s.mgt := 
  by unfold State.setPend; split <;> simp
@[simp] theorem State.setPend_kept (n : Nat) (b : Option Nat) : (s.setPend n b).kept = s.kept := 
  by unfold State.setPend; split <;> simp
@[simp] theorem State.setPend_out (n : Nat) (b : Option Nat) : (s.setPend n b).out = s.out := 
  by unfold State.setPend; split <;> simp
@[simp] theorem State.setPend_pending (n : Nat) (b : Option Nat) : (s.setPend n b).pending = s.pending := 
  by unfold State.setPend; split <;> simp

@[simp] theorem State.raise_clk (n : Nat) : (s.raise n).clk = s.clk := by unfold State.raise; (repeat' split) <;> simp
@[simp] theorem State.raise_dev (n : Nat) : (s.raise n).dev = s.dev := by unfold State.raise; (repeat' split) <;> simp
@[simp] theorem State.raise_run (n : Nat) : (s.raise n).run = s.run := by unfold State.raise; (repeat' split) <;> simp
@[simp] theorem State.raise_hosts (n : Nat) : (s.raise n).hosts = s.hosts := 
  by unfold State.raise; (repeat' split) <;> simp
@[simp] theorem State.raise_cmds (n : Nat) : (s.raise n).cmds = s.cmds := 
  by unfold State.raise; (repeat' split) <;> simp
@[simp] theorem State.raise_jnl (n : Nat) : (s.raise n).jnl = s.jnl := by unfold State.raise; (repeat' split) <;> simp
@[simp] theorem State.raise_rcd (n : Nat) : (s.raise n).rcd = s.rcd := by unfold State.raise; (repeat' split) <;> simp
@[simp] theorem State.raise_keep (n : Nat) : (s.raise n).keep = s.keep := 
  by unfold State.raise; (repeat' split) <;> simp
@[simp] theorem State.raise_ports (n : Nat) : (s.raise n).ports = s.ports := 
  by unfold State.raise; (repeat' split) <;> simp
@[simp] theorem State.raise_objs (n : Nat) : (s.raise n).objs = s.objs := 
  by unfold State.raise; (repeat' split) <;> simp
@[simp] theorem State.raise_pool (n : Nat) : (s.raise n).pool = s.pool := 
  by unfold State.raise; (repeat' split) <;> simp
@[simp] theorem State.raise_mem (n : Nat) : (s.raise n).mem = s.mem := by unfold State.raise; (repeat' split) <;> simp
@[simp] theorem State.raise_flt (n : Nat) : (s.raise n).flt = s.flt := by unfold State.raise; (repeat' split) <;> simp
@[simp] theorem State.raise_routes (n : Nat) : (s.raise n).routes = s.routes := 
  by unfold State.raise; (repeat' split) <;> simp
@[simp] theorem State.raise_pairs (n : Nat) : (s.raise n).pairs = s.pairs := 
  by unfold State.raise; (repeat' split) <;> simp
@[simp] theorem State.raise_copiesPrev (n : Nat) : (s.raise n).copiesPrev = s.copiesPrev := 
  by unfold State.raise; (repeat' split) <;> simp
@[simp] theorem State.raise_copyNext (n : Nat) : (s.raise n).copyNext = s.copyNext := 
  by unfold State.raise; (repeat' split) <;> simp
@[simp] theorem State.raise_dense (n : Nat) : (s.raise n).dense = s.dense := 
  by unfold State.raise; (repeat' split) <;> simp
@[simp] theorem State.raise_dlv (n : Nat) : (s.raise n).dlv = s.dlv := by unfold State.raise; (repeat' split) <;> simp
@[simp] theorem State.raise_trk (n : Nat) : (s.raise n).trk = s.trk := by unfold State.raise; (repeat' split) <;> simp
@[simp] theorem State.raise_trk2 (n : Nat) : (s.raise n).trk2 = s.trk2 := 
  by unfold State.raise; (repeat' split) <;> simp
@[simp] theorem State.raise_fw (n : Nat) : (s.raise n).fw = s.fw := by unfold State.raise; (repeat' split) <;> simp
@[simp] theorem State.raise_engines (n : Nat) : (s.raise n).engines = s.engines := 
  by unfold State.raise; (repeat' split) <;> simp
@[simp] theorem State.raise_canvas (n : Nat) : (s.raise n).canvas = s.canvas := 
  by unfold State.raise; (repeat' split) <;> simp
@[simp] theorem State.raise_twd (n : Nat) : (s.raise n).twd = s.twd := by unfold State.raise; (repeat' split) <;> simp
@[simp] theorem State.raise_pwr (n : Nat) : (s.raise n).pwr = s.pwr := by unfold State.raise; (repeat' split) <;> simp
@[simp] theorem State.raise_pwr2 (n : Nat) : (s.raise n).pwr2 = s.pwr2 := 
  by unfold State.raise; (repeat' split) <;> simp
@[simp] theorem State.raise_link (n : Nat) : (s.raise n).link = s.link := 
  by unfold State.raise; (repeat' split) <;> simp
@[simp] theorem State.raise_fld (n : Nat) : (s.raise n).fld = s.fld := by unfold State.raise; (repeat' split) <;> simp
@[simp] theorem State.raise_mgt (n : Nat) : (s.raise n).mgt = s.mgt := by unfold State.raise; (repeat' split) <;> simp
@[simp] theorem State.raise_out (n : Nat) : (s.raise n).out = s.out := by unfold State.raise; (repeat' split) <;> simp
@[simp] theorem State.raise_pending (n : Nat) : (s.raise n).pending = s.pending := 
  by unfold State.raise; (repeat' split) <;> simp

@[simp] theorem State.sendMsix_clk (h : HostId) (v : Nat) : (s.sendMsix h v).clk = s.clk := 
  by unfold State.sendMsix; split <;> rfl
@[simp] theorem State.sendMsix_dev (h : HostId) (v : Nat) : (s.sendMsix h v).dev = s.dev := 
  by unfold State.sendMsix; split <;> rfl
@[simp] theorem State.sendMsix_run (h : HostId) (v : Nat) : (s.sendMsix h v).run = s.run := 
  by unfold State.sendMsix; split <;> rfl
@[simp] theorem State.sendMsix_irq (h : HostId) (v : Nat) : (s.sendMsix h v).irq = s.irq := 
  by unfold State.sendMsix; split <;> rfl
@[simp] theorem State.sendMsix_cmds (h : HostId) (v : Nat) : (s.sendMsix h v).cmds = s.cmds := 
  by unfold State.sendMsix; split <;> rfl
@[simp] theorem State.sendMsix_jnl (h : HostId) (v : Nat) : (s.sendMsix h v).jnl = s.jnl := 
  by unfold State.sendMsix; split <;> rfl
@[simp] theorem State.sendMsix_rcd (h : HostId) (v : Nat) : (s.sendMsix h v).rcd = s.rcd := 
  by unfold State.sendMsix; split <;> rfl
@[simp] theorem State.sendMsix_keep (h : HostId) (v : Nat) : (s.sendMsix h v).keep = s.keep := 
  by unfold State.sendMsix; split <;> rfl
@[simp] theorem State.sendMsix_ports (h : HostId) (v : Nat) : (s.sendMsix h v).ports = s.ports := 
  by unfold State.sendMsix; split <;> rfl
@[simp] theorem State.sendMsix_objs (h : HostId) (v : Nat) : (s.sendMsix h v).objs = s.objs := 
  by unfold State.sendMsix; split <;> rfl
@[simp] theorem State.sendMsix_pool (h : HostId) (v : Nat) : (s.sendMsix h v).pool = s.pool := 
  by unfold State.sendMsix; split <;> rfl
@[simp] theorem State.sendMsix_mem (h : HostId) (v : Nat) : (s.sendMsix h v).mem = s.mem := 
  by unfold State.sendMsix; split <;> rfl
@[simp] theorem State.sendMsix_flt (h : HostId) (v : Nat) : (s.sendMsix h v).flt = s.flt := 
  by unfold State.sendMsix; split <;> rfl
@[simp] theorem State.sendMsix_routes (h : HostId) (v : Nat) : (s.sendMsix h v).routes = s.routes := 
  by unfold State.sendMsix; split <;> rfl
@[simp] theorem State.sendMsix_pairs (h : HostId) (v : Nat) : (s.sendMsix h v).pairs = s.pairs := 
  by unfold State.sendMsix; split <;> rfl
@[simp] theorem State.sendMsix_copiesPrev (h : HostId) (v : Nat) : (s.sendMsix h v).copiesPrev = s.copiesPrev := 
  by unfold State.sendMsix; split <;> rfl
@[simp] theorem State.sendMsix_copyNext (h : HostId) (v : Nat) : (s.sendMsix h v).copyNext = s.copyNext := 
  by unfold State.sendMsix; split <;> rfl
@[simp] theorem State.sendMsix_dense (h : HostId) (v : Nat) : (s.sendMsix h v).dense = s.dense := 
  by unfold State.sendMsix; split <;> rfl
@[simp] theorem State.sendMsix_dlv (h : HostId) (v : Nat) : (s.sendMsix h v).dlv = s.dlv := 
  by unfold State.sendMsix; split <;> rfl
@[simp] theorem State.sendMsix_trk (h : HostId) (v : Nat) : (s.sendMsix h v).trk = s.trk := 
  by unfold State.sendMsix; split <;> rfl
@[simp] theorem State.sendMsix_trk2 (h : HostId) (v : Nat) : (s.sendMsix h v).trk2 = s.trk2 := 
  by unfold State.sendMsix; split <;> rfl
@[simp] theorem State.sendMsix_fw (h : HostId) (v : Nat) : (s.sendMsix h v).fw = s.fw := 
  by unfold State.sendMsix; split <;> rfl
@[simp] theorem State.sendMsix_engines (h : HostId) (v : Nat) : (s.sendMsix h v).engines = s.engines := 
  by unfold State.sendMsix; split <;> rfl
@[simp] theorem State.sendMsix_canvas (h : HostId) (v : Nat) : (s.sendMsix h v).canvas = s.canvas := 
  by unfold State.sendMsix; split <;> rfl
@[simp] theorem State.sendMsix_twd (h : HostId) (v : Nat) : (s.sendMsix h v).twd = s.twd := 
  by unfold State.sendMsix; split <;> rfl
@[simp] theorem State.sendMsix_pwr (h : HostId) (v : Nat) : (s.sendMsix h v).pwr = s.pwr := 
  by unfold State.sendMsix; split <;> rfl
@[simp] theorem State.sendMsix_pwr2 (h : HostId) (v : Nat) : (s.sendMsix h v).pwr2 = s.pwr2 := 
  by unfold State.sendMsix; split <;> rfl
@[simp] theorem State.sendMsix_link (h : HostId) (v : Nat) : (s.sendMsix h v).link = s.link := 
  by unfold State.sendMsix; split <;> rfl
@[simp] theorem State.sendMsix_fld (h : HostId) (v : Nat) : (s.sendMsix h v).fld = s.fld := 
  by unfold State.sendMsix; split <;> rfl
@[simp] theorem State.sendMsix_mgt (h : HostId) (v : Nat) : (s.sendMsix h v).mgt = s.mgt := 
  by unfold State.sendMsix; split <;> rfl
@[simp] theorem State.sendMsix_kept (h : HostId) (v : Nat) : (s.sendMsix h v).kept = s.kept := 
  by unfold State.sendMsix; split <;> rfl
@[simp] theorem State.sendMsix_pending (h : HostId) (v : Nat) : (s.sendMsix h v).pending = s.pending := 
  by unfold State.sendMsix; split <;> rfl

@[simp] theorem State.signal_clk (t p : Nat) : (s.signal t p).clk = s.clk := 
  by unfold State.signal; dsimp only; (repeat' split) <;> simp
@[simp] theorem State.signal_dev (t p : Nat) : (s.signal t p).dev = s.dev := 
  by unfold State.signal; dsimp only; (repeat' split) <;> simp
@[simp] theorem State.signal_run (t p : Nat) : (s.signal t p).run = s.run := 
  by unfold State.signal; dsimp only; (repeat' split) <;> simp
@[simp] theorem State.signal_cmds (t p : Nat) : (s.signal t p).cmds = s.cmds := 
  by unfold State.signal; dsimp only; (repeat' split) <;> simp
@[simp] theorem State.signal_jnl (t p : Nat) : (s.signal t p).jnl = s.jnl := 
  by unfold State.signal; dsimp only; (repeat' split) <;> simp
@[simp] theorem State.signal_rcd (t p : Nat) : (s.signal t p).rcd = s.rcd := 
  by unfold State.signal; dsimp only; (repeat' split) <;> simp
@[simp] theorem State.signal_keep (t p : Nat) : (s.signal t p).keep = s.keep := 
  by unfold State.signal; dsimp only; (repeat' split) <;> simp
@[simp] theorem State.signal_ports (t p : Nat) : (s.signal t p).ports = s.ports := 
  by unfold State.signal; dsimp only; (repeat' split) <;> simp
@[simp] theorem State.signal_objs (t p : Nat) : (s.signal t p).objs = s.objs := 
  by unfold State.signal; dsimp only; (repeat' split) <;> simp
@[simp] theorem State.signal_pool (t p : Nat) : (s.signal t p).pool = s.pool := 
  by unfold State.signal; dsimp only; (repeat' split) <;> simp
@[simp] theorem State.signal_mem (t p : Nat) : (s.signal t p).mem = s.mem := 
  by unfold State.signal; dsimp only; (repeat' split) <;> simp
@[simp] theorem State.signal_flt (t p : Nat) : (s.signal t p).flt = s.flt := 
  by unfold State.signal; dsimp only; (repeat' split) <;> simp
@[simp] theorem State.signal_routes (t p : Nat) : (s.signal t p).routes = s.routes := 
  by unfold State.signal; dsimp only; (repeat' split) <;> simp
@[simp] theorem State.signal_pairs (t p : Nat) : (s.signal t p).pairs = s.pairs := 
  by unfold State.signal; dsimp only; (repeat' split) <;> simp
@[simp] theorem State.signal_copiesPrev (t p : Nat) : (s.signal t p).copiesPrev = s.copiesPrev := 
  by unfold State.signal; dsimp only; (repeat' split) <;> simp
@[simp] theorem State.signal_copyNext (t p : Nat) : (s.signal t p).copyNext = s.copyNext := 
  by unfold State.signal; dsimp only; (repeat' split) <;> simp
@[simp] theorem State.signal_dense (t p : Nat) : (s.signal t p).dense = s.dense := 
  by unfold State.signal; dsimp only; (repeat' split) <;> simp
@[simp] theorem State.signal_dlv (t p : Nat) : (s.signal t p).dlv = s.dlv := 
  by unfold State.signal; dsimp only; (repeat' split) <;> simp
@[simp] theorem State.signal_trk (t p : Nat) : (s.signal t p).trk = s.trk := 
  by unfold State.signal; dsimp only; (repeat' split) <;> simp
@[simp] theorem State.signal_trk2 (t p : Nat) : (s.signal t p).trk2 = s.trk2 := 
  by unfold State.signal; dsimp only; (repeat' split) <;> simp
@[simp] theorem State.signal_fw (t p : Nat) : (s.signal t p).fw = s.fw := 
  by unfold State.signal; dsimp only; (repeat' split) <;> simp
@[simp] theorem State.signal_engines (t p : Nat) : (s.signal t p).engines = s.engines := 
  by unfold State.signal; dsimp only; (repeat' split) <;> simp
@[simp] theorem State.signal_canvas (t p : Nat) : (s.signal t p).canvas = s.canvas := 
  by unfold State.signal; dsimp only; (repeat' split) <;> simp
@[simp] theorem State.signal_twd (t p : Nat) : (s.signal t p).twd = s.twd := 
  by unfold State.signal; dsimp only; (repeat' split) <;> simp
@[simp] theorem State.signal_pwr (t p : Nat) : (s.signal t p).pwr = s.pwr := 
  by unfold State.signal; dsimp only; (repeat' split) <;> simp
@[simp] theorem State.signal_pwr2 (t p : Nat) : (s.signal t p).pwr2 = s.pwr2 := 
  by unfold State.signal; dsimp only; (repeat' split) <;> simp
@[simp] theorem State.signal_link (t p : Nat) : (s.signal t p).link = s.link := 
  by unfold State.signal; dsimp only; (repeat' split) <;> simp
@[simp] theorem State.signal_fld (t p : Nat) : (s.signal t p).fld = s.fld := 
  by unfold State.signal; dsimp only; (repeat' split) <;> simp
@[simp] theorem State.signal_mgt (t p : Nat) : (s.signal t p).mgt = s.mgt := 
  by unfold State.signal; dsimp only; (repeat' split) <;> simp
@[simp] theorem State.signal_kept (t p : Nat) : (s.signal t p).kept = s.kept := 
  by unfold State.signal; dsimp only; (repeat' split) <;> simp
@[simp] theorem State.signal_pending (t p : Nat) : (s.signal t p).pending = s.pending := 
  by unfold State.signal; dsimp only; (repeat' split) <;> simp

@[simp] theorem State.presentTo_clk (t : Nat) : (s.presentTo t).clk = s.clk := 
  by unfold State.presentTo; (repeat' split) <;> simp
@[simp] theorem State.presentTo_dev (t : Nat) : (s.presentTo t).dev = s.dev := 
  by unfold State.presentTo; (repeat' split) <;> simp
@[simp] theorem State.presentTo_run (t : Nat) : (s.presentTo t).run = s.run := 
  by unfold State.presentTo; (repeat' split) <;> simp
@[simp] theorem State.presentTo_cmds (t : Nat) : (s.presentTo t).cmds = s.cmds := 
  by unfold State.presentTo; (repeat' split) <;> simp
@[simp] theorem State.presentTo_jnl (t : Nat) : (s.presentTo t).jnl = s.jnl := 
  by unfold State.presentTo; (repeat' split) <;> simp
@[simp] theorem State.presentTo_rcd (t : Nat) : (s.presentTo t).rcd = s.rcd := 
  by unfold State.presentTo; (repeat' split) <;> simp
@[simp] theorem State.presentTo_keep (t : Nat) : (s.presentTo t).keep = s.keep := 
  by unfold State.presentTo; (repeat' split) <;> simp
@[simp] theorem State.presentTo_ports (t : Nat) : (s.presentTo t).ports = s.ports := 
  by unfold State.presentTo; (repeat' split) <;> simp
@[simp] theorem State.presentTo_objs (t : Nat) : (s.presentTo t).objs = s.objs := 
  by unfold State.presentTo; (repeat' split) <;> simp
@[simp] theorem State.presentTo_pool (t : Nat) : (s.presentTo t).pool = s.pool := 
  by unfold State.presentTo; (repeat' split) <;> simp
@[simp] theorem State.presentTo_mem (t : Nat) : (s.presentTo t).mem = s.mem := 
  by unfold State.presentTo; (repeat' split) <;> simp
@[simp] theorem State.presentTo_flt (t : Nat) : (s.presentTo t).flt = s.flt := 
  by unfold State.presentTo; (repeat' split) <;> simp
@[simp] theorem State.presentTo_routes (t : Nat) : (s.presentTo t).routes = s.routes := 
  by unfold State.presentTo; (repeat' split) <;> simp
@[simp] theorem State.presentTo_pairs (t : Nat) : (s.presentTo t).pairs = s.pairs := 
  by unfold State.presentTo; (repeat' split) <;> simp
@[simp] theorem State.presentTo_copiesPrev (t : Nat) : (s.presentTo t).copiesPrev = s.copiesPrev := 
  by unfold State.presentTo; (repeat' split) <;> simp
@[simp] theorem State.presentTo_copyNext (t : Nat) : (s.presentTo t).copyNext = s.copyNext := 
  by unfold State.presentTo; (repeat' split) <;> simp
@[simp] theorem State.presentTo_dense (t : Nat) : (s.presentTo t).dense = s.dense := 
  by unfold State.presentTo; (repeat' split) <;> simp
@[simp] theorem State.presentTo_dlv (t : Nat) : (s.presentTo t).dlv = s.dlv := 
  by unfold State.presentTo; (repeat' split) <;> simp
@[simp] theorem State.presentTo_trk (t : Nat) : (s.presentTo t).trk = s.trk := 
  by unfold State.presentTo; (repeat' split) <;> simp
@[simp] theorem State.presentTo_trk2 (t : Nat) : (s.presentTo t).trk2 = s.trk2 := 
  by unfold State.presentTo; (repeat' split) <;> simp
@[simp] theorem State.presentTo_fw (t : Nat) : (s.presentTo t).fw = s.fw := 
  by unfold State.presentTo; (repeat' split) <;> simp
@[simp] theorem State.presentTo_engines (t : Nat) : (s.presentTo t).engines = s.engines := 
  by unfold State.presentTo; (repeat' split) <;> simp
@[simp] theorem State.presentTo_canvas (t : Nat) : (s.presentTo t).canvas = s.canvas := 
  by unfold State.presentTo; (repeat' split) <;> simp
@[simp] theorem State.presentTo_twd (t : Nat) : (s.presentTo t).twd = s.twd := 
  by unfold State.presentTo; (repeat' split) <;> simp
@[simp] theorem State.presentTo_pwr (t : Nat) : (s.presentTo t).pwr = s.pwr := 
  by unfold State.presentTo; (repeat' split) <;> simp
@[simp] theorem State.presentTo_pwr2 (t : Nat) : (s.presentTo t).pwr2 = s.pwr2 := 
  by unfold State.presentTo; (repeat' split) <;> simp
@[simp] theorem State.presentTo_link (t : Nat) : (s.presentTo t).link = s.link := 
  by unfold State.presentTo; (repeat' split) <;> simp
@[simp] theorem State.presentTo_fld (t : Nat) : (s.presentTo t).fld = s.fld := 
  by unfold State.presentTo; (repeat' split) <;> simp
@[simp] theorem State.presentTo_mgt (t : Nat) : (s.presentTo t).mgt = s.mgt := 
  by unfold State.presentTo; (repeat' split) <;> simp
@[simp] theorem State.presentTo_kept (t : Nat) : (s.presentTo t).kept = s.kept := 
  by unfold State.presentTo; (repeat' split) <;> simp
@[simp] theorem State.presentTo_pending (t : Nat) : (s.presentTo t).pending = s.pending := 
  by unfold State.presentTo; (repeat' split) <;> simp

@[simp] theorem State.present_clk : (s.present).clk = s.clk := forAll_keeps State.clk _ (fun t s => by simp) _ _
@[simp] theorem State.present_dev : (s.present).dev = s.dev := forAll_keeps State.dev _ (fun t s => by simp) _ _
@[simp] theorem State.present_run : (s.present).run = s.run := forAll_keeps State.run _ (fun t s => by simp) _ _
@[simp] theorem State.present_cmds : (s.present).cmds = s.cmds := forAll_keeps State.cmds _ (fun t s => by simp) _ _
@[simp] theorem State.present_jnl : (s.present).jnl = s.jnl := forAll_keeps State.jnl _ (fun t s => by simp) _ _
@[simp] theorem State.present_rcd : (s.present).rcd = s.rcd := forAll_keeps State.rcd _ (fun t s => by simp) _ _
@[simp] theorem State.present_keep : (s.present).keep = s.keep := forAll_keeps State.keep _ (fun t s => by simp) _ _
@[simp] theorem State.present_ports : (s.present).ports = s.ports := 
  forAll_keeps State.ports _ (fun t s => by simp) _ _
@[simp] theorem State.present_objs : (s.present).objs = s.objs := forAll_keeps State.objs _ (fun t s => by simp) _ _
@[simp] theorem State.present_pool : (s.present).pool = s.pool := forAll_keeps State.pool _ (fun t s => by simp) _ _
@[simp] theorem State.present_mem : (s.present).mem = s.mem := forAll_keeps State.mem _ (fun t s => by simp) _ _
@[simp] theorem State.present_flt : (s.present).flt = s.flt := forAll_keeps State.flt _ (fun t s => by simp) _ _
@[simp] theorem State.present_routes : (s.present).routes = s.routes := 
  forAll_keeps State.routes _ (fun t s => by simp) _ _
@[simp] theorem State.present_pairs : (s.present).pairs = s.pairs := 
  forAll_keeps State.pairs _ (fun t s => by simp) _ _
@[simp] theorem State.present_copiesPrev : (s.present).copiesPrev = s.copiesPrev := 
  forAll_keeps State.copiesPrev _ (fun t s => by simp) _ _
@[simp] theorem State.present_copyNext : (s.present).copyNext = s.copyNext := 
  forAll_keeps State.copyNext _ (fun t s => by simp) _ _
@[simp] theorem State.present_dense : (s.present).dense = s.dense := 
  forAll_keeps State.dense _ (fun t s => by simp) _ _
@[simp] theorem State.present_dlv : (s.present).dlv = s.dlv := forAll_keeps State.dlv _ (fun t s => by simp) _ _
@[simp] theorem State.present_trk : (s.present).trk = s.trk := forAll_keeps State.trk _ (fun t s => by simp) _ _
@[simp] theorem State.present_trk2 : (s.present).trk2 = s.trk2 := forAll_keeps State.trk2 _ (fun t s => by simp) _ _
@[simp] theorem State.present_fw : (s.present).fw = s.fw := forAll_keeps State.fw _ (fun t s => by simp) _ _
@[simp] theorem State.present_engines : (s.present).engines = s.engines := 
  forAll_keeps State.engines _ (fun t s => by simp) _ _
@[simp] theorem State.present_canvas : (s.present).canvas = s.canvas := 
  forAll_keeps State.canvas _ (fun t s => by simp) _ _
@[simp] theorem State.present_twd : (s.present).twd = s.twd := forAll_keeps State.twd _ (fun t s => by simp) _ _
@[simp] theorem State.present_pwr : (s.present).pwr = s.pwr := forAll_keeps State.pwr _ (fun t s => by simp) _ _
@[simp] theorem State.present_pwr2 : (s.present).pwr2 = s.pwr2 := forAll_keeps State.pwr2 _ (fun t s => by simp) _ _
@[simp] theorem State.present_link : (s.present).link = s.link := forAll_keeps State.link _ (fun t s => by simp) _ _
@[simp] theorem State.present_fld : (s.present).fld = s.fld := forAll_keeps State.fld _ (fun t s => by simp) _ _
@[simp] theorem State.present_mgt : (s.present).mgt = s.mgt := forAll_keeps State.mgt _ (fun t s => by simp) _ _
@[simp] theorem State.present_kept : (s.present).kept = s.kept := forAll_keeps State.kept _ (fun t s => by simp) _ _
@[simp] theorem State.present_pending : (s.present).pending = s.pending := 
  forAll_keeps State.pending _ (fun t s => by simp) _ _

@[simp] theorem State.portEvent_clk (p : Nat) : (s.portEvent p).clk = s.clk := by simp [State.portEvent]
@[simp] theorem State.portEvent_dev (p : Nat) : (s.portEvent p).dev = s.dev := by simp [State.portEvent]
@[simp] theorem State.portEvent_run (p : Nat) : (s.portEvent p).run = s.run := by simp [State.portEvent]
@[simp] theorem State.portEvent_hosts (p : Nat) : (s.portEvent p).hosts = s.hosts := by simp [State.portEvent]
@[simp] theorem State.portEvent_cmds (p : Nat) : (s.portEvent p).cmds = s.cmds := by simp [State.portEvent]
@[simp] theorem State.portEvent_jnl (p : Nat) : (s.portEvent p).jnl = s.jnl := by simp [State.portEvent]
@[simp] theorem State.portEvent_rcd (p : Nat) : (s.portEvent p).rcd = s.rcd := by simp [State.portEvent]
@[simp] theorem State.portEvent_keep (p : Nat) : (s.portEvent p).keep = s.keep := by simp [State.portEvent]
@[simp] theorem State.portEvent_ports (p : Nat) : (s.portEvent p).ports = s.ports := by simp [State.portEvent]
@[simp] theorem State.portEvent_objs (p : Nat) : (s.portEvent p).objs = s.objs := by simp [State.portEvent]
@[simp] theorem State.portEvent_pool (p : Nat) : (s.portEvent p).pool = s.pool := by simp [State.portEvent]
@[simp] theorem State.portEvent_mem (p : Nat) : (s.portEvent p).mem = s.mem := by simp [State.portEvent]
@[simp] theorem State.portEvent_flt (p : Nat) : (s.portEvent p).flt = s.flt := by simp [State.portEvent]
@[simp] theorem State.portEvent_routes (p : Nat) : (s.portEvent p).routes = s.routes := by simp [State.portEvent]
@[simp] theorem State.portEvent_pairs (p : Nat) : (s.portEvent p).pairs = s.pairs := by simp [State.portEvent]
@[simp] theorem State.portEvent_copiesPrev (p : Nat) : (s.portEvent p).copiesPrev = s.copiesPrev := 
  by simp [State.portEvent]
@[simp] theorem State.portEvent_copyNext (p : Nat) : (s.portEvent p).copyNext = s.copyNext := 
  by simp [State.portEvent]
@[simp] theorem State.portEvent_dense (p : Nat) : (s.portEvent p).dense = s.dense := by simp [State.portEvent]
@[simp] theorem State.portEvent_dlv (p : Nat) : (s.portEvent p).dlv = s.dlv := by simp [State.portEvent]
@[simp] theorem State.portEvent_trk (p : Nat) : (s.portEvent p).trk = s.trk := by simp [State.portEvent]
@[simp] theorem State.portEvent_trk2 (p : Nat) : (s.portEvent p).trk2 = s.trk2 := by simp [State.portEvent]
@[simp] theorem State.portEvent_fw (p : Nat) : (s.portEvent p).fw = s.fw := by simp [State.portEvent]
@[simp] theorem State.portEvent_engines (p : Nat) : (s.portEvent p).engines = s.engines := by simp [State.portEvent]
@[simp] theorem State.portEvent_canvas (p : Nat) : (s.portEvent p).canvas = s.canvas := by simp [State.portEvent]
@[simp] theorem State.portEvent_twd (p : Nat) : (s.portEvent p).twd = s.twd := by simp [State.portEvent]
@[simp] theorem State.portEvent_pwr (p : Nat) : (s.portEvent p).pwr = s.pwr := by simp [State.portEvent]
@[simp] theorem State.portEvent_pwr2 (p : Nat) : (s.portEvent p).pwr2 = s.pwr2 := by simp [State.portEvent]
@[simp] theorem State.portEvent_link (p : Nat) : (s.portEvent p).link = s.link := by simp [State.portEvent]
@[simp] theorem State.portEvent_fld (p : Nat) : (s.portEvent p).fld = s.fld := by simp [State.portEvent]
@[simp] theorem State.portEvent_mgt (p : Nat) : (s.portEvent p).mgt = s.mgt := by simp [State.portEvent]
@[simp] theorem State.portEvent_out (p : Nat) : (s.portEvent p).out = s.out := by simp [State.portEvent]
@[simp] theorem State.portEvent_pending (p : Nat) : (s.portEvent p).pending = s.pending := by simp [State.portEvent]

@[simp] theorem State.portTraffic_clk (p : Nat) : (s.portTraffic p).clk = s.clk := by simp [State.portTraffic]
@[simp] theorem State.portTraffic_dev (p : Nat) : (s.portTraffic p).dev = s.dev := by simp [State.portTraffic]
@[simp] theorem State.portTraffic_run (p : Nat) : (s.portTraffic p).run = s.run := by simp [State.portTraffic]
@[simp] theorem State.portTraffic_hosts (p : Nat) : (s.portTraffic p).hosts = s.hosts := by simp [State.portTraffic]
@[simp] theorem State.portTraffic_cmds (p : Nat) : (s.portTraffic p).cmds = s.cmds := by simp [State.portTraffic]
@[simp] theorem State.portTraffic_jnl (p : Nat) : (s.portTraffic p).jnl = s.jnl := by simp [State.portTraffic]
@[simp] theorem State.portTraffic_rcd (p : Nat) : (s.portTraffic p).rcd = s.rcd := by simp [State.portTraffic]
@[simp] theorem State.portTraffic_keep (p : Nat) : (s.portTraffic p).keep = s.keep := by simp [State.portTraffic]
@[simp] theorem State.portTraffic_ports (p : Nat) : (s.portTraffic p).ports = s.ports := by simp [State.portTraffic]
@[simp] theorem State.portTraffic_objs (p : Nat) : (s.portTraffic p).objs = s.objs := by simp [State.portTraffic]
@[simp] theorem State.portTraffic_pool (p : Nat) : (s.portTraffic p).pool = s.pool := by simp [State.portTraffic]
@[simp] theorem State.portTraffic_mem (p : Nat) : (s.portTraffic p).mem = s.mem := by simp [State.portTraffic]
@[simp] theorem State.portTraffic_flt (p : Nat) : (s.portTraffic p).flt = s.flt := by simp [State.portTraffic]
@[simp] theorem State.portTraffic_routes (p : Nat) : (s.portTraffic p).routes = s.routes := 
  by simp [State.portTraffic]
@[simp] theorem State.portTraffic_pairs (p : Nat) : (s.portTraffic p).pairs = s.pairs := by simp [State.portTraffic]
@[simp] theorem State.portTraffic_copiesPrev (p : Nat) : (s.portTraffic p).copiesPrev = s.copiesPrev := 
  by simp [State.portTraffic]
@[simp] theorem State.portTraffic_copyNext (p : Nat) : (s.portTraffic p).copyNext = s.copyNext := 
  by simp [State.portTraffic]
@[simp] theorem State.portTraffic_dense (p : Nat) : (s.portTraffic p).dense = s.dense := by simp [State.portTraffic]
@[simp] theorem State.portTraffic_dlv (p : Nat) : (s.portTraffic p).dlv = s.dlv := by simp [State.portTraffic]
@[simp] theorem State.portTraffic_trk (p : Nat) : (s.portTraffic p).trk = s.trk := by simp [State.portTraffic]
@[simp] theorem State.portTraffic_trk2 (p : Nat) : (s.portTraffic p).trk2 = s.trk2 := by simp [State.portTraffic]
@[simp] theorem State.portTraffic_fw (p : Nat) : (s.portTraffic p).fw = s.fw := by simp [State.portTraffic]
@[simp] theorem State.portTraffic_engines (p : Nat) : (s.portTraffic p).engines = s.engines := 
  by simp [State.portTraffic]
@[simp] theorem State.portTraffic_canvas (p : Nat) : (s.portTraffic p).canvas = s.canvas := 
  by simp [State.portTraffic]
@[simp] theorem State.portTraffic_twd (p : Nat) : (s.portTraffic p).twd = s.twd := by simp [State.portTraffic]
@[simp] theorem State.portTraffic_pwr (p : Nat) : (s.portTraffic p).pwr = s.pwr := by simp [State.portTraffic]
@[simp] theorem State.portTraffic_pwr2 (p : Nat) : (s.portTraffic p).pwr2 = s.pwr2 := by simp [State.portTraffic]
@[simp] theorem State.portTraffic_link (p : Nat) : (s.portTraffic p).link = s.link := by simp [State.portTraffic]
@[simp] theorem State.portTraffic_fld (p : Nat) : (s.portTraffic p).fld = s.fld := by simp [State.portTraffic]
@[simp] theorem State.portTraffic_mgt (p : Nat) : (s.portTraffic p).mgt = s.mgt := by simp [State.portTraffic]
@[simp] theorem State.portTraffic_out (p : Nat) : (s.portTraffic p).out = s.out := by simp [State.portTraffic]
@[simp] theorem State.portTraffic_pending (p : Nat) : (s.portTraffic p).pending = s.pending := 
  by simp [State.portTraffic]

@[simp] theorem State.event_clk (code source sev d0 d1 : Nat) : (s.event code source sev d0 d1).clk = s.clk := 
  by unfold State.event; dsimp only; (repeat' split) <;> rfl
@[simp] theorem State.event_dev (code source sev d0 d1 : Nat) : (s.event code source sev d0 d1).dev = s.dev := 
  by unfold State.event; dsimp only; (repeat' split) <;> rfl
@[simp] theorem State.event_run (code source sev d0 d1 : Nat) : (s.event code source sev d0 d1).run = s.run := 
  by unfold State.event; dsimp only; (repeat' split) <;> rfl
@[simp] theorem State.event_irq (code source sev d0 d1 : Nat) : (s.event code source sev d0 d1).irq = s.irq := 
  by unfold State.event; dsimp only; (repeat' split) <;> rfl
@[simp] theorem State.event_hosts (code source sev d0 d1 : Nat) : (s.event code source sev d0 d1).hosts = s.hosts := 
  by unfold State.event; dsimp only; (repeat' split) <;> rfl
@[simp] theorem State.event_cmds (code source sev d0 d1 : Nat) : (s.event code source sev d0 d1).cmds = s.cmds := 
  by unfold State.event; dsimp only; (repeat' split) <;> rfl
@[simp] theorem State.event_jnl (code source sev d0 d1 : Nat) : (s.event code source sev d0 d1).jnl = s.jnl := 
  by unfold State.event; dsimp only; (repeat' split) <;> rfl
@[simp] theorem State.event_keep (code source sev d0 d1 : Nat) : (s.event code source sev d0 d1).keep = s.keep := 
  by unfold State.event; dsimp only; (repeat' split) <;> rfl
@[simp] theorem State.event_ports (code source sev d0 d1 : Nat) : (s.event code source sev d0 d1).ports = s.ports := 
  by unfold State.event; dsimp only; (repeat' split) <;> rfl
@[simp] theorem State.event_objs (code source sev d0 d1 : Nat) : (s.event code source sev d0 d1).objs = s.objs := 
  by unfold State.event; dsimp only; (repeat' split) <;> rfl
@[simp] theorem State.event_pool (code source sev d0 d1 : Nat) : (s.event code source sev d0 d1).pool = s.pool := 
  by unfold State.event; dsimp only; (repeat' split) <;> rfl
@[simp] theorem State.event_mem (code source sev d0 d1 : Nat) : (s.event code source sev d0 d1).mem = s.mem := 
  by unfold State.event; dsimp only; (repeat' split) <;> rfl
@[simp] theorem State.event_flt (code source sev d0 d1 : Nat) : (s.event code source sev d0 d1).flt = s.flt := 
  by unfold State.event; dsimp only; (repeat' split) <;> rfl
@[simp] theorem State.event_routes (code source sev d0 d1 : Nat) : (s.event code source sev d0 d1).routes = s.routes := 
  by unfold State.event; dsimp only; (repeat' split) <;> rfl
@[simp] theorem State.event_pairs (code source sev d0 d1 : Nat) : (s.event code source sev d0 d1).pairs = s.pairs := 
  by unfold State.event; dsimp only; (repeat' split) <;> rfl
@[simp] theorem State.event_copiesPrev (code source sev d0 d1 : Nat) : (s.event code source sev d0 d1).copiesPrev = s.copiesPrev := 
  by unfold State.event; dsimp only; (repeat' split) <;> rfl
@[simp] theorem State.event_copyNext (code source sev d0 d1 : Nat) : (s.event code source sev d0 d1).copyNext = s.copyNext := 
  by unfold State.event; dsimp only; (repeat' split) <;> rfl
@[simp] theorem State.event_dense (code source sev d0 d1 : Nat) : (s.event code source sev d0 d1).dense = s.dense := 
  by unfold State.event; dsimp only; (repeat' split) <;> rfl
@[simp] theorem State.event_dlv (code source sev d0 d1 : Nat) : (s.event code source sev d0 d1).dlv = s.dlv := 
  by unfold State.event; dsimp only; (repeat' split) <;> rfl
@[simp] theorem State.event_trk (code source sev d0 d1 : Nat) : (s.event code source sev d0 d1).trk = s.trk := 
  by unfold State.event; dsimp only; (repeat' split) <;> rfl
@[simp] theorem State.event_trk2 (code source sev d0 d1 : Nat) : (s.event code source sev d0 d1).trk2 = s.trk2 := 
  by unfold State.event; dsimp only; (repeat' split) <;> rfl
@[simp] theorem State.event_fw (code source sev d0 d1 : Nat) : (s.event code source sev d0 d1).fw = s.fw := 
  by unfold State.event; dsimp only; (repeat' split) <;> rfl
@[simp] theorem State.event_engines (code source sev d0 d1 : Nat) : (s.event code source sev d0 d1).engines = s.engines := 
  by unfold State.event; dsimp only; (repeat' split) <;> rfl
@[simp] theorem State.event_canvas (code source sev d0 d1 : Nat) : (s.event code source sev d0 d1).canvas = s.canvas := 
  by unfold State.event; dsimp only; (repeat' split) <;> rfl
@[simp] theorem State.event_twd (code source sev d0 d1 : Nat) : (s.event code source sev d0 d1).twd = s.twd := 
  by unfold State.event; dsimp only; (repeat' split) <;> rfl
@[simp] theorem State.event_pwr (code source sev d0 d1 : Nat) : (s.event code source sev d0 d1).pwr = s.pwr := 
  by unfold State.event; dsimp only; (repeat' split) <;> rfl
@[simp] theorem State.event_pwr2 (code source sev d0 d1 : Nat) : (s.event code source sev d0 d1).pwr2 = s.pwr2 := 
  by unfold State.event; dsimp only; (repeat' split) <;> rfl
@[simp] theorem State.event_link (code source sev d0 d1 : Nat) : (s.event code source sev d0 d1).link = s.link := 
  by unfold State.event; dsimp only; (repeat' split) <;> rfl
@[simp] theorem State.event_fld (code source sev d0 d1 : Nat) : (s.event code source sev d0 d1).fld = s.fld := 
  by unfold State.event; dsimp only; (repeat' split) <;> rfl
@[simp] theorem State.event_mgt (code source sev d0 d1 : Nat) : (s.event code source sev d0 d1).mgt = s.mgt := 
  by unfold State.event; dsimp only; (repeat' split) <;> rfl
@[simp] theorem State.event_kept (code source sev d0 d1 : Nat) : (s.event code source sev d0 d1).kept = s.kept := 
  by unfold State.event; dsimp only; (repeat' split) <;> rfl
@[simp] theorem State.event_out (code source sev d0 d1 : Nat) : (s.event code source sev d0 d1).out = s.out := 
  by unfold State.event; dsimp only; (repeat' split) <;> rfl
@[simp] theorem State.event_pending (code source sev d0 d1 : Nat) : (s.event code source sev d0 d1).pending = s.pending := 
  by unfold State.event; dsimp only; (repeat' split) <;> rfl

@[simp] theorem State.violation_clk (h : HostId) (cause bar offset : Nat) : (s.violation h cause bar offset).clk = s.clk := 
  by simp [State.violation]
@[simp] theorem State.violation_dev (h : HostId) (cause bar offset : Nat) : (s.violation h cause bar offset).dev = s.dev := 
  by simp [State.violation]
@[simp] theorem State.violation_run (h : HostId) (cause bar offset : Nat) : (s.violation h cause bar offset).run = s.run := 
  by simp [State.violation]
@[simp] theorem State.violation_irq (h : HostId) (cause bar offset : Nat) : (s.violation h cause bar offset).irq = s.irq := 
  by simp [State.violation]
@[simp] theorem State.violation_cmds (h : HostId) (cause bar offset : Nat) : (s.violation h cause bar offset).cmds = s.cmds := 
  by simp [State.violation]
@[simp] theorem State.violation_jnl (h : HostId) (cause bar offset : Nat) : (s.violation h cause bar offset).jnl = s.jnl := 
  by simp [State.violation]
@[simp] theorem State.violation_keep (h : HostId) (cause bar offset : Nat) : (s.violation h cause bar offset).keep = s.keep := 
  by simp [State.violation]
@[simp] theorem State.violation_ports (h : HostId) (cause bar offset : Nat) : (s.violation h cause bar offset).ports = s.ports := 
  by simp [State.violation]
@[simp] theorem State.violation_objs (h : HostId) (cause bar offset : Nat) : (s.violation h cause bar offset).objs = s.objs := 
  by simp [State.violation]
@[simp] theorem State.violation_pool (h : HostId) (cause bar offset : Nat) : (s.violation h cause bar offset).pool = s.pool := 
  by simp [State.violation]
@[simp] theorem State.violation_mem (h : HostId) (cause bar offset : Nat) : (s.violation h cause bar offset).mem = s.mem := 
  by simp [State.violation]
@[simp] theorem State.violation_flt (h : HostId) (cause bar offset : Nat) : (s.violation h cause bar offset).flt = s.flt := 
  by simp [State.violation]
@[simp] theorem State.violation_routes (h : HostId) (cause bar offset : Nat) : (s.violation h cause bar offset).routes = s.routes := 
  by simp [State.violation]
@[simp] theorem State.violation_pairs (h : HostId) (cause bar offset : Nat) : (s.violation h cause bar offset).pairs = s.pairs := 
  by simp [State.violation]
@[simp] theorem State.violation_copiesPrev (h : HostId) (cause bar offset : Nat) : (s.violation h cause bar offset).copiesPrev = s.copiesPrev := 
  by simp [State.violation]
@[simp] theorem State.violation_copyNext (h : HostId) (cause bar offset : Nat) : (s.violation h cause bar offset).copyNext = s.copyNext := 
  by simp [State.violation]
@[simp] theorem State.violation_dense (h : HostId) (cause bar offset : Nat) : (s.violation h cause bar offset).dense = s.dense := 
  by simp [State.violation]
@[simp] theorem State.violation_dlv (h : HostId) (cause bar offset : Nat) : (s.violation h cause bar offset).dlv = s.dlv := 
  by simp [State.violation]
@[simp] theorem State.violation_trk (h : HostId) (cause bar offset : Nat) : (s.violation h cause bar offset).trk = s.trk := 
  by simp [State.violation]
@[simp] theorem State.violation_trk2 (h : HostId) (cause bar offset : Nat) : (s.violation h cause bar offset).trk2 = s.trk2 := 
  by simp [State.violation]
@[simp] theorem State.violation_fw (h : HostId) (cause bar offset : Nat) : (s.violation h cause bar offset).fw = s.fw := 
  by simp [State.violation]
@[simp] theorem State.violation_engines (h : HostId) (cause bar offset : Nat) : (s.violation h cause bar offset).engines = s.engines := 
  by simp [State.violation]
@[simp] theorem State.violation_canvas (h : HostId) (cause bar offset : Nat) : (s.violation h cause bar offset).canvas = s.canvas := 
  by simp [State.violation]
@[simp] theorem State.violation_twd (h : HostId) (cause bar offset : Nat) : (s.violation h cause bar offset).twd = s.twd := 
  by simp [State.violation]
@[simp] theorem State.violation_pwr (h : HostId) (cause bar offset : Nat) : (s.violation h cause bar offset).pwr = s.pwr := 
  by simp [State.violation]
@[simp] theorem State.violation_pwr2 (h : HostId) (cause bar offset : Nat) : (s.violation h cause bar offset).pwr2 = s.pwr2 := 
  by simp [State.violation]
@[simp] theorem State.violation_link (h : HostId) (cause bar offset : Nat) : (s.violation h cause bar offset).link = s.link := 
  by simp [State.violation]
@[simp] theorem State.violation_fld (h : HostId) (cause bar offset : Nat) : (s.violation h cause bar offset).fld = s.fld := 
  by simp [State.violation]
@[simp] theorem State.violation_mgt (h : HostId) (cause bar offset : Nat) : (s.violation h cause bar offset).mgt = s.mgt := 
  by simp [State.violation]
@[simp] theorem State.violation_kept (h : HostId) (cause bar offset : Nat) : (s.violation h cause bar offset).kept = s.kept := 
  by simp [State.violation]
@[simp] theorem State.violation_out (h : HostId) (cause bar offset : Nat) : (s.violation h cause bar offset).out = s.out := 
  by simp [State.violation]
@[simp] theorem State.violation_pending (h : HostId) (cause bar offset : Nat) : (s.violation h cause bar offset).pending = s.pending := 
  by simp [State.violation]

@[simp] theorem State.setPreg_clk (i : Nat) (v : Word) (o : Option HostId) : (s.setPreg i v o).clk = s.clk := rfl
@[simp] theorem State.setPreg_dev (i : Nat) (v : Word) (o : Option HostId) : (s.setPreg i v o).dev = s.dev := rfl
@[simp] theorem State.setPreg_run (i : Nat) (v : Word) (o : Option HostId) : (s.setPreg i v o).run = s.run := rfl
@[simp] theorem State.setPreg_irq (i : Nat) (v : Word) (o : Option HostId) : (s.setPreg i v o).irq = s.irq := rfl
@[simp] theorem State.setPreg_hosts (i : Nat) (v : Word) (o : Option HostId) : (s.setPreg i v o).hosts = s.hosts := 
  rfl
@[simp] theorem State.setPreg_cmds (i : Nat) (v : Word) (o : Option HostId) : (s.setPreg i v o).cmds = s.cmds := rfl
@[simp] theorem State.setPreg_jnl (i : Nat) (v : Word) (o : Option HostId) : (s.setPreg i v o).jnl = s.jnl := rfl
@[simp] theorem State.setPreg_rcd (i : Nat) (v : Word) (o : Option HostId) : (s.setPreg i v o).rcd = s.rcd := rfl
@[simp] theorem State.setPreg_ports (i : Nat) (v : Word) (o : Option HostId) : (s.setPreg i v o).ports = s.ports := 
  rfl
@[simp] theorem State.setPreg_objs (i : Nat) (v : Word) (o : Option HostId) : (s.setPreg i v o).objs = s.objs := rfl
@[simp] theorem State.setPreg_pool (i : Nat) (v : Word) (o : Option HostId) : (s.setPreg i v o).pool = s.pool := rfl
@[simp] theorem State.setPreg_mem (i : Nat) (v : Word) (o : Option HostId) : (s.setPreg i v o).mem = s.mem := rfl
@[simp] theorem State.setPreg_flt (i : Nat) (v : Word) (o : Option HostId) : (s.setPreg i v o).flt = s.flt := rfl
@[simp] theorem State.setPreg_routes (i : Nat) (v : Word) (o : Option HostId) : (s.setPreg i v o).routes = s.routes := 
  rfl
@[simp] theorem State.setPreg_pairs (i : Nat) (v : Word) (o : Option HostId) : (s.setPreg i v o).pairs = s.pairs := 
  rfl
@[simp] theorem State.setPreg_copiesPrev (i : Nat) (v : Word) (o : Option HostId) : (s.setPreg i v o).copiesPrev = s.copiesPrev := 
  rfl
@[simp] theorem State.setPreg_copyNext (i : Nat) (v : Word) (o : Option HostId) : (s.setPreg i v o).copyNext = s.copyNext := 
  rfl
@[simp] theorem State.setPreg_dense (i : Nat) (v : Word) (o : Option HostId) : (s.setPreg i v o).dense = s.dense := 
  rfl
@[simp] theorem State.setPreg_dlv (i : Nat) (v : Word) (o : Option HostId) : (s.setPreg i v o).dlv = s.dlv := rfl
@[simp] theorem State.setPreg_trk (i : Nat) (v : Word) (o : Option HostId) : (s.setPreg i v o).trk = s.trk := rfl
@[simp] theorem State.setPreg_trk2 (i : Nat) (v : Word) (o : Option HostId) : (s.setPreg i v o).trk2 = s.trk2 := rfl
@[simp] theorem State.setPreg_fw (i : Nat) (v : Word) (o : Option HostId) : (s.setPreg i v o).fw = s.fw := rfl
@[simp] theorem State.setPreg_engines (i : Nat) (v : Word) (o : Option HostId) : (s.setPreg i v o).engines = s.engines := 
  rfl
@[simp] theorem State.setPreg_canvas (i : Nat) (v : Word) (o : Option HostId) : (s.setPreg i v o).canvas = s.canvas := 
  rfl
@[simp] theorem State.setPreg_twd (i : Nat) (v : Word) (o : Option HostId) : (s.setPreg i v o).twd = s.twd := rfl
@[simp] theorem State.setPreg_pwr (i : Nat) (v : Word) (o : Option HostId) : (s.setPreg i v o).pwr = s.pwr := rfl
@[simp] theorem State.setPreg_pwr2 (i : Nat) (v : Word) (o : Option HostId) : (s.setPreg i v o).pwr2 = s.pwr2 := rfl
@[simp] theorem State.setPreg_link (i : Nat) (v : Word) (o : Option HostId) : (s.setPreg i v o).link = s.link := rfl
@[simp] theorem State.setPreg_fld (i : Nat) (v : Word) (o : Option HostId) : (s.setPreg i v o).fld = s.fld := rfl
@[simp] theorem State.setPreg_mgt (i : Nat) (v : Word) (o : Option HostId) : (s.setPreg i v o).mgt = s.mgt := rfl
@[simp] theorem State.setPreg_kept (i : Nat) (v : Word) (o : Option HostId) : (s.setPreg i v o).kept = s.kept := rfl
@[simp] theorem State.setPreg_out (i : Nat) (v : Word) (o : Option HostId) : (s.setPreg i v o).out = s.out := rfl
@[simp] theorem State.setPreg_pending (i : Nat) (v : Word) (o : Option HostId) : (s.setPreg i v o).pending = s.pending := 
  rfl

@[simp] theorem State.changeMode_clk (m : Mode) : (s.changeMode m).clk = s.clk := by simp [State.changeMode]
@[simp] theorem State.changeMode_run (m : Mode) : (s.changeMode m).run = s.run := by simp [State.changeMode]
@[simp] theorem State.changeMode_hosts (m : Mode) : (s.changeMode m).hosts = s.hosts := by simp [State.changeMode]
@[simp] theorem State.changeMode_cmds (m : Mode) : (s.changeMode m).cmds = s.cmds := by simp [State.changeMode]
@[simp] theorem State.changeMode_jnl (m : Mode) : (s.changeMode m).jnl = s.jnl := by simp [State.changeMode]
@[simp] theorem State.changeMode_keep (m : Mode) : (s.changeMode m).keep = s.keep := by simp [State.changeMode]
@[simp] theorem State.changeMode_ports (m : Mode) : (s.changeMode m).ports = s.ports := by simp [State.changeMode]
@[simp] theorem State.changeMode_objs (m : Mode) : (s.changeMode m).objs = s.objs := by simp [State.changeMode]
@[simp] theorem State.changeMode_pool (m : Mode) : (s.changeMode m).pool = s.pool := by simp [State.changeMode]
@[simp] theorem State.changeMode_mem (m : Mode) : (s.changeMode m).mem = s.mem := by simp [State.changeMode]
@[simp] theorem State.changeMode_flt (m : Mode) : (s.changeMode m).flt = s.flt := by simp [State.changeMode]
@[simp] theorem State.changeMode_routes (m : Mode) : (s.changeMode m).routes = s.routes := by simp [State.changeMode]
@[simp] theorem State.changeMode_pairs (m : Mode) : (s.changeMode m).pairs = s.pairs := by simp [State.changeMode]
@[simp] theorem State.changeMode_copiesPrev (m : Mode) : (s.changeMode m).copiesPrev = s.copiesPrev := 
  by simp [State.changeMode]
@[simp] theorem State.changeMode_copyNext (m : Mode) : (s.changeMode m).copyNext = s.copyNext := 
  by simp [State.changeMode]
@[simp] theorem State.changeMode_dense (m : Mode) : (s.changeMode m).dense = s.dense := by simp [State.changeMode]
@[simp] theorem State.changeMode_trk (m : Mode) : (s.changeMode m).trk = s.trk := by simp [State.changeMode]
@[simp] theorem State.changeMode_fw (m : Mode) : (s.changeMode m).fw = s.fw := by simp [State.changeMode]
@[simp] theorem State.changeMode_engines (m : Mode) : (s.changeMode m).engines = s.engines := 
  by simp [State.changeMode]
@[simp] theorem State.changeMode_canvas (m : Mode) : (s.changeMode m).canvas = s.canvas := by simp [State.changeMode]
@[simp] theorem State.changeMode_twd (m : Mode) : (s.changeMode m).twd = s.twd := by simp [State.changeMode]
@[simp] theorem State.changeMode_pwr (m : Mode) : (s.changeMode m).pwr = s.pwr := by simp [State.changeMode]
@[simp] theorem State.changeMode_pwr2 (m : Mode) : (s.changeMode m).pwr2 = s.pwr2 := by simp [State.changeMode]
@[simp] theorem State.changeMode_link (m : Mode) : (s.changeMode m).link = s.link := by simp [State.changeMode]
@[simp] theorem State.changeMode_fld (m : Mode) : (s.changeMode m).fld = s.fld := by simp [State.changeMode]
@[simp] theorem State.changeMode_mgt (m : Mode) : (s.changeMode m).mgt = s.mgt := by simp [State.changeMode]
@[simp] theorem State.changeMode_out (m : Mode) : (s.changeMode m).out = s.out := by simp [State.changeMode]
@[simp] theorem State.changeMode_pending (m : Mode) : (s.changeMode m).pending = s.pending := 
  by simp [State.changeMode]

@[simp] theorem State.powerRaise_clk (n : Nat) : (s.powerRaise n).clk = s.clk := 
  by unfold State.powerRaise; split <;> simp
@[simp] theorem State.powerRaise_dev (n : Nat) : (s.powerRaise n).dev = s.dev := 
  by unfold State.powerRaise; split <;> simp
@[simp] theorem State.powerRaise_run (n : Nat) : (s.powerRaise n).run = s.run := 
  by unfold State.powerRaise; split <;> simp
@[simp] theorem State.powerRaise_hosts (n : Nat) : (s.powerRaise n).hosts = s.hosts := 
  by unfold State.powerRaise; split <;> simp
@[simp] theorem State.powerRaise_cmds (n : Nat) : (s.powerRaise n).cmds = s.cmds := 
  by unfold State.powerRaise; split <;> simp
@[simp] theorem State.powerRaise_jnl (n : Nat) : (s.powerRaise n).jnl = s.jnl := 
  by unfold State.powerRaise; split <;> simp
@[simp] theorem State.powerRaise_rcd (n : Nat) : (s.powerRaise n).rcd = s.rcd := 
  by unfold State.powerRaise; split <;> simp
@[simp] theorem State.powerRaise_keep (n : Nat) : (s.powerRaise n).keep = s.keep := 
  by unfold State.powerRaise; split <;> simp
@[simp] theorem State.powerRaise_ports (n : Nat) : (s.powerRaise n).ports = s.ports := 
  by unfold State.powerRaise; split <;> simp
@[simp] theorem State.powerRaise_objs (n : Nat) : (s.powerRaise n).objs = s.objs := 
  by unfold State.powerRaise; split <;> simp
@[simp] theorem State.powerRaise_pool (n : Nat) : (s.powerRaise n).pool = s.pool := 
  by unfold State.powerRaise; split <;> simp
@[simp] theorem State.powerRaise_mem (n : Nat) : (s.powerRaise n).mem = s.mem := 
  by unfold State.powerRaise; split <;> simp
@[simp] theorem State.powerRaise_flt (n : Nat) : (s.powerRaise n).flt = s.flt := 
  by unfold State.powerRaise; split <;> simp
@[simp] theorem State.powerRaise_routes (n : Nat) : (s.powerRaise n).routes = s.routes := 
  by unfold State.powerRaise; split <;> simp
@[simp] theorem State.powerRaise_pairs (n : Nat) : (s.powerRaise n).pairs = s.pairs := 
  by unfold State.powerRaise; split <;> simp
@[simp] theorem State.powerRaise_copiesPrev (n : Nat) : (s.powerRaise n).copiesPrev = s.copiesPrev := 
  by unfold State.powerRaise; split <;> simp
@[simp] theorem State.powerRaise_copyNext (n : Nat) : (s.powerRaise n).copyNext = s.copyNext := 
  by unfold State.powerRaise; split <;> simp
@[simp] theorem State.powerRaise_dense (n : Nat) : (s.powerRaise n).dense = s.dense := 
  by unfold State.powerRaise; split <;> simp
@[simp] theorem State.powerRaise_dlv (n : Nat) : (s.powerRaise n).dlv = s.dlv := 
  by unfold State.powerRaise; split <;> simp
@[simp] theorem State.powerRaise_trk (n : Nat) : (s.powerRaise n).trk = s.trk := 
  by unfold State.powerRaise; split <;> simp
@[simp] theorem State.powerRaise_trk2 (n : Nat) : (s.powerRaise n).trk2 = s.trk2 := 
  by unfold State.powerRaise; split <;> simp
@[simp] theorem State.powerRaise_fw (n : Nat) : (s.powerRaise n).fw = s.fw := 
  by unfold State.powerRaise; split <;> simp
@[simp] theorem State.powerRaise_engines (n : Nat) : (s.powerRaise n).engines = s.engines := 
  by unfold State.powerRaise; split <;> simp
@[simp] theorem State.powerRaise_canvas (n : Nat) : (s.powerRaise n).canvas = s.canvas := 
  by unfold State.powerRaise; split <;> simp
@[simp] theorem State.powerRaise_twd (n : Nat) : (s.powerRaise n).twd = s.twd := 
  by unfold State.powerRaise; split <;> simp
@[simp] theorem State.powerRaise_pwr (n : Nat) : (s.powerRaise n).pwr = s.pwr := 
  by unfold State.powerRaise; split <;> simp
@[simp] theorem State.powerRaise_pwr2 (n : Nat) : (s.powerRaise n).pwr2 = s.pwr2 := 
  by unfold State.powerRaise; split <;> simp
@[simp] theorem State.powerRaise_link (n : Nat) : (s.powerRaise n).link = s.link := 
  by unfold State.powerRaise; split <;> simp
@[simp] theorem State.powerRaise_fld (n : Nat) : (s.powerRaise n).fld = s.fld := 
  by unfold State.powerRaise; split <;> simp
@[simp] theorem State.powerRaise_mgt (n : Nat) : (s.powerRaise n).mgt = s.mgt := 
  by unfold State.powerRaise; split <;> simp
@[simp] theorem State.powerRaise_out (n : Nat) : (s.powerRaise n).out = s.out := 
  by unfold State.powerRaise; split <;> simp
@[simp] theorem State.powerRaise_pending (n : Nat) : (s.powerRaise n).pending = s.pending := 
  by unfold State.powerRaise; split <;> simp

@[simp] theorem State.powerEvent_clk (code source sev d0 d1 : Nat) : (s.powerEvent code source sev d0 d1).clk = s.clk := 
  by unfold State.powerEvent; dsimp only; split <;> simp
@[simp] theorem State.powerEvent_dev (code source sev d0 d1 : Nat) : (s.powerEvent code source sev d0 d1).dev = s.dev := 
  by unfold State.powerEvent; dsimp only; split <;> simp
@[simp] theorem State.powerEvent_run (code source sev d0 d1 : Nat) : (s.powerEvent code source sev d0 d1).run = s.run := 
  by unfold State.powerEvent; dsimp only; split <;> simp
@[simp] theorem State.powerEvent_irq (code source sev d0 d1 : Nat) : (s.powerEvent code source sev d0 d1).irq = s.irq := 
  by unfold State.powerEvent; dsimp only; split <;> simp
@[simp] theorem State.powerEvent_hosts (code source sev d0 d1 : Nat) : (s.powerEvent code source sev d0 d1).hosts = s.hosts := 
  by unfold State.powerEvent; dsimp only; split <;> simp
@[simp] theorem State.powerEvent_cmds (code source sev d0 d1 : Nat) : (s.powerEvent code source sev d0 d1).cmds = s.cmds := 
  by unfold State.powerEvent; dsimp only; split <;> simp
@[simp] theorem State.powerEvent_jnl (code source sev d0 d1 : Nat) : (s.powerEvent code source sev d0 d1).jnl = s.jnl := 
  by unfold State.powerEvent; dsimp only; split <;> simp
@[simp] theorem State.powerEvent_keep (code source sev d0 d1 : Nat) : (s.powerEvent code source sev d0 d1).keep = s.keep := 
  by unfold State.powerEvent; dsimp only; split <;> simp
@[simp] theorem State.powerEvent_ports (code source sev d0 d1 : Nat) : (s.powerEvent code source sev d0 d1).ports = s.ports := 
  by unfold State.powerEvent; dsimp only; split <;> simp
@[simp] theorem State.powerEvent_objs (code source sev d0 d1 : Nat) : (s.powerEvent code source sev d0 d1).objs = s.objs := 
  by unfold State.powerEvent; dsimp only; split <;> simp
@[simp] theorem State.powerEvent_pool (code source sev d0 d1 : Nat) : (s.powerEvent code source sev d0 d1).pool = s.pool := 
  by unfold State.powerEvent; dsimp only; split <;> simp
@[simp] theorem State.powerEvent_mem (code source sev d0 d1 : Nat) : (s.powerEvent code source sev d0 d1).mem = s.mem := 
  by unfold State.powerEvent; dsimp only; split <;> simp
@[simp] theorem State.powerEvent_flt (code source sev d0 d1 : Nat) : (s.powerEvent code source sev d0 d1).flt = s.flt := 
  by unfold State.powerEvent; dsimp only; split <;> simp
@[simp] theorem State.powerEvent_routes (code source sev d0 d1 : Nat) : (s.powerEvent code source sev d0 d1).routes = s.routes := 
  by unfold State.powerEvent; dsimp only; split <;> simp
@[simp] theorem State.powerEvent_pairs (code source sev d0 d1 : Nat) : (s.powerEvent code source sev d0 d1).pairs = s.pairs := 
  by unfold State.powerEvent; dsimp only; split <;> simp
@[simp] theorem State.powerEvent_copiesPrev (code source sev d0 d1 : Nat) : (s.powerEvent code source sev d0 d1).copiesPrev = s.copiesPrev := 
  by unfold State.powerEvent; dsimp only; split <;> simp
@[simp] theorem State.powerEvent_copyNext (code source sev d0 d1 : Nat) : (s.powerEvent code source sev d0 d1).copyNext = s.copyNext := 
  by unfold State.powerEvent; dsimp only; split <;> simp
@[simp] theorem State.powerEvent_dense (code source sev d0 d1 : Nat) : (s.powerEvent code source sev d0 d1).dense = s.dense := 
  by unfold State.powerEvent; dsimp only; split <;> simp
@[simp] theorem State.powerEvent_dlv (code source sev d0 d1 : Nat) : (s.powerEvent code source sev d0 d1).dlv = s.dlv := 
  by unfold State.powerEvent; dsimp only; split <;> simp
@[simp] theorem State.powerEvent_trk (code source sev d0 d1 : Nat) : (s.powerEvent code source sev d0 d1).trk = s.trk := 
  by unfold State.powerEvent; dsimp only; split <;> simp
@[simp] theorem State.powerEvent_trk2 (code source sev d0 d1 : Nat) : (s.powerEvent code source sev d0 d1).trk2 = s.trk2 := 
  by unfold State.powerEvent; dsimp only; split <;> simp
@[simp] theorem State.powerEvent_fw (code source sev d0 d1 : Nat) : (s.powerEvent code source sev d0 d1).fw = s.fw := 
  by unfold State.powerEvent; dsimp only; split <;> simp
@[simp] theorem State.powerEvent_engines (code source sev d0 d1 : Nat) : (s.powerEvent code source sev d0 d1).engines = s.engines := 
  by unfold State.powerEvent; dsimp only; split <;> simp
@[simp] theorem State.powerEvent_canvas (code source sev d0 d1 : Nat) : (s.powerEvent code source sev d0 d1).canvas = s.canvas := 
  by unfold State.powerEvent; dsimp only; split <;> simp
@[simp] theorem State.powerEvent_twd (code source sev d0 d1 : Nat) : (s.powerEvent code source sev d0 d1).twd = s.twd := 
  by unfold State.powerEvent; dsimp only; split <;> simp
@[simp] theorem State.powerEvent_pwr (code source sev d0 d1 : Nat) : (s.powerEvent code source sev d0 d1).pwr = s.pwr := 
  by unfold State.powerEvent; dsimp only; split <;> simp
@[simp] theorem State.powerEvent_pwr2 (code source sev d0 d1 : Nat) : (s.powerEvent code source sev d0 d1).pwr2 = s.pwr2 := 
  by unfold State.powerEvent; dsimp only; split <;> simp
@[simp] theorem State.powerEvent_link (code source sev d0 d1 : Nat) : (s.powerEvent code source sev d0 d1).link = s.link := 
  by unfold State.powerEvent; dsimp only; split <;> simp
@[simp] theorem State.powerEvent_fld (code source sev d0 d1 : Nat) : (s.powerEvent code source sev d0 d1).fld = s.fld := 
  by unfold State.powerEvent; dsimp only; split <;> simp
@[simp] theorem State.powerEvent_mgt (code source sev d0 d1 : Nat) : (s.powerEvent code source sev d0 d1).mgt = s.mgt := 
  by unfold State.powerEvent; dsimp only; split <;> simp
@[simp] theorem State.powerEvent_kept (code source sev d0 d1 : Nat) : (s.powerEvent code source sev d0 d1).kept = s.kept := 
  by unfold State.powerEvent; dsimp only; split <;> simp
@[simp] theorem State.powerEvent_out (code source sev d0 d1 : Nat) : (s.powerEvent code source sev d0 d1).out = s.out := 
  by unfold State.powerEvent; dsimp only; split <;> simp
@[simp] theorem State.powerEvent_pending (code source sev d0 d1 : Nat) : (s.powerEvent code source sev d0 d1).pending = s.pending := 
  by unfold State.powerEvent; dsimp only; split <;> simp

@[simp] theorem State.writeStateLine_clk : (s.writeStateLine).clk = s.clk := rfl
@[simp] theorem State.writeStateLine_dev : (s.writeStateLine).dev = s.dev := rfl
@[simp] theorem State.writeStateLine_run : (s.writeStateLine).run = s.run := rfl
@[simp] theorem State.writeStateLine_irq : (s.writeStateLine).irq = s.irq := rfl
@[simp] theorem State.writeStateLine_hosts : (s.writeStateLine).hosts = s.hosts := rfl
@[simp] theorem State.writeStateLine_cmds : (s.writeStateLine).cmds = s.cmds := rfl
@[simp] theorem State.writeStateLine_jnl : (s.writeStateLine).jnl = s.jnl := rfl
@[simp] theorem State.writeStateLine_rcd : (s.writeStateLine).rcd = s.rcd := rfl
@[simp] theorem State.writeStateLine_ports : (s.writeStateLine).ports = s.ports := rfl
@[simp] theorem State.writeStateLine_objs : (s.writeStateLine).objs = s.objs := rfl
@[simp] theorem State.writeStateLine_pool : (s.writeStateLine).pool = s.pool := rfl
@[simp] theorem State.writeStateLine_mem : (s.writeStateLine).mem = s.mem := rfl
@[simp] theorem State.writeStateLine_flt : (s.writeStateLine).flt = s.flt := rfl
@[simp] theorem State.writeStateLine_routes : (s.writeStateLine).routes = s.routes := rfl
@[simp] theorem State.writeStateLine_pairs : (s.writeStateLine).pairs = s.pairs := rfl
@[simp] theorem State.writeStateLine_copiesPrev : (s.writeStateLine).copiesPrev = s.copiesPrev := rfl
@[simp] theorem State.writeStateLine_copyNext : (s.writeStateLine).copyNext = s.copyNext := rfl
@[simp] theorem State.writeStateLine_dense : (s.writeStateLine).dense = s.dense := rfl
@[simp] theorem State.writeStateLine_dlv : (s.writeStateLine).dlv = s.dlv := rfl
@[simp] theorem State.writeStateLine_trk : (s.writeStateLine).trk = s.trk := rfl
@[simp] theorem State.writeStateLine_trk2 : (s.writeStateLine).trk2 = s.trk2 := rfl
@[simp] theorem State.writeStateLine_fw : (s.writeStateLine).fw = s.fw := rfl
@[simp] theorem State.writeStateLine_engines : (s.writeStateLine).engines = s.engines := rfl
@[simp] theorem State.writeStateLine_canvas : (s.writeStateLine).canvas = s.canvas := rfl
@[simp] theorem State.writeStateLine_twd : (s.writeStateLine).twd = s.twd := rfl
@[simp] theorem State.writeStateLine_pwr2 : (s.writeStateLine).pwr2 = s.pwr2 := rfl
@[simp] theorem State.writeStateLine_link : (s.writeStateLine).link = s.link := rfl
@[simp] theorem State.writeStateLine_fld : (s.writeStateLine).fld = s.fld := rfl
@[simp] theorem State.writeStateLine_mgt : (s.writeStateLine).mgt = s.mgt := rfl
@[simp] theorem State.writeStateLine_kept : (s.writeStateLine).kept = s.kept := rfl
@[simp] theorem State.writeStateLine_out : (s.writeStateLine).out = s.out := rfl
@[simp] theorem State.writeStateLine_pending : (s.writeStateLine).pending = s.pending := rfl

@[simp] theorem State.clearCount_clk : (s.clearCount).clk = s.clk := 
  by unfold State.clearCount; dsimp only; split <;> rfl
@[simp] theorem State.clearCount_dev : (s.clearCount).dev = s.dev := 
  by unfold State.clearCount; dsimp only; split <;> rfl
@[simp] theorem State.clearCount_run : (s.clearCount).run = s.run := 
  by unfold State.clearCount; dsimp only; split <;> rfl
@[simp] theorem State.clearCount_irq : (s.clearCount).irq = s.irq := 
  by unfold State.clearCount; dsimp only; split <;> rfl
@[simp] theorem State.clearCount_hosts : (s.clearCount).hosts = s.hosts := 
  by unfold State.clearCount; dsimp only; split <;> rfl
@[simp] theorem State.clearCount_cmds : (s.clearCount).cmds = s.cmds := 
  by unfold State.clearCount; dsimp only; split <;> rfl
@[simp] theorem State.clearCount_jnl : (s.clearCount).jnl = s.jnl := 
  by unfold State.clearCount; dsimp only; split <;> rfl
@[simp] theorem State.clearCount_rcd : (s.clearCount).rcd = s.rcd := 
  by unfold State.clearCount; dsimp only; split <;> rfl
@[simp] theorem State.clearCount_ports : (s.clearCount).ports = s.ports := 
  by unfold State.clearCount; dsimp only; split <;> rfl
@[simp] theorem State.clearCount_objs : (s.clearCount).objs = s.objs := 
  by unfold State.clearCount; dsimp only; split <;> rfl
@[simp] theorem State.clearCount_pool : (s.clearCount).pool = s.pool := 
  by unfold State.clearCount; dsimp only; split <;> rfl
@[simp] theorem State.clearCount_mem : (s.clearCount).mem = s.mem := 
  by unfold State.clearCount; dsimp only; split <;> rfl
@[simp] theorem State.clearCount_flt : (s.clearCount).flt = s.flt := 
  by unfold State.clearCount; dsimp only; split <;> rfl
@[simp] theorem State.clearCount_routes : (s.clearCount).routes = s.routes := 
  by unfold State.clearCount; dsimp only; split <;> rfl
@[simp] theorem State.clearCount_pairs : (s.clearCount).pairs = s.pairs := 
  by unfold State.clearCount; dsimp only; split <;> rfl
@[simp] theorem State.clearCount_copiesPrev : (s.clearCount).copiesPrev = s.copiesPrev := 
  by unfold State.clearCount; dsimp only; split <;> rfl
@[simp] theorem State.clearCount_copyNext : (s.clearCount).copyNext = s.copyNext := 
  by unfold State.clearCount; dsimp only; split <;> rfl
@[simp] theorem State.clearCount_dense : (s.clearCount).dense = s.dense := 
  by unfold State.clearCount; dsimp only; split <;> rfl
@[simp] theorem State.clearCount_dlv : (s.clearCount).dlv = s.dlv := 
  by unfold State.clearCount; dsimp only; split <;> rfl
@[simp] theorem State.clearCount_trk : (s.clearCount).trk = s.trk := 
  by unfold State.clearCount; dsimp only; split <;> rfl
@[simp] theorem State.clearCount_trk2 : (s.clearCount).trk2 = s.trk2 := 
  by unfold State.clearCount; dsimp only; split <;> rfl
@[simp] theorem State.clearCount_fw : (s.clearCount).fw = s.fw := 
  by unfold State.clearCount; dsimp only; split <;> rfl
@[simp] theorem State.clearCount_engines : (s.clearCount).engines = s.engines := 
  by unfold State.clearCount; dsimp only; split <;> rfl
@[simp] theorem State.clearCount_canvas : (s.clearCount).canvas = s.canvas := 
  by unfold State.clearCount; dsimp only; split <;> rfl
@[simp] theorem State.clearCount_twd : (s.clearCount).twd = s.twd := 
  by unfold State.clearCount; dsimp only; split <;> rfl
@[simp] theorem State.clearCount_pwr2 : (s.clearCount).pwr2 = s.pwr2 := 
  by unfold State.clearCount; dsimp only; split <;> rfl
@[simp] theorem State.clearCount_link : (s.clearCount).link = s.link := 
  by unfold State.clearCount; dsimp only; split <;> rfl
@[simp] theorem State.clearCount_fld : (s.clearCount).fld = s.fld := 
  by unfold State.clearCount; dsimp only; split <;> rfl
@[simp] theorem State.clearCount_mgt : (s.clearCount).mgt = s.mgt := 
  by unfold State.clearCount; dsimp only; split <;> rfl
@[simp] theorem State.clearCount_kept : (s.clearCount).kept = s.kept := 
  by unfold State.clearCount; dsimp only; split <;> rfl
@[simp] theorem State.clearCount_out : (s.clearCount).out = s.out := 
  by unfold State.clearCount; dsimp only; split <;> rfl
@[simp] theorem State.clearCount_pending : (s.clearCount).pending = s.pending := 
  by unfold State.clearCount; dsimp only; split <;> rfl

@[simp] theorem State.holdUnreported_clk (n : Nat) : (s.holdUnreported n).clk = s.clk := rfl
@[simp] theorem State.holdUnreported_dev (n : Nat) : (s.holdUnreported n).dev = s.dev := rfl
@[simp] theorem State.holdUnreported_run (n : Nat) : (s.holdUnreported n).run = s.run := rfl
@[simp] theorem State.holdUnreported_irq (n : Nat) : (s.holdUnreported n).irq = s.irq := rfl
@[simp] theorem State.holdUnreported_hosts (n : Nat) : (s.holdUnreported n).hosts = s.hosts := rfl
@[simp] theorem State.holdUnreported_cmds (n : Nat) : (s.holdUnreported n).cmds = s.cmds := rfl
@[simp] theorem State.holdUnreported_jnl (n : Nat) : (s.holdUnreported n).jnl = s.jnl := rfl
@[simp] theorem State.holdUnreported_rcd (n : Nat) : (s.holdUnreported n).rcd = s.rcd := rfl
@[simp] theorem State.holdUnreported_keep (n : Nat) : (s.holdUnreported n).keep = s.keep := rfl
@[simp] theorem State.holdUnreported_ports (n : Nat) : (s.holdUnreported n).ports = s.ports := rfl
@[simp] theorem State.holdUnreported_objs (n : Nat) : (s.holdUnreported n).objs = s.objs := rfl
@[simp] theorem State.holdUnreported_pool (n : Nat) : (s.holdUnreported n).pool = s.pool := rfl
@[simp] theorem State.holdUnreported_mem (n : Nat) : (s.holdUnreported n).mem = s.mem := rfl
@[simp] theorem State.holdUnreported_flt (n : Nat) : (s.holdUnreported n).flt = s.flt := rfl
@[simp] theorem State.holdUnreported_routes (n : Nat) : (s.holdUnreported n).routes = s.routes := rfl
@[simp] theorem State.holdUnreported_pairs (n : Nat) : (s.holdUnreported n).pairs = s.pairs := rfl
@[simp] theorem State.holdUnreported_copiesPrev (n : Nat) : (s.holdUnreported n).copiesPrev = s.copiesPrev := rfl
@[simp] theorem State.holdUnreported_copyNext (n : Nat) : (s.holdUnreported n).copyNext = s.copyNext := rfl
@[simp] theorem State.holdUnreported_dense (n : Nat) : (s.holdUnreported n).dense = s.dense := rfl
@[simp] theorem State.holdUnreported_dlv (n : Nat) : (s.holdUnreported n).dlv = s.dlv := rfl
@[simp] theorem State.holdUnreported_trk (n : Nat) : (s.holdUnreported n).trk = s.trk := rfl
@[simp] theorem State.holdUnreported_trk2 (n : Nat) : (s.holdUnreported n).trk2 = s.trk2 := rfl
@[simp] theorem State.holdUnreported_fw (n : Nat) : (s.holdUnreported n).fw = s.fw := rfl
@[simp] theorem State.holdUnreported_engines (n : Nat) : (s.holdUnreported n).engines = s.engines := rfl
@[simp] theorem State.holdUnreported_canvas (n : Nat) : (s.holdUnreported n).canvas = s.canvas := rfl
@[simp] theorem State.holdUnreported_twd (n : Nat) : (s.holdUnreported n).twd = s.twd := rfl
@[simp] theorem State.holdUnreported_pwr (n : Nat) : (s.holdUnreported n).pwr = s.pwr := rfl
@[simp] theorem State.holdUnreported_link (n : Nat) : (s.holdUnreported n).link = s.link := rfl
@[simp] theorem State.holdUnreported_fld (n : Nat) : (s.holdUnreported n).fld = s.fld := rfl
@[simp] theorem State.holdUnreported_mgt (n : Nat) : (s.holdUnreported n).mgt = s.mgt := rfl
@[simp] theorem State.holdUnreported_kept (n : Nat) : (s.holdUnreported n).kept = s.kept := rfl
@[simp] theorem State.holdUnreported_out (n : Nat) : (s.holdUnreported n).out = s.out := rfl
@[simp] theorem State.holdUnreported_pending (n : Nat) : (s.holdUnreported n).pending = s.pending := rfl

@[simp] theorem State.hold_clk (h : HostId) (w : HeldAccess) : (s.hold h w).clk = s.clk := rfl
@[simp] theorem State.hold_dev (h : HostId) (w : HeldAccess) : (s.hold h w).dev = s.dev := rfl
@[simp] theorem State.hold_run (h : HostId) (w : HeldAccess) : (s.hold h w).run = s.run := rfl
@[simp] theorem State.hold_irq (h : HostId) (w : HeldAccess) : (s.hold h w).irq = s.irq := rfl
@[simp] theorem State.hold_cmds (h : HostId) (w : HeldAccess) : (s.hold h w).cmds = s.cmds := rfl
@[simp] theorem State.hold_jnl (h : HostId) (w : HeldAccess) : (s.hold h w).jnl = s.jnl := rfl
@[simp] theorem State.hold_rcd (h : HostId) (w : HeldAccess) : (s.hold h w).rcd = s.rcd := rfl
@[simp] theorem State.hold_keep (h : HostId) (w : HeldAccess) : (s.hold h w).keep = s.keep := rfl
@[simp] theorem State.hold_ports (h : HostId) (w : HeldAccess) : (s.hold h w).ports = s.ports := rfl
@[simp] theorem State.hold_objs (h : HostId) (w : HeldAccess) : (s.hold h w).objs = s.objs := rfl
@[simp] theorem State.hold_pool (h : HostId) (w : HeldAccess) : (s.hold h w).pool = s.pool := rfl
@[simp] theorem State.hold_mem (h : HostId) (w : HeldAccess) : (s.hold h w).mem = s.mem := rfl
@[simp] theorem State.hold_flt (h : HostId) (w : HeldAccess) : (s.hold h w).flt = s.flt := rfl
@[simp] theorem State.hold_routes (h : HostId) (w : HeldAccess) : (s.hold h w).routes = s.routes := rfl
@[simp] theorem State.hold_pairs (h : HostId) (w : HeldAccess) : (s.hold h w).pairs = s.pairs := rfl
@[simp] theorem State.hold_copiesPrev (h : HostId) (w : HeldAccess) : (s.hold h w).copiesPrev = s.copiesPrev := rfl
@[simp] theorem State.hold_copyNext (h : HostId) (w : HeldAccess) : (s.hold h w).copyNext = s.copyNext := rfl
@[simp] theorem State.hold_dense (h : HostId) (w : HeldAccess) : (s.hold h w).dense = s.dense := rfl
@[simp] theorem State.hold_dlv (h : HostId) (w : HeldAccess) : (s.hold h w).dlv = s.dlv := rfl
@[simp] theorem State.hold_trk (h : HostId) (w : HeldAccess) : (s.hold h w).trk = s.trk := rfl
@[simp] theorem State.hold_trk2 (h : HostId) (w : HeldAccess) : (s.hold h w).trk2 = s.trk2 := rfl
@[simp] theorem State.hold_fw (h : HostId) (w : HeldAccess) : (s.hold h w).fw = s.fw := rfl
@[simp] theorem State.hold_engines (h : HostId) (w : HeldAccess) : (s.hold h w).engines = s.engines := rfl
@[simp] theorem State.hold_canvas (h : HostId) (w : HeldAccess) : (s.hold h w).canvas = s.canvas := rfl
@[simp] theorem State.hold_twd (h : HostId) (w : HeldAccess) : (s.hold h w).twd = s.twd := rfl
@[simp] theorem State.hold_pwr (h : HostId) (w : HeldAccess) : (s.hold h w).pwr = s.pwr := rfl
@[simp] theorem State.hold_pwr2 (h : HostId) (w : HeldAccess) : (s.hold h w).pwr2 = s.pwr2 := rfl
@[simp] theorem State.hold_link (h : HostId) (w : HeldAccess) : (s.hold h w).link = s.link := rfl
@[simp] theorem State.hold_fld (h : HostId) (w : HeldAccess) : (s.hold h w).fld = s.fld := rfl
@[simp] theorem State.hold_mgt (h : HostId) (w : HeldAccess) : (s.hold h w).mgt = s.mgt := rfl
@[simp] theorem State.hold_kept (h : HostId) (w : HeldAccess) : (s.hold h w).kept = s.kept := rfl
@[simp] theorem State.hold_out (h : HostId) (w : HeldAccess) : (s.hold h w).out = s.out := rfl
@[simp] theorem State.hold_pending (h : HostId) (w : HeldAccess) : (s.hold h w).pending = s.pending := rfl

@[simp] theorem State.eccBad_clk (region addr : Nat) : (s.eccBad region addr).clk = s.clk := by simp [State.eccBad]
@[simp] theorem State.eccBad_dev (region addr : Nat) : (s.eccBad region addr).dev = s.dev := by simp [State.eccBad]
@[simp] theorem State.eccBad_run (region addr : Nat) : (s.eccBad region addr).run = s.run := by simp [State.eccBad]
@[simp] theorem State.eccBad_hosts (region addr : Nat) : (s.eccBad region addr).hosts = s.hosts := 
  by simp [State.eccBad]
@[simp] theorem State.eccBad_cmds (region addr : Nat) : (s.eccBad region addr).cmds = s.cmds := by simp [State.eccBad]
@[simp] theorem State.eccBad_jnl (region addr : Nat) : (s.eccBad region addr).jnl = s.jnl := by simp [State.eccBad]
@[simp] theorem State.eccBad_keep (region addr : Nat) : (s.eccBad region addr).keep = s.keep := by simp [State.eccBad]
@[simp] theorem State.eccBad_ports (region addr : Nat) : (s.eccBad region addr).ports = s.ports := 
  by simp [State.eccBad]
@[simp] theorem State.eccBad_objs (region addr : Nat) : (s.eccBad region addr).objs = s.objs := by simp [State.eccBad]
@[simp] theorem State.eccBad_pool (region addr : Nat) : (s.eccBad region addr).pool = s.pool := by simp [State.eccBad]
@[simp] theorem State.eccBad_flt (region addr : Nat) : (s.eccBad region addr).flt = s.flt := by simp [State.eccBad]
@[simp] theorem State.eccBad_routes (region addr : Nat) : (s.eccBad region addr).routes = s.routes := 
  by simp [State.eccBad]
@[simp] theorem State.eccBad_pairs (region addr : Nat) : (s.eccBad region addr).pairs = s.pairs := 
  by simp [State.eccBad]
@[simp] theorem State.eccBad_copiesPrev (region addr : Nat) : (s.eccBad region addr).copiesPrev = s.copiesPrev := 
  by simp [State.eccBad]
@[simp] theorem State.eccBad_copyNext (region addr : Nat) : (s.eccBad region addr).copyNext = s.copyNext := 
  by simp [State.eccBad]
@[simp] theorem State.eccBad_dense (region addr : Nat) : (s.eccBad region addr).dense = s.dense := 
  by simp [State.eccBad]
@[simp] theorem State.eccBad_dlv (region addr : Nat) : (s.eccBad region addr).dlv = s.dlv := by simp [State.eccBad]
@[simp] theorem State.eccBad_trk (region addr : Nat) : (s.eccBad region addr).trk = s.trk := by simp [State.eccBad]
@[simp] theorem State.eccBad_trk2 (region addr : Nat) : (s.eccBad region addr).trk2 = s.trk2 := by simp [State.eccBad]
@[simp] theorem State.eccBad_fw (region addr : Nat) : (s.eccBad region addr).fw = s.fw := by simp [State.eccBad]
@[simp] theorem State.eccBad_engines (region addr : Nat) : (s.eccBad region addr).engines = s.engines := 
  by simp [State.eccBad]
@[simp] theorem State.eccBad_canvas (region addr : Nat) : (s.eccBad region addr).canvas = s.canvas := 
  by simp [State.eccBad]
@[simp] theorem State.eccBad_twd (region addr : Nat) : (s.eccBad region addr).twd = s.twd := by simp [State.eccBad]
@[simp] theorem State.eccBad_pwr (region addr : Nat) : (s.eccBad region addr).pwr = s.pwr := by simp [State.eccBad]
@[simp] theorem State.eccBad_pwr2 (region addr : Nat) : (s.eccBad region addr).pwr2 = s.pwr2 := by simp [State.eccBad]
@[simp] theorem State.eccBad_link (region addr : Nat) : (s.eccBad region addr).link = s.link := by simp [State.eccBad]
@[simp] theorem State.eccBad_fld (region addr : Nat) : (s.eccBad region addr).fld = s.fld := by simp [State.eccBad]
@[simp] theorem State.eccBad_mgt (region addr : Nat) : (s.eccBad region addr).mgt = s.mgt := by simp [State.eccBad]
@[simp] theorem State.eccBad_out (region addr : Nat) : (s.eccBad region addr).out = s.out := by simp [State.eccBad]
@[simp] theorem State.eccBad_pending (region addr : Nat) : (s.eccBad region addr).pending = s.pending := 
  by simp [State.eccBad]

@[simp] theorem State.overwrite_clk (a n : Nat) : (s.overwrite a n).clk = s.clk := by
  unfold State.overwrite; dsimp only; exact forAll_keeps State.clk _ (fun c s => by simp) _ _
@[simp] theorem State.overwrite_dev (a n : Nat) : (s.overwrite a n).dev = s.dev := by
  unfold State.overwrite; dsimp only; exact forAll_keeps State.dev _ (fun c s => by simp) _ _
@[simp] theorem State.overwrite_run (a n : Nat) : (s.overwrite a n).run = s.run := by
  unfold State.overwrite; dsimp only; exact forAll_keeps State.run _ (fun c s => by simp) _ _
@[simp] theorem State.overwrite_hosts (a n : Nat) : (s.overwrite a n).hosts = s.hosts := by
  unfold State.overwrite; dsimp only; exact forAll_keeps State.hosts _ (fun c s => by simp) _ _
@[simp] theorem State.overwrite_cmds (a n : Nat) : (s.overwrite a n).cmds = s.cmds := by
  unfold State.overwrite; dsimp only; exact forAll_keeps State.cmds _ (fun c s => by simp) _ _
@[simp] theorem State.overwrite_jnl (a n : Nat) : (s.overwrite a n).jnl = s.jnl := by
  unfold State.overwrite; dsimp only; exact forAll_keeps State.jnl _ (fun c s => by simp) _ _
@[simp] theorem State.overwrite_keep (a n : Nat) : (s.overwrite a n).keep = s.keep := by
  unfold State.overwrite; dsimp only; exact forAll_keeps State.keep _ (fun c s => by simp) _ _
@[simp] theorem State.overwrite_ports (a n : Nat) : (s.overwrite a n).ports = s.ports := by
  unfold State.overwrite; dsimp only; exact forAll_keeps State.ports _ (fun c s => by simp) _ _
@[simp] theorem State.overwrite_objs (a n : Nat) : (s.overwrite a n).objs = s.objs := by
  unfold State.overwrite; dsimp only; exact forAll_keeps State.objs _ (fun c s => by simp) _ _
@[simp] theorem State.overwrite_pool (a n : Nat) : (s.overwrite a n).pool = s.pool := by
  unfold State.overwrite; dsimp only; exact forAll_keeps State.pool _ (fun c s => by simp) _ _
@[simp] theorem State.overwrite_flt (a n : Nat) : (s.overwrite a n).flt = s.flt := by
  unfold State.overwrite; dsimp only; exact forAll_keeps State.flt _ (fun c s => by simp) _ _
@[simp] theorem State.overwrite_routes (a n : Nat) : (s.overwrite a n).routes = s.routes := by
  unfold State.overwrite; dsimp only; exact forAll_keeps State.routes _ (fun c s => by simp) _ _
@[simp] theorem State.overwrite_pairs (a n : Nat) : (s.overwrite a n).pairs = s.pairs := by
  unfold State.overwrite; dsimp only; exact forAll_keeps State.pairs _ (fun c s => by simp) _ _
@[simp] theorem State.overwrite_copiesPrev (a n : Nat) : (s.overwrite a n).copiesPrev = s.copiesPrev := by
  unfold State.overwrite; dsimp only; exact forAll_keeps State.copiesPrev _ (fun c s => by simp) _ _
@[simp] theorem State.overwrite_copyNext (a n : Nat) : (s.overwrite a n).copyNext = s.copyNext := by
  unfold State.overwrite; dsimp only; exact forAll_keeps State.copyNext _ (fun c s => by simp) _ _
@[simp] theorem State.overwrite_dense (a n : Nat) : (s.overwrite a n).dense = s.dense := by
  unfold State.overwrite; dsimp only; exact forAll_keeps State.dense _ (fun c s => by simp) _ _
@[simp] theorem State.overwrite_dlv (a n : Nat) : (s.overwrite a n).dlv = s.dlv := by
  unfold State.overwrite; dsimp only; exact forAll_keeps State.dlv _ (fun c s => by simp) _ _
@[simp] theorem State.overwrite_trk (a n : Nat) : (s.overwrite a n).trk = s.trk := by
  unfold State.overwrite; dsimp only; exact forAll_keeps State.trk _ (fun c s => by simp) _ _
@[simp] theorem State.overwrite_trk2 (a n : Nat) : (s.overwrite a n).trk2 = s.trk2 := by
  unfold State.overwrite; dsimp only; exact forAll_keeps State.trk2 _ (fun c s => by simp) _ _
@[simp] theorem State.overwrite_fw (a n : Nat) : (s.overwrite a n).fw = s.fw := by
  unfold State.overwrite; dsimp only; exact forAll_keeps State.fw _ (fun c s => by simp) _ _
@[simp] theorem State.overwrite_engines (a n : Nat) : (s.overwrite a n).engines = s.engines := by
  unfold State.overwrite; dsimp only; exact forAll_keeps State.engines _ (fun c s => by simp) _ _
@[simp] theorem State.overwrite_canvas (a n : Nat) : (s.overwrite a n).canvas = s.canvas := by
  unfold State.overwrite; dsimp only; exact forAll_keeps State.canvas _ (fun c s => by simp) _ _
@[simp] theorem State.overwrite_twd (a n : Nat) : (s.overwrite a n).twd = s.twd := by
  unfold State.overwrite; dsimp only; exact forAll_keeps State.twd _ (fun c s => by simp) _ _
@[simp] theorem State.overwrite_pwr (a n : Nat) : (s.overwrite a n).pwr = s.pwr := by
  unfold State.overwrite; dsimp only; exact forAll_keeps State.pwr _ (fun c s => by simp) _ _
@[simp] theorem State.overwrite_pwr2 (a n : Nat) : (s.overwrite a n).pwr2 = s.pwr2 := by
  unfold State.overwrite; dsimp only; exact forAll_keeps State.pwr2 _ (fun c s => by simp) _ _
@[simp] theorem State.overwrite_link (a n : Nat) : (s.overwrite a n).link = s.link := by
  unfold State.overwrite; dsimp only; exact forAll_keeps State.link _ (fun c s => by simp) _ _
@[simp] theorem State.overwrite_fld (a n : Nat) : (s.overwrite a n).fld = s.fld := by
  unfold State.overwrite; dsimp only; exact forAll_keeps State.fld _ (fun c s => by simp) _ _
@[simp] theorem State.overwrite_mgt (a n : Nat) : (s.overwrite a n).mgt = s.mgt := by
  unfold State.overwrite; dsimp only; exact forAll_keeps State.mgt _ (fun c s => by simp) _ _
@[simp] theorem State.overwrite_out (a n : Nat) : (s.overwrite a n).out = s.out := by
  unfold State.overwrite; dsimp only; exact forAll_keeps State.out _ (fun c s => by simp) _ _
@[simp] theorem State.overwrite_pending (a n : Nat) : (s.overwrite a n).pending = s.pending := by
  unfold State.overwrite; dsimp only; exact forAll_keeps State.pending _ (fun c s => by simp) _ _

@[simp] theorem State.poolReport_clk (a n : Nat) : (s.poolReport a n).clk = s.clk := 
  by unfold State.poolReport; split <;> simp
@[simp] theorem State.poolReport_dev (a n : Nat) : (s.poolReport a n).dev = s.dev := 
  by unfold State.poolReport; split <;> simp
@[simp] theorem State.poolReport_run (a n : Nat) : (s.poolReport a n).run = s.run := 
  by unfold State.poolReport; split <;> simp
@[simp] theorem State.poolReport_hosts (a n : Nat) : (s.poolReport a n).hosts = s.hosts := 
  by unfold State.poolReport; split <;> simp
@[simp] theorem State.poolReport_cmds (a n : Nat) : (s.poolReport a n).cmds = s.cmds := 
  by unfold State.poolReport; split <;> simp
@[simp] theorem State.poolReport_jnl (a n : Nat) : (s.poolReport a n).jnl = s.jnl := 
  by unfold State.poolReport; split <;> simp
@[simp] theorem State.poolReport_keep (a n : Nat) : (s.poolReport a n).keep = s.keep := 
  by unfold State.poolReport; split <;> simp
@[simp] theorem State.poolReport_ports (a n : Nat) : (s.poolReport a n).ports = s.ports := 
  by unfold State.poolReport; split <;> simp
@[simp] theorem State.poolReport_objs (a n : Nat) : (s.poolReport a n).objs = s.objs := 
  by unfold State.poolReport; split <;> simp
@[simp] theorem State.poolReport_pool (a n : Nat) : (s.poolReport a n).pool = s.pool := 
  by unfold State.poolReport; split <;> simp
@[simp] theorem State.poolReport_flt (a n : Nat) : (s.poolReport a n).flt = s.flt := 
  by unfold State.poolReport; split <;> simp
@[simp] theorem State.poolReport_routes (a n : Nat) : (s.poolReport a n).routes = s.routes := 
  by unfold State.poolReport; split <;> simp
@[simp] theorem State.poolReport_pairs (a n : Nat) : (s.poolReport a n).pairs = s.pairs := 
  by unfold State.poolReport; split <;> simp
@[simp] theorem State.poolReport_copiesPrev (a n : Nat) : (s.poolReport a n).copiesPrev = s.copiesPrev := 
  by unfold State.poolReport; split <;> simp
@[simp] theorem State.poolReport_copyNext (a n : Nat) : (s.poolReport a n).copyNext = s.copyNext := 
  by unfold State.poolReport; split <;> simp
@[simp] theorem State.poolReport_dense (a n : Nat) : (s.poolReport a n).dense = s.dense := 
  by unfold State.poolReport; split <;> simp
@[simp] theorem State.poolReport_dlv (a n : Nat) : (s.poolReport a n).dlv = s.dlv := 
  by unfold State.poolReport; split <;> simp
@[simp] theorem State.poolReport_trk (a n : Nat) : (s.poolReport a n).trk = s.trk := 
  by unfold State.poolReport; split <;> simp
@[simp] theorem State.poolReport_trk2 (a n : Nat) : (s.poolReport a n).trk2 = s.trk2 := 
  by unfold State.poolReport; split <;> simp
@[simp] theorem State.poolReport_fw (a n : Nat) : (s.poolReport a n).fw = s.fw := 
  by unfold State.poolReport; split <;> simp
@[simp] theorem State.poolReport_engines (a n : Nat) : (s.poolReport a n).engines = s.engines := 
  by unfold State.poolReport; split <;> simp
@[simp] theorem State.poolReport_canvas (a n : Nat) : (s.poolReport a n).canvas = s.canvas := 
  by unfold State.poolReport; split <;> simp
@[simp] theorem State.poolReport_twd (a n : Nat) : (s.poolReport a n).twd = s.twd := 
  by unfold State.poolReport; split <;> simp
@[simp] theorem State.poolReport_pwr (a n : Nat) : (s.poolReport a n).pwr = s.pwr := 
  by unfold State.poolReport; split <;> simp
@[simp] theorem State.poolReport_pwr2 (a n : Nat) : (s.poolReport a n).pwr2 = s.pwr2 := 
  by unfold State.poolReport; split <;> simp
@[simp] theorem State.poolReport_link (a n : Nat) : (s.poolReport a n).link = s.link := 
  by unfold State.poolReport; split <;> simp
@[simp] theorem State.poolReport_fld (a n : Nat) : (s.poolReport a n).fld = s.fld := 
  by unfold State.poolReport; split <;> simp
@[simp] theorem State.poolReport_mgt (a n : Nat) : (s.poolReport a n).mgt = s.mgt := 
  by unfold State.poolReport; split <;> simp
@[simp] theorem State.poolReport_out (a n : Nat) : (s.poolReport a n).out = s.out := 
  by unfold State.poolReport; split <;> simp
@[simp] theorem State.poolReport_pending (a n : Nat) : (s.poolReport a n).pending = s.pending := 
  by unfold State.poolReport; split <;> simp

@[simp] theorem State.unmark_clk (g : Nat) : (s.unmark g).clk = s.clk := by unfold State.unmark; split <;> rfl
@[simp] theorem State.unmark_dev (g : Nat) : (s.unmark g).dev = s.dev := by unfold State.unmark; split <;> rfl
@[simp] theorem State.unmark_run (g : Nat) : (s.unmark g).run = s.run := by unfold State.unmark; split <;> rfl
@[simp] theorem State.unmark_irq (g : Nat) : (s.unmark g).irq = s.irq := by unfold State.unmark; split <;> rfl
@[simp] theorem State.unmark_hosts (g : Nat) : (s.unmark g).hosts = s.hosts := by unfold State.unmark; split <;> rfl
@[simp] theorem State.unmark_cmds (g : Nat) : (s.unmark g).cmds = s.cmds := by unfold State.unmark; split <;> rfl
@[simp] theorem State.unmark_jnl (g : Nat) : (s.unmark g).jnl = s.jnl := by unfold State.unmark; split <;> rfl
@[simp] theorem State.unmark_rcd (g : Nat) : (s.unmark g).rcd = s.rcd := by unfold State.unmark; split <;> rfl
@[simp] theorem State.unmark_keep (g : Nat) : (s.unmark g).keep = s.keep := by unfold State.unmark; split <;> rfl
@[simp] theorem State.unmark_ports (g : Nat) : (s.unmark g).ports = s.ports := by unfold State.unmark; split <;> rfl
@[simp] theorem State.unmark_objs (g : Nat) : (s.unmark g).objs = s.objs := by unfold State.unmark; split <;> rfl
@[simp] theorem State.unmark_flt (g : Nat) : (s.unmark g).flt = s.flt := by unfold State.unmark; split <;> rfl
@[simp] theorem State.unmark_routes (g : Nat) : (s.unmark g).routes = s.routes := 
  by unfold State.unmark; split <;> rfl
@[simp] theorem State.unmark_pairs (g : Nat) : (s.unmark g).pairs = s.pairs := by unfold State.unmark; split <;> rfl
@[simp] theorem State.unmark_copiesPrev (g : Nat) : (s.unmark g).copiesPrev = s.copiesPrev := 
  by unfold State.unmark; split <;> rfl
@[simp] theorem State.unmark_copyNext (g : Nat) : (s.unmark g).copyNext = s.copyNext := 
  by unfold State.unmark; split <;> rfl
@[simp] theorem State.unmark_dense (g : Nat) : (s.unmark g).dense = s.dense := by unfold State.unmark; split <;> rfl
@[simp] theorem State.unmark_dlv (g : Nat) : (s.unmark g).dlv = s.dlv := by unfold State.unmark; split <;> rfl
@[simp] theorem State.unmark_trk (g : Nat) : (s.unmark g).trk = s.trk := by unfold State.unmark; split <;> rfl
@[simp] theorem State.unmark_trk2 (g : Nat) : (s.unmark g).trk2 = s.trk2 := by unfold State.unmark; split <;> rfl
@[simp] theorem State.unmark_fw (g : Nat) : (s.unmark g).fw = s.fw := by unfold State.unmark; split <;> rfl
@[simp] theorem State.unmark_engines (g : Nat) : (s.unmark g).engines = s.engines := 
  by unfold State.unmark; split <;> rfl
@[simp] theorem State.unmark_canvas (g : Nat) : (s.unmark g).canvas = s.canvas := 
  by unfold State.unmark; split <;> rfl
@[simp] theorem State.unmark_twd (g : Nat) : (s.unmark g).twd = s.twd := by unfold State.unmark; split <;> rfl
@[simp] theorem State.unmark_pwr (g : Nat) : (s.unmark g).pwr = s.pwr := by unfold State.unmark; split <;> rfl
@[simp] theorem State.unmark_pwr2 (g : Nat) : (s.unmark g).pwr2 = s.pwr2 := by unfold State.unmark; split <;> rfl
@[simp] theorem State.unmark_link (g : Nat) : (s.unmark g).link = s.link := by unfold State.unmark; split <;> rfl
@[simp] theorem State.unmark_fld (g : Nat) : (s.unmark g).fld = s.fld := by unfold State.unmark; split <;> rfl
@[simp] theorem State.unmark_mgt (g : Nat) : (s.unmark g).mgt = s.mgt := by unfold State.unmark; split <;> rfl
@[simp] theorem State.unmark_kept (g : Nat) : (s.unmark g).kept = s.kept := by unfold State.unmark; split <;> rfl
@[simp] theorem State.unmark_out (g : Nat) : (s.unmark g).out = s.out := by unfold State.unmark; split <;> rfl
@[simp] theorem State.unmark_pending (g : Nat) : (s.unmark g).pending = s.pending := 
  by unfold State.unmark; split <;> rfl

@[simp] theorem State.poolPut_clk (ws : List (Nat × Byte)) : (s.poolPut ws).clk = s.clk := by
  unfold State.poolPut; dsimp only
  rw [forAll_keeps State.clk (fun c s => s.eccBad 0 c) (fun c s => by simp)]
  exact forAll_keeps State.clk _ (fun w s => by simp) _ _
@[simp] theorem State.poolPut_dev (ws : List (Nat × Byte)) : (s.poolPut ws).dev = s.dev := by
  unfold State.poolPut; dsimp only
  rw [forAll_keeps State.dev (fun c s => s.eccBad 0 c) (fun c s => by simp)]
  exact forAll_keeps State.dev _ (fun w s => by simp) _ _
@[simp] theorem State.poolPut_run (ws : List (Nat × Byte)) : (s.poolPut ws).run = s.run := by
  unfold State.poolPut; dsimp only
  rw [forAll_keeps State.run (fun c s => s.eccBad 0 c) (fun c s => by simp)]
  exact forAll_keeps State.run _ (fun w s => by simp) _ _
@[simp] theorem State.poolPut_hosts (ws : List (Nat × Byte)) : (s.poolPut ws).hosts = s.hosts := by
  unfold State.poolPut; dsimp only
  rw [forAll_keeps State.hosts (fun c s => s.eccBad 0 c) (fun c s => by simp)]
  exact forAll_keeps State.hosts _ (fun w s => by simp) _ _
@[simp] theorem State.poolPut_cmds (ws : List (Nat × Byte)) : (s.poolPut ws).cmds = s.cmds := by
  unfold State.poolPut; dsimp only
  rw [forAll_keeps State.cmds (fun c s => s.eccBad 0 c) (fun c s => by simp)]
  exact forAll_keeps State.cmds _ (fun w s => by simp) _ _
@[simp] theorem State.poolPut_jnl (ws : List (Nat × Byte)) : (s.poolPut ws).jnl = s.jnl := by
  unfold State.poolPut; dsimp only
  rw [forAll_keeps State.jnl (fun c s => s.eccBad 0 c) (fun c s => by simp)]
  exact forAll_keeps State.jnl _ (fun w s => by simp) _ _
@[simp] theorem State.poolPut_keep (ws : List (Nat × Byte)) : (s.poolPut ws).keep = s.keep := by
  unfold State.poolPut; dsimp only
  rw [forAll_keeps State.keep (fun c s => s.eccBad 0 c) (fun c s => by simp)]
  exact forAll_keeps State.keep _ (fun w s => by simp) _ _
@[simp] theorem State.poolPut_ports (ws : List (Nat × Byte)) : (s.poolPut ws).ports = s.ports := by
  unfold State.poolPut; dsimp only
  rw [forAll_keeps State.ports (fun c s => s.eccBad 0 c) (fun c s => by simp)]
  exact forAll_keeps State.ports _ (fun w s => by simp) _ _
@[simp] theorem State.poolPut_objs (ws : List (Nat × Byte)) : (s.poolPut ws).objs = s.objs := by
  unfold State.poolPut; dsimp only
  rw [forAll_keeps State.objs (fun c s => s.eccBad 0 c) (fun c s => by simp)]
  exact forAll_keeps State.objs _ (fun w s => by simp) _ _
@[simp] theorem State.poolPut_flt (ws : List (Nat × Byte)) : (s.poolPut ws).flt = s.flt := by
  unfold State.poolPut; dsimp only
  rw [forAll_keeps State.flt (fun c s => s.eccBad 0 c) (fun c s => by simp)]
  exact forAll_keeps State.flt _ (fun w s => by simp) _ _
@[simp] theorem State.poolPut_routes (ws : List (Nat × Byte)) : (s.poolPut ws).routes = s.routes := by
  unfold State.poolPut; dsimp only
  rw [forAll_keeps State.routes (fun c s => s.eccBad 0 c) (fun c s => by simp)]
  exact forAll_keeps State.routes _ (fun w s => by simp) _ _
@[simp] theorem State.poolPut_pairs (ws : List (Nat × Byte)) : (s.poolPut ws).pairs = s.pairs := by
  unfold State.poolPut; dsimp only
  rw [forAll_keeps State.pairs (fun c s => s.eccBad 0 c) (fun c s => by simp)]
  exact forAll_keeps State.pairs _ (fun w s => by simp) _ _
@[simp] theorem State.poolPut_copiesPrev (ws : List (Nat × Byte)) : (s.poolPut ws).copiesPrev = s.copiesPrev := by
  unfold State.poolPut; dsimp only
  rw [forAll_keeps State.copiesPrev (fun c s => s.eccBad 0 c) (fun c s => by simp)]
  exact forAll_keeps State.copiesPrev _ (fun w s => by simp) _ _
@[simp] theorem State.poolPut_copyNext (ws : List (Nat × Byte)) : (s.poolPut ws).copyNext = s.copyNext := by
  unfold State.poolPut; dsimp only
  rw [forAll_keeps State.copyNext (fun c s => s.eccBad 0 c) (fun c s => by simp)]
  exact forAll_keeps State.copyNext _ (fun w s => by simp) _ _
@[simp] theorem State.poolPut_dense (ws : List (Nat × Byte)) : (s.poolPut ws).dense = s.dense := by
  unfold State.poolPut; dsimp only
  rw [forAll_keeps State.dense (fun c s => s.eccBad 0 c) (fun c s => by simp)]
  exact forAll_keeps State.dense _ (fun w s => by simp) _ _
@[simp] theorem State.poolPut_dlv (ws : List (Nat × Byte)) : (s.poolPut ws).dlv = s.dlv := by
  unfold State.poolPut; dsimp only
  rw [forAll_keeps State.dlv (fun c s => s.eccBad 0 c) (fun c s => by simp)]
  exact forAll_keeps State.dlv _ (fun w s => by simp) _ _
@[simp] theorem State.poolPut_trk (ws : List (Nat × Byte)) : (s.poolPut ws).trk = s.trk := by
  unfold State.poolPut; dsimp only
  rw [forAll_keeps State.trk (fun c s => s.eccBad 0 c) (fun c s => by simp)]
  exact forAll_keeps State.trk _ (fun w s => by simp) _ _
@[simp] theorem State.poolPut_trk2 (ws : List (Nat × Byte)) : (s.poolPut ws).trk2 = s.trk2 := by
  unfold State.poolPut; dsimp only
  rw [forAll_keeps State.trk2 (fun c s => s.eccBad 0 c) (fun c s => by simp)]
  exact forAll_keeps State.trk2 _ (fun w s => by simp) _ _
@[simp] theorem State.poolPut_fw (ws : List (Nat × Byte)) : (s.poolPut ws).fw = s.fw := by
  unfold State.poolPut; dsimp only
  rw [forAll_keeps State.fw (fun c s => s.eccBad 0 c) (fun c s => by simp)]
  exact forAll_keeps State.fw _ (fun w s => by simp) _ _
@[simp] theorem State.poolPut_engines (ws : List (Nat × Byte)) : (s.poolPut ws).engines = s.engines := by
  unfold State.poolPut; dsimp only
  rw [forAll_keeps State.engines (fun c s => s.eccBad 0 c) (fun c s => by simp)]
  exact forAll_keeps State.engines _ (fun w s => by simp) _ _
@[simp] theorem State.poolPut_canvas (ws : List (Nat × Byte)) : (s.poolPut ws).canvas = s.canvas := by
  unfold State.poolPut; dsimp only
  rw [forAll_keeps State.canvas (fun c s => s.eccBad 0 c) (fun c s => by simp)]
  exact forAll_keeps State.canvas _ (fun w s => by simp) _ _
@[simp] theorem State.poolPut_twd (ws : List (Nat × Byte)) : (s.poolPut ws).twd = s.twd := by
  unfold State.poolPut; dsimp only
  rw [forAll_keeps State.twd (fun c s => s.eccBad 0 c) (fun c s => by simp)]
  exact forAll_keeps State.twd _ (fun w s => by simp) _ _
@[simp] theorem State.poolPut_pwr (ws : List (Nat × Byte)) : (s.poolPut ws).pwr = s.pwr := by
  unfold State.poolPut; dsimp only
  rw [forAll_keeps State.pwr (fun c s => s.eccBad 0 c) (fun c s => by simp)]
  exact forAll_keeps State.pwr _ (fun w s => by simp) _ _
@[simp] theorem State.poolPut_pwr2 (ws : List (Nat × Byte)) : (s.poolPut ws).pwr2 = s.pwr2 := by
  unfold State.poolPut; dsimp only
  rw [forAll_keeps State.pwr2 (fun c s => s.eccBad 0 c) (fun c s => by simp)]
  exact forAll_keeps State.pwr2 _ (fun w s => by simp) _ _
@[simp] theorem State.poolPut_link (ws : List (Nat × Byte)) : (s.poolPut ws).link = s.link := by
  unfold State.poolPut; dsimp only
  rw [forAll_keeps State.link (fun c s => s.eccBad 0 c) (fun c s => by simp)]
  exact forAll_keeps State.link _ (fun w s => by simp) _ _
@[simp] theorem State.poolPut_fld (ws : List (Nat × Byte)) : (s.poolPut ws).fld = s.fld := by
  unfold State.poolPut; dsimp only
  rw [forAll_keeps State.fld (fun c s => s.eccBad 0 c) (fun c s => by simp)]
  exact forAll_keeps State.fld _ (fun w s => by simp) _ _
@[simp] theorem State.poolPut_mgt (ws : List (Nat × Byte)) : (s.poolPut ws).mgt = s.mgt := by
  unfold State.poolPut; dsimp only
  rw [forAll_keeps State.mgt (fun c s => s.eccBad 0 c) (fun c s => by simp)]
  exact forAll_keeps State.mgt _ (fun w s => by simp) _ _
@[simp] theorem State.poolPut_out (ws : List (Nat × Byte)) : (s.poolPut ws).out = s.out := by
  unfold State.poolPut; dsimp only
  rw [forAll_keeps State.out (fun c s => s.eccBad 0 c) (fun c s => by simp)]
  exact forAll_keeps State.out _ (fun w s => by simp) _ _
@[simp] theorem State.poolPut_pending (ws : List (Nat × Byte)) : (s.poolPut ws).pending = s.pending := by
  unfold State.poolPut; dsimp only
  rw [forAll_keeps State.pending (fun c s => s.eccBad 0 c) (fun c s => by simp)]
  exact forAll_keeps State.pending _ (fun w s => by simp) _ _

@[simp] theorem State.refreshStby_clk : (s.refreshStby).clk = s.clk := rfl
@[simp] theorem State.refreshStby_dev : (s.refreshStby).dev = s.dev := rfl
@[simp] theorem State.refreshStby_irq : (s.refreshStby).irq = s.irq := rfl
@[simp] theorem State.refreshStby_hosts : (s.refreshStby).hosts = s.hosts := rfl
@[simp] theorem State.refreshStby_cmds : (s.refreshStby).cmds = s.cmds := rfl
@[simp] theorem State.refreshStby_jnl : (s.refreshStby).jnl = s.jnl := rfl
@[simp] theorem State.refreshStby_rcd : (s.refreshStby).rcd = s.rcd := rfl
@[simp] theorem State.refreshStby_keep : (s.refreshStby).keep = s.keep := rfl
@[simp] theorem State.refreshStby_ports : (s.refreshStby).ports = s.ports := rfl
@[simp] theorem State.refreshStby_objs : (s.refreshStby).objs = s.objs := rfl
@[simp] theorem State.refreshStby_pool : (s.refreshStby).pool = s.pool := rfl
@[simp] theorem State.refreshStby_mem : (s.refreshStby).mem = s.mem := rfl
@[simp] theorem State.refreshStby_flt : (s.refreshStby).flt = s.flt := rfl
@[simp] theorem State.refreshStby_routes : (s.refreshStby).routes = s.routes := rfl
@[simp] theorem State.refreshStby_pairs : (s.refreshStby).pairs = s.pairs := rfl
@[simp] theorem State.refreshStby_copiesPrev : (s.refreshStby).copiesPrev = s.copiesPrev := rfl
@[simp] theorem State.refreshStby_copyNext : (s.refreshStby).copyNext = s.copyNext := rfl
@[simp] theorem State.refreshStby_dense : (s.refreshStby).dense = s.dense := rfl
@[simp] theorem State.refreshStby_dlv : (s.refreshStby).dlv = s.dlv := rfl
@[simp] theorem State.refreshStby_trk : (s.refreshStby).trk = s.trk := rfl
@[simp] theorem State.refreshStby_trk2 : (s.refreshStby).trk2 = s.trk2 := rfl
@[simp] theorem State.refreshStby_fw : (s.refreshStby).fw = s.fw := rfl
@[simp] theorem State.refreshStby_engines : (s.refreshStby).engines = s.engines := rfl
@[simp] theorem State.refreshStby_canvas : (s.refreshStby).canvas = s.canvas := rfl
@[simp] theorem State.refreshStby_twd : (s.refreshStby).twd = s.twd := rfl
@[simp] theorem State.refreshStby_pwr : (s.refreshStby).pwr = s.pwr := rfl
@[simp] theorem State.refreshStby_pwr2 : (s.refreshStby).pwr2 = s.pwr2 := rfl
@[simp] theorem State.refreshStby_link : (s.refreshStby).link = s.link := rfl
@[simp] theorem State.refreshStby_fld : (s.refreshStby).fld = s.fld := rfl
@[simp] theorem State.refreshStby_mgt : (s.refreshStby).mgt = s.mgt := rfl
@[simp] theorem State.refreshStby_kept : (s.refreshStby).kept = s.kept := rfl
@[simp] theorem State.refreshStby_out : (s.refreshStby).out = s.out := rfl
@[simp] theorem State.refreshStby_pending : (s.refreshStby).pending = s.pending := rfl

@[simp] theorem State.addCause_clk (p c : Nat) : (s.addCause p c).clk = s.clk := rfl
@[simp] theorem State.addCause_dev (p c : Nat) : (s.addCause p c).dev = s.dev := rfl
@[simp] theorem State.addCause_run (p c : Nat) : (s.addCause p c).run = s.run := rfl
@[simp] theorem State.addCause_irq (p c : Nat) : (s.addCause p c).irq = s.irq := rfl
@[simp] theorem State.addCause_hosts (p c : Nat) : (s.addCause p c).hosts = s.hosts := rfl
@[simp] theorem State.addCause_cmds (p c : Nat) : (s.addCause p c).cmds = s.cmds := rfl
@[simp] theorem State.addCause_jnl (p c : Nat) : (s.addCause p c).jnl = s.jnl := rfl
@[simp] theorem State.addCause_rcd (p c : Nat) : (s.addCause p c).rcd = s.rcd := rfl
@[simp] theorem State.addCause_keep (p c : Nat) : (s.addCause p c).keep = s.keep := rfl
@[simp] theorem State.addCause_objs (p c : Nat) : (s.addCause p c).objs = s.objs := rfl
@[simp] theorem State.addCause_pool (p c : Nat) : (s.addCause p c).pool = s.pool := rfl
@[simp] theorem State.addCause_mem (p c : Nat) : (s.addCause p c).mem = s.mem := rfl
@[simp] theorem State.addCause_flt (p c : Nat) : (s.addCause p c).flt = s.flt := rfl
@[simp] theorem State.addCause_routes (p c : Nat) : (s.addCause p c).routes = s.routes := rfl
@[simp] theorem State.addCause_pairs (p c : Nat) : (s.addCause p c).pairs = s.pairs := rfl
@[simp] theorem State.addCause_copiesPrev (p c : Nat) : (s.addCause p c).copiesPrev = s.copiesPrev := rfl
@[simp] theorem State.addCause_copyNext (p c : Nat) : (s.addCause p c).copyNext = s.copyNext := rfl
@[simp] theorem State.addCause_dense (p c : Nat) : (s.addCause p c).dense = s.dense := rfl
@[simp] theorem State.addCause_dlv (p c : Nat) : (s.addCause p c).dlv = s.dlv := rfl
@[simp] theorem State.addCause_trk (p c : Nat) : (s.addCause p c).trk = s.trk := rfl
@[simp] theorem State.addCause_trk2 (p c : Nat) : (s.addCause p c).trk2 = s.trk2 := rfl
@[simp] theorem State.addCause_fw (p c : Nat) : (s.addCause p c).fw = s.fw := rfl
@[simp] theorem State.addCause_engines (p c : Nat) : (s.addCause p c).engines = s.engines := rfl
@[simp] theorem State.addCause_canvas (p c : Nat) : (s.addCause p c).canvas = s.canvas := rfl
@[simp] theorem State.addCause_twd (p c : Nat) : (s.addCause p c).twd = s.twd := rfl
@[simp] theorem State.addCause_pwr (p c : Nat) : (s.addCause p c).pwr = s.pwr := rfl
@[simp] theorem State.addCause_pwr2 (p c : Nat) : (s.addCause p c).pwr2 = s.pwr2 := rfl
@[simp] theorem State.addCause_link (p c : Nat) : (s.addCause p c).link = s.link := rfl
@[simp] theorem State.addCause_fld (p c : Nat) : (s.addCause p c).fld = s.fld := rfl
@[simp] theorem State.addCause_mgt (p c : Nat) : (s.addCause p c).mgt = s.mgt := rfl
@[simp] theorem State.addCause_kept (p c : Nat) : (s.addCause p c).kept = s.kept := rfl
@[simp] theorem State.addCause_out (p c : Nat) : (s.addCause p c).out = s.out := rfl
@[simp] theorem State.addCause_pending (p c : Nat) : (s.addCause p c).pending = s.pending := rfl

@[simp] theorem State.dropCause_clk (p c : Nat) : (s.dropCause p c).clk = s.clk := rfl
@[simp] theorem State.dropCause_dev (p c : Nat) : (s.dropCause p c).dev = s.dev := rfl
@[simp] theorem State.dropCause_run (p c : Nat) : (s.dropCause p c).run = s.run := rfl
@[simp] theorem State.dropCause_irq (p c : Nat) : (s.dropCause p c).irq = s.irq := rfl
@[simp] theorem State.dropCause_hosts (p c : Nat) : (s.dropCause p c).hosts = s.hosts := rfl
@[simp] theorem State.dropCause_cmds (p c : Nat) : (s.dropCause p c).cmds = s.cmds := rfl
@[simp] theorem State.dropCause_jnl (p c : Nat) : (s.dropCause p c).jnl = s.jnl := rfl
@[simp] theorem State.dropCause_rcd (p c : Nat) : (s.dropCause p c).rcd = s.rcd := rfl
@[simp] theorem State.dropCause_keep (p c : Nat) : (s.dropCause p c).keep = s.keep := rfl
@[simp] theorem State.dropCause_objs (p c : Nat) : (s.dropCause p c).objs = s.objs := rfl
@[simp] theorem State.dropCause_pool (p c : Nat) : (s.dropCause p c).pool = s.pool := rfl
@[simp] theorem State.dropCause_mem (p c : Nat) : (s.dropCause p c).mem = s.mem := rfl
@[simp] theorem State.dropCause_flt (p c : Nat) : (s.dropCause p c).flt = s.flt := rfl
@[simp] theorem State.dropCause_routes (p c : Nat) : (s.dropCause p c).routes = s.routes := rfl
@[simp] theorem State.dropCause_pairs (p c : Nat) : (s.dropCause p c).pairs = s.pairs := rfl
@[simp] theorem State.dropCause_copiesPrev (p c : Nat) : (s.dropCause p c).copiesPrev = s.copiesPrev := rfl
@[simp] theorem State.dropCause_copyNext (p c : Nat) : (s.dropCause p c).copyNext = s.copyNext := rfl
@[simp] theorem State.dropCause_dense (p c : Nat) : (s.dropCause p c).dense = s.dense := rfl
@[simp] theorem State.dropCause_dlv (p c : Nat) : (s.dropCause p c).dlv = s.dlv := rfl
@[simp] theorem State.dropCause_trk (p c : Nat) : (s.dropCause p c).trk = s.trk := rfl
@[simp] theorem State.dropCause_trk2 (p c : Nat) : (s.dropCause p c).trk2 = s.trk2 := rfl
@[simp] theorem State.dropCause_fw (p c : Nat) : (s.dropCause p c).fw = s.fw := rfl
@[simp] theorem State.dropCause_engines (p c : Nat) : (s.dropCause p c).engines = s.engines := rfl
@[simp] theorem State.dropCause_canvas (p c : Nat) : (s.dropCause p c).canvas = s.canvas := rfl
@[simp] theorem State.dropCause_twd (p c : Nat) : (s.dropCause p c).twd = s.twd := rfl
@[simp] theorem State.dropCause_pwr (p c : Nat) : (s.dropCause p c).pwr = s.pwr := rfl
@[simp] theorem State.dropCause_pwr2 (p c : Nat) : (s.dropCause p c).pwr2 = s.pwr2 := rfl
@[simp] theorem State.dropCause_link (p c : Nat) : (s.dropCause p c).link = s.link := rfl
@[simp] theorem State.dropCause_fld (p c : Nat) : (s.dropCause p c).fld = s.fld := rfl
@[simp] theorem State.dropCause_mgt (p c : Nat) : (s.dropCause p c).mgt = s.mgt := rfl
@[simp] theorem State.dropCause_kept (p c : Nat) : (s.dropCause p c).kept = s.kept := rfl
@[simp] theorem State.dropCause_out (p c : Nat) : (s.dropCause p c).out = s.out := rfl
@[simp] theorem State.dropCause_pending (p c : Nat) : (s.dropCause p c).pending = s.pending := rfl

/-- A source that can be raised becomes pending outside SLEEP (14 R314). -/
theorem State.raise_pend (n : Nat) (hn : neverRaised n = false) (hm : s.dev.mode ≠ .sleep) :
    (s.raise n).irq.pend.getLsbD n = true := by
  have h256 : n < 256 := by
    unfold neverRaised at hn
    simp at hn
    omega
  have keep : ∀ (x : State) (b : Option Nat), (x.markSeen n b).irq.pend = x.irq.pend := fun x b =>
    forAll_keeps (fun s => s.irq.pend) _ (fun t s => by split <;> rfl) _ _
  have e : s.raise n = s.setPend n none := by simp [State.raise, hn, hm]
  rw [e]
  by_cases hp : s.irq.pend.getLsbD n
  · simp only [State.setPend, hp, if_true]
  · simp only [State.setPend, hp, Bool.false_eq_true, if_false, keep]
    simp only [BitVec.getLsbD_or, srcBit, BitVec.getLsbD_ofNat, h256, Nat.testBit_two_pow_self]
    simp

end Sys2Proof.Machine
end

