-- ==== Sys2Proof/Laws/Access.lean ====
section
/-! SUPPORT. Reading a port, a host, an object and the like after each shared operation. -/

namespace Sys2Proof.Machine

variable (s : State)

@[simp] theorem State.port_modHost (h : HostId) (f : Hst → Hst) (q : Nat) : (s.modHost h f).port q = s.port q := by simp [State.port]
@[simp] theorem State.port_flagGrd (m : Word) (q : Nat) : (s.flagGrd m).port q = s.port q := by simp [State.port]
@[simp] theorem State.port_flagPwr (m : Word) (q : Nat) : (s.flagPwr m).port q = s.port q := by simp [State.port]
@[simp] theorem State.port_flagMgt (m : Word) (q : Nat) : (s.flagMgt m).port q = s.port q := by simp [State.port]
@[simp] theorem State.port_setObj (o : Nat) (v : Obj) (q : Nat) : (s.setObj o v).port q = s.port q := by simp [State.port]
@[simp] theorem State.port_modObj (o : Nat) (f : Obj → Obj) (q : Nat) : (s.modObj o f).port q = s.port q := by simp [State.port]
@[simp] theorem State.port_modTarget (t : Nat) (f : IrqTarget → IrqTarget) (q : Nat) : (s.modTarget t f).port q = s.port q := by simp [State.port]
@[simp] theorem State.port_emit (o : Out) (q : Nat) : (s.emit o).port q = s.port q := by simp [State.port]
@[simp] theorem State.port_modEngine (e : Nat) (f : Engine → Engine) (q : Nat) : (s.modEngine e f).port q = s.port q := by simp [State.port]
@[simp] theorem State.port_modPart (p : Nat) (f : Part → Part) (q : Nat) : (s.modPart p f).port q = s.port q := by simp [State.port]
@[simp] theorem State.port_modStream (st : Stream) (f : StreamState → StreamState) (q : Nat) : (s.modStream st f).port q = s.port q := by simp [State.port]
@[simp] theorem State.port_modOut (o : Nat) (g : DoS → DoS) (q : Nat) : (s.modOut o g).port q = s.port q := by simp [State.port]
@[simp] theorem State.port_markSeen (n : Nat) (b : Option Nat) (q : Nat) : (s.markSeen n b).port q = s.port q := by simp [State.port]
@[simp] theorem State.port_setPend (n : Nat) (b : Option Nat) (q : Nat) : (s.setPend n b).port q = s.port q := by simp [State.port]
@[simp] theorem State.port_raise (n : Nat) (q : Nat) : (s.raise n).port q = s.port q := by simp [State.port]
@[simp] theorem State.port_sendMsix (h : HostId) (v : Nat) (q : Nat) : (s.sendMsix h v).port q = s.port q := by simp [State.port]
@[simp] theorem State.port_signal (t p : Nat) (q : Nat) : (s.signal t p).port q = s.port q := by simp [State.port]
@[simp] theorem State.port_presentTo (t : Nat) (q : Nat) : (s.presentTo t).port q = s.port q := by simp [State.port]
@[simp] theorem State.port_present (q : Nat) : (s.present).port q = s.port q := by simp [State.port]
@[simp] theorem State.port_portEvent (p : Nat) (q : Nat) : (s.portEvent p).port q = s.port q := by simp [State.port]
@[simp] theorem State.port_portTraffic (p : Nat) (q : Nat) : (s.portTraffic p).port q = s.port q := by simp [State.port]
@[simp] theorem State.port_event (code source sev d0 d1 : Nat) (q : Nat) : (s.event code source sev d0 d1).port q = s.port q := by simp [State.port]
@[simp] theorem State.port_violation (h : HostId) (cause bar offset : Nat) (q : Nat) : (s.violation h cause bar offset).port q = s.port q := by simp [State.port]
@[simp] theorem State.port_setPreg (i : Nat) (v : Word) (o : Option HostId) (q : Nat) : (s.setPreg i v o).port q = s.port q := by simp [State.port]
@[simp] theorem State.port_changeMode (m : Mode) (q : Nat) : (s.changeMode m).port q = s.port q := by simp [State.port]
@[simp] theorem State.port_powerRaise (n : Nat) (q : Nat) : (s.powerRaise n).port q = s.port q := by simp [State.port]
@[simp] theorem State.port_powerEvent (code source sev d0 d1 : Nat) (q : Nat) : (s.powerEvent code source sev d0 d1).port q = s.port q := by simp [State.port]
@[simp] theorem State.port_writeStateLine (q : Nat) : (s.writeStateLine).port q = s.port q := by simp [State.port]
@[simp] theorem State.port_clearCount (q : Nat) : (s.clearCount).port q = s.port q := by simp [State.port]
@[simp] theorem State.port_holdUnreported (n : Nat) (q : Nat) : (s.holdUnreported n).port q = s.port q := by simp [State.port]
@[simp] theorem State.port_hold (h : HostId) (w : HeldAccess) (q : Nat) : (s.hold h w).port q = s.port q := by simp [State.port]
@[simp] theorem State.port_eccBad (region addr : Nat) (q : Nat) : (s.eccBad region addr).port q = s.port q := by simp [State.port]
@[simp] theorem State.port_overwrite (a n : Nat) (q : Nat) : (s.overwrite a n).port q = s.port q := by simp [State.port]
@[simp] theorem State.port_poolReport (a n : Nat) (q : Nat) : (s.poolReport a n).port q = s.port q := by simp [State.port]
@[simp] theorem State.port_unmark (g : Nat) (q : Nat) : (s.unmark g).port q = s.port q := by simp [State.port]
@[simp] theorem State.port_poolPut (ws : List (Nat × Byte)) (q : Nat) : (s.poolPut ws).port q = s.port q := by simp [State.port]
@[simp] theorem State.port_refreshStby (q : Nat) : (s.refreshStby).port q = s.port q := by simp [State.port]

@[simp] theorem State.host_setPort (p : Nat) (v : PortS) (k : HostId) : (s.setPort p v).host k = s.host k := by simp [State.host]
@[simp] theorem State.host_modPort (p : Nat) (f : PortS → PortS) (k : HostId) : (s.modPort p f).host k = s.host k := by simp [State.host]
@[simp] theorem State.host_setRx (p : Nat) (r : Option RxFrame) (k : HostId) : (s.setRx p r).host k = s.host k := by simp [State.host]
@[simp] theorem State.host_setTx (p : Nat) (t : Option TxFrame) (k : HostId) : (s.setTx p t).host k = s.host k := by simp [State.host]
@[simp] theorem State.host_flagCh (p : Nat) (m : Word) (k : HostId) : (s.flagCh p m).host k = s.host k := by simp [State.host]
@[simp] theorem State.host_flagSilk (p : Nat) (m : Word) (k : HostId) : (s.flagSilk p m).host k = s.host k := by simp [State.host]
@[simp] theorem State.host_flagTx (p : Nat) (m : Word) (k : HostId) : (s.flagTx p m).host k = s.host k := by simp [State.host]
@[simp] theorem State.host_flagErr (p : Nat) (m : Word) (k : HostId) : (s.flagErr p m).host k = s.host k := by simp [State.host]
@[simp] theorem State.host_flagGrd (m : Word) (k : HostId) : (s.flagGrd m).host k = s.host k := by simp [State.host]
@[simp] theorem State.host_flagPwr (m : Word) (k : HostId) : (s.flagPwr m).host k = s.host k := by simp [State.host]
@[simp] theorem State.host_flagMgt (m : Word) (k : HostId) : (s.flagMgt m).host k = s.host k := by simp [State.host]
@[simp] theorem State.host_setObj (o : Nat) (v : Obj) (k : HostId) : (s.setObj o v).host k = s.host k := by simp [State.host]
@[simp] theorem State.host_modObj (o : Nat) (f : Obj → Obj) (k : HostId) : (s.modObj o f).host k = s.host k := by simp [State.host]
@[simp] theorem State.host_modTarget (t : Nat) (f : IrqTarget → IrqTarget) (k : HostId) : (s.modTarget t f).host k = s.host k := by simp [State.host]
@[simp] theorem State.host_emit (o : Out) (k : HostId) : (s.emit o).host k = s.host k := by simp [State.host]
@[simp] theorem State.host_modEngine (e : Nat) (f : Engine → Engine) (k : HostId) : (s.modEngine e f).host k = s.host k := by simp [State.host]
@[simp] theorem State.host_modPart (p : Nat) (f : Part → Part) (k : HostId) : (s.modPart p f).host k = s.host k := by simp [State.host]
@[simp] theorem State.host_modStream (st : Stream) (f : StreamState → StreamState) (k : HostId) : (s.modStream st f).host k = s.host k := by simp [State.host]
@[simp] theorem State.host_modOut (o : Nat) (g : DoS → DoS) (k : HostId) : (s.modOut o g).host k = s.host k := by simp [State.host]
@[simp] theorem State.host_markSeen (n : Nat) (b : Option Nat) (k : HostId) : (s.markSeen n b).host k = s.host k := by simp [State.host]
@[simp] theorem State.host_setPend (n : Nat) (b : Option Nat) (k : HostId) : (s.setPend n b).host k = s.host k := by simp [State.host]
@[simp] theorem State.host_raise (n : Nat) (k : HostId) : (s.raise n).host k = s.host k := by simp [State.host]
@[simp] theorem State.host_portEvent (p : Nat) (k : HostId) : (s.portEvent p).host k = s.host k := by simp [State.host]
@[simp] theorem State.host_portTraffic (p : Nat) (k : HostId) : (s.portTraffic p).host k = s.host k := by simp [State.host]
@[simp] theorem State.host_event (code source sev d0 d1 : Nat) (k : HostId) : (s.event code source sev d0 d1).host k = s.host k := by simp [State.host]
@[simp] theorem State.host_setPreg (i : Nat) (v : Word) (o : Option HostId) (k : HostId) : (s.setPreg i v o).host k = s.host k := by simp [State.host]
@[simp] theorem State.host_changeMode (m : Mode) (k : HostId) : (s.changeMode m).host k = s.host k := by simp [State.host]
@[simp] theorem State.host_powerRaise (n : Nat) (k : HostId) : (s.powerRaise n).host k = s.host k := by simp [State.host]
@[simp] theorem State.host_powerEvent (code source sev d0 d1 : Nat) (k : HostId) : (s.powerEvent code source sev d0 d1).host k = s.host k := by simp [State.host]
@[simp] theorem State.host_writeStateLine (k : HostId) : (s.writeStateLine).host k = s.host k := by simp [State.host]
@[simp] theorem State.host_clearCount (k : HostId) : (s.clearCount).host k = s.host k := by simp [State.host]
@[simp] theorem State.host_holdUnreported (n : Nat) (k : HostId) : (s.holdUnreported n).host k = s.host k := by simp [State.host]
@[simp] theorem State.host_eccBad (region addr : Nat) (k : HostId) : (s.eccBad region addr).host k = s.host k := by simp [State.host]
@[simp] theorem State.host_overwrite (a n : Nat) (k : HostId) : (s.overwrite a n).host k = s.host k := by simp [State.host]
@[simp] theorem State.host_poolReport (a n : Nat) (k : HostId) : (s.poolReport a n).host k = s.host k := by simp [State.host]
@[simp] theorem State.host_unmark (g : Nat) (k : HostId) : (s.unmark g).host k = s.host k := by simp [State.host]
@[simp] theorem State.host_poolPut (ws : List (Nat × Byte)) (k : HostId) : (s.poolPut ws).host k = s.host k := by simp [State.host]
@[simp] theorem State.host_refreshStby (k : HostId) : (s.refreshStby).host k = s.host k := by simp [State.host]
@[simp] theorem State.host_addCause (p c : Nat) (k : HostId) : (s.addCause p c).host k = s.host k := by simp [State.host]
@[simp] theorem State.host_dropCause (p c : Nat) (k : HostId) : (s.dropCause p c).host k = s.host k := by simp [State.host]

@[simp] theorem State.obj_modHost (h : HostId) (f : Hst → Hst) (q : Nat) : (s.modHost h f).obj q = s.obj q := by simp [State.obj]
@[simp] theorem State.obj_setPort (p : Nat) (v : PortS) (q : Nat) : (s.setPort p v).obj q = s.obj q := by simp [State.obj]
@[simp] theorem State.obj_modPort (p : Nat) (f : PortS → PortS) (q : Nat) : (s.modPort p f).obj q = s.obj q := by simp [State.obj]
@[simp] theorem State.obj_setRx (p : Nat) (r : Option RxFrame) (q : Nat) : (s.setRx p r).obj q = s.obj q := by simp [State.obj]
@[simp] theorem State.obj_setTx (p : Nat) (t : Option TxFrame) (q : Nat) : (s.setTx p t).obj q = s.obj q := by simp [State.obj]
@[simp] theorem State.obj_flagCh (p : Nat) (m : Word) (q : Nat) : (s.flagCh p m).obj q = s.obj q := by simp [State.obj]
@[simp] theorem State.obj_flagSilk (p : Nat) (m : Word) (q : Nat) : (s.flagSilk p m).obj q = s.obj q := by simp [State.obj]
@[simp] theorem State.obj_flagTx (p : Nat) (m : Word) (q : Nat) : (s.flagTx p m).obj q = s.obj q := by simp [State.obj]
@[simp] theorem State.obj_flagErr (p : Nat) (m : Word) (q : Nat) : (s.flagErr p m).obj q = s.obj q := by simp [State.obj]
@[simp] theorem State.obj_flagGrd (m : Word) (q : Nat) : (s.flagGrd m).obj q = s.obj q := by simp [State.obj]
@[simp] theorem State.obj_flagPwr (m : Word) (q : Nat) : (s.flagPwr m).obj q = s.obj q := by simp [State.obj]
@[simp] theorem State.obj_flagMgt (m : Word) (q : Nat) : (s.flagMgt m).obj q = s.obj q := by simp [State.obj]
@[simp] theorem State.obj_modTarget (t : Nat) (f : IrqTarget → IrqTarget) (q : Nat) : (s.modTarget t f).obj q = s.obj q := by simp [State.obj]
@[simp] theorem State.obj_emit (o : Out) (q : Nat) : (s.emit o).obj q = s.obj q := by simp [State.obj]
@[simp] theorem State.obj_modEngine (e : Nat) (f : Engine → Engine) (q : Nat) : (s.modEngine e f).obj q = s.obj q := by simp [State.obj]
@[simp] theorem State.obj_modPart (p : Nat) (f : Part → Part) (q : Nat) : (s.modPart p f).obj q = s.obj q := by simp [State.obj]
@[simp] theorem State.obj_modStream (st : Stream) (f : StreamState → StreamState) (q : Nat) : (s.modStream st f).obj q = s.obj q := by simp [State.obj]
@[simp] theorem State.obj_modOut (o : Nat) (g : DoS → DoS) (q : Nat) : (s.modOut o g).obj q = s.obj q := by simp [State.obj]
@[simp] theorem State.obj_markSeen (n : Nat) (b : Option Nat) (q : Nat) : (s.markSeen n b).obj q = s.obj q := by simp [State.obj]
@[simp] theorem State.obj_setPend (n : Nat) (b : Option Nat) (q : Nat) : (s.setPend n b).obj q = s.obj q := by simp [State.obj]
@[simp] theorem State.obj_raise (n : Nat) (q : Nat) : (s.raise n).obj q = s.obj q := by simp [State.obj]
@[simp] theorem State.obj_sendMsix (h : HostId) (v : Nat) (q : Nat) : (s.sendMsix h v).obj q = s.obj q := by simp [State.obj]
@[simp] theorem State.obj_signal (t p : Nat) (q : Nat) : (s.signal t p).obj q = s.obj q := by simp [State.obj]
@[simp] theorem State.obj_presentTo (t : Nat) (q : Nat) : (s.presentTo t).obj q = s.obj q := by simp [State.obj]
@[simp] theorem State.obj_present (q : Nat) : (s.present).obj q = s.obj q := by simp [State.obj]
@[simp] theorem State.obj_portEvent (p : Nat) (q : Nat) : (s.portEvent p).obj q = s.obj q := by simp [State.obj]
@[simp] theorem State.obj_portTraffic (p : Nat) (q : Nat) : (s.portTraffic p).obj q = s.obj q := by simp [State.obj]
@[simp] theorem State.obj_event (code source sev d0 d1 : Nat) (q : Nat) : (s.event code source sev d0 d1).obj q = s.obj q := by simp [State.obj]
@[simp] theorem State.obj_violation (h : HostId) (cause bar offset : Nat) (q : Nat) : (s.violation h cause bar offset).obj q = s.obj q := by simp [State.obj]
@[simp] theorem State.obj_setPreg (i : Nat) (v : Word) (o : Option HostId) (q : Nat) : (s.setPreg i v o).obj q = s.obj q := by simp [State.obj]
@[simp] theorem State.obj_changeMode (m : Mode) (q : Nat) : (s.changeMode m).obj q = s.obj q := by simp [State.obj]
@[simp] theorem State.obj_powerRaise (n : Nat) (q : Nat) : (s.powerRaise n).obj q = s.obj q := by simp [State.obj]
@[simp] theorem State.obj_powerEvent (code source sev d0 d1 : Nat) (q : Nat) : (s.powerEvent code source sev d0 d1).obj q = s.obj q := by simp [State.obj]
@[simp] theorem State.obj_writeStateLine (q : Nat) : (s.writeStateLine).obj q = s.obj q := by simp [State.obj]
@[simp] theorem State.obj_clearCount (q : Nat) : (s.clearCount).obj q = s.obj q := by simp [State.obj]
@[simp] theorem State.obj_holdUnreported (n : Nat) (q : Nat) : (s.holdUnreported n).obj q = s.obj q := by simp [State.obj]
@[simp] theorem State.obj_hold (h : HostId) (w : HeldAccess) (q : Nat) : (s.hold h w).obj q = s.obj q := by simp [State.obj]
@[simp] theorem State.obj_eccBad (region addr : Nat) (q : Nat) : (s.eccBad region addr).obj q = s.obj q := by simp [State.obj]
@[simp] theorem State.obj_overwrite (a n : Nat) (q : Nat) : (s.overwrite a n).obj q = s.obj q := by simp [State.obj]
@[simp] theorem State.obj_poolReport (a n : Nat) (q : Nat) : (s.poolReport a n).obj q = s.obj q := by simp [State.obj]
@[simp] theorem State.obj_unmark (g : Nat) (q : Nat) : (s.unmark g).obj q = s.obj q := by simp [State.obj]
@[simp] theorem State.obj_poolPut (ws : List (Nat × Byte)) (q : Nat) : (s.poolPut ws).obj q = s.obj q := by simp [State.obj]
@[simp] theorem State.obj_refreshStby (q : Nat) : (s.refreshStby).obj q = s.obj q := by simp [State.obj]
@[simp] theorem State.obj_addCause (p c : Nat) (q : Nat) : (s.addCause p c).obj q = s.obj q := by simp [State.obj]
@[simp] theorem State.obj_dropCause (p c : Nat) (q : Nat) : (s.dropCause p c).obj q = s.obj q := by simp [State.obj]

@[simp] theorem State.target_modHost (h : HostId) (f : Hst → Hst) (q : Nat) : (s.modHost h f).target q = s.target q := by simp [State.target]
@[simp] theorem State.target_setPort (p : Nat) (v : PortS) (q : Nat) : (s.setPort p v).target q = s.target q := by simp [State.target]
@[simp] theorem State.target_modPort (p : Nat) (f : PortS → PortS) (q : Nat) : (s.modPort p f).target q = s.target q := by simp [State.target]
@[simp] theorem State.target_setRx (p : Nat) (r : Option RxFrame) (q : Nat) : (s.setRx p r).target q = s.target q := by simp [State.target]
@[simp] theorem State.target_setTx (p : Nat) (t : Option TxFrame) (q : Nat) : (s.setTx p t).target q = s.target q := by simp [State.target]
@[simp] theorem State.target_flagCh (p : Nat) (m : Word) (q : Nat) : (s.flagCh p m).target q = s.target q := by simp [State.target]
@[simp] theorem State.target_flagSilk (p : Nat) (m : Word) (q : Nat) : (s.flagSilk p m).target q = s.target q := by simp [State.target]
@[simp] theorem State.target_flagTx (p : Nat) (m : Word) (q : Nat) : (s.flagTx p m).target q = s.target q := by simp [State.target]
@[simp] theorem State.target_flagErr (p : Nat) (m : Word) (q : Nat) : (s.flagErr p m).target q = s.target q := by simp [State.target]
@[simp] theorem State.target_flagGrd (m : Word) (q : Nat) : (s.flagGrd m).target q = s.target q := by simp [State.target]
@[simp] theorem State.target_flagPwr (m : Word) (q : Nat) : (s.flagPwr m).target q = s.target q := by simp [State.target]
@[simp] theorem State.target_flagMgt (m : Word) (q : Nat) : (s.flagMgt m).target q = s.target q := by simp [State.target]
@[simp] theorem State.target_setObj (o : Nat) (v : Obj) (q : Nat) : (s.setObj o v).target q = s.target q := by simp [State.target]
@[simp] theorem State.target_modObj (o : Nat) (f : Obj → Obj) (q : Nat) : (s.modObj o f).target q = s.target q := by simp [State.target]
@[simp] theorem State.target_emit (o : Out) (q : Nat) : (s.emit o).target q = s.target q := by simp [State.target]
@[simp] theorem State.target_modEngine (e : Nat) (f : Engine → Engine) (q : Nat) : (s.modEngine e f).target q = s.target q := by simp [State.target]
@[simp] theorem State.target_modPart (p : Nat) (f : Part → Part) (q : Nat) : (s.modPart p f).target q = s.target q := by simp [State.target]
@[simp] theorem State.target_modStream (st : Stream) (f : StreamState → StreamState) (q : Nat) : (s.modStream st f).target q = s.target q := by simp [State.target]
@[simp] theorem State.target_modOut (o : Nat) (g : DoS → DoS) (q : Nat) : (s.modOut o g).target q = s.target q := by simp [State.target]
@[simp] theorem State.target_sendMsix (h : HostId) (v : Nat) (q : Nat) : (s.sendMsix h v).target q = s.target q := by simp [State.target]
@[simp] theorem State.target_event (code source sev d0 d1 : Nat) (q : Nat) : (s.event code source sev d0 d1).target q = s.target q := by simp [State.target]
@[simp] theorem State.target_violation (h : HostId) (cause bar offset : Nat) (q : Nat) : (s.violation h cause bar offset).target q = s.target q := by simp [State.target]
@[simp] theorem State.target_setPreg (i : Nat) (v : Word) (o : Option HostId) (q : Nat) : (s.setPreg i v o).target q = s.target q := by simp [State.target]
@[simp] theorem State.target_powerEvent (code source sev d0 d1 : Nat) (q : Nat) : (s.powerEvent code source sev d0 d1).target q = s.target q := by simp [State.target]
@[simp] theorem State.target_writeStateLine (q : Nat) : (s.writeStateLine).target q = s.target q := by simp [State.target]
@[simp] theorem State.target_clearCount (q : Nat) : (s.clearCount).target q = s.target q := by simp [State.target]
@[simp] theorem State.target_holdUnreported (n : Nat) (q : Nat) : (s.holdUnreported n).target q = s.target q := by simp [State.target]
@[simp] theorem State.target_hold (h : HostId) (w : HeldAccess) (q : Nat) : (s.hold h w).target q = s.target q := by simp [State.target]
@[simp] theorem State.target_unmark (g : Nat) (q : Nat) : (s.unmark g).target q = s.target q := by simp [State.target]
@[simp] theorem State.target_refreshStby (q : Nat) : (s.refreshStby).target q = s.target q := by simp [State.target]
@[simp] theorem State.target_addCause (p c : Nat) (q : Nat) : (s.addCause p c).target q = s.target q := by simp [State.target]
@[simp] theorem State.target_dropCause (p c : Nat) (q : Nat) : (s.dropCause p c).target q = s.target q := by simp [State.target]

@[simp] theorem State.part_modHost (h : HostId) (f : Hst → Hst) (q : Nat) : (s.modHost h f).part q = s.part q := by simp [State.part]
@[simp] theorem State.part_setPort (p : Nat) (v : PortS) (q : Nat) : (s.setPort p v).part q = s.part q := by simp [State.part]
@[simp] theorem State.part_modPort (p : Nat) (f : PortS → PortS) (q : Nat) : (s.modPort p f).part q = s.part q := by simp [State.part]
@[simp] theorem State.part_setRx (p : Nat) (r : Option RxFrame) (q : Nat) : (s.setRx p r).part q = s.part q := by simp [State.part]
@[simp] theorem State.part_setTx (p : Nat) (t : Option TxFrame) (q : Nat) : (s.setTx p t).part q = s.part q := by simp [State.part]
@[simp] theorem State.part_flagCh (p : Nat) (m : Word) (q : Nat) : (s.flagCh p m).part q = s.part q := by simp [State.part]
@[simp] theorem State.part_flagSilk (p : Nat) (m : Word) (q : Nat) : (s.flagSilk p m).part q = s.part q := by simp [State.part]
@[simp] theorem State.part_flagTx (p : Nat) (m : Word) (q : Nat) : (s.flagTx p m).part q = s.part q := by simp [State.part]
@[simp] theorem State.part_flagErr (p : Nat) (m : Word) (q : Nat) : (s.flagErr p m).part q = s.part q := by simp [State.part]
@[simp] theorem State.part_flagGrd (m : Word) (q : Nat) : (s.flagGrd m).part q = s.part q := by simp [State.part]
@[simp] theorem State.part_flagPwr (m : Word) (q : Nat) : (s.flagPwr m).part q = s.part q := by simp [State.part]
@[simp] theorem State.part_flagMgt (m : Word) (q : Nat) : (s.flagMgt m).part q = s.part q := by simp [State.part]
@[simp] theorem State.part_setObj (o : Nat) (v : Obj) (q : Nat) : (s.setObj o v).part q = s.part q := by simp [State.part]
@[simp] theorem State.part_modObj (o : Nat) (f : Obj → Obj) (q : Nat) : (s.modObj o f).part q = s.part q := by simp [State.part]
@[simp] theorem State.part_modTarget (t : Nat) (f : IrqTarget → IrqTarget) (q : Nat) : (s.modTarget t f).part q = s.part q := by simp [State.part]
@[simp] theorem State.part_emit (o : Out) (q : Nat) : (s.emit o).part q = s.part q := by simp [State.part]
@[simp] theorem State.part_modEngine (e : Nat) (f : Engine → Engine) (q : Nat) : (s.modEngine e f).part q = s.part q := by simp [State.part]
@[simp] theorem State.part_modStream (st : Stream) (f : StreamState → StreamState) (q : Nat) : (s.modStream st f).part q = s.part q := by simp [State.part]
@[simp] theorem State.part_modOut (o : Nat) (g : DoS → DoS) (q : Nat) : (s.modOut o g).part q = s.part q := by simp [State.part]
@[simp] theorem State.part_markSeen (n : Nat) (b : Option Nat) (q : Nat) : (s.markSeen n b).part q = s.part q := by simp [State.part]
@[simp] theorem State.part_setPend (n : Nat) (b : Option Nat) (q : Nat) : (s.setPend n b).part q = s.part q := by simp [State.part]
@[simp] theorem State.part_raise (n : Nat) (q : Nat) : (s.raise n).part q = s.part q := by simp [State.part]
@[simp] theorem State.part_sendMsix (h : HostId) (v : Nat) (q : Nat) : (s.sendMsix h v).part q = s.part q := by simp [State.part]
@[simp] theorem State.part_signal (t p : Nat) (q : Nat) : (s.signal t p).part q = s.part q := by simp [State.part]
@[simp] theorem State.part_presentTo (t : Nat) (q : Nat) : (s.presentTo t).part q = s.part q := by simp [State.part]
@[simp] theorem State.part_present (q : Nat) : (s.present).part q = s.part q := by simp [State.part]
@[simp] theorem State.part_portEvent (p : Nat) (q : Nat) : (s.portEvent p).part q = s.part q := by simp [State.part]
@[simp] theorem State.part_portTraffic (p : Nat) (q : Nat) : (s.portTraffic p).part q = s.part q := by simp [State.part]
@[simp] theorem State.part_event (code source sev d0 d1 : Nat) (q : Nat) : (s.event code source sev d0 d1).part q = s.part q := by simp [State.part]
@[simp] theorem State.part_violation (h : HostId) (cause bar offset : Nat) (q : Nat) : (s.violation h cause bar offset).part q = s.part q := by simp [State.part]
@[simp] theorem State.part_setPreg (i : Nat) (v : Word) (o : Option HostId) (q : Nat) : (s.setPreg i v o).part q = s.part q := by simp [State.part]
@[simp] theorem State.part_changeMode (m : Mode) (q : Nat) : (s.changeMode m).part q = s.part q := by simp [State.part]
@[simp] theorem State.part_powerRaise (n : Nat) (q : Nat) : (s.powerRaise n).part q = s.part q := by simp [State.part]
@[simp] theorem State.part_powerEvent (code source sev d0 d1 : Nat) (q : Nat) : (s.powerEvent code source sev d0 d1).part q = s.part q := by simp [State.part]
@[simp] theorem State.part_writeStateLine (q : Nat) : (s.writeStateLine).part q = s.part q := by simp [State.part]
@[simp] theorem State.part_clearCount (q : Nat) : (s.clearCount).part q = s.part q := by simp [State.part]
@[simp] theorem State.part_holdUnreported (n : Nat) (q : Nat) : (s.holdUnreported n).part q = s.part q := by simp [State.part]
@[simp] theorem State.part_hold (h : HostId) (w : HeldAccess) (q : Nat) : (s.hold h w).part q = s.part q := by simp [State.part]
@[simp] theorem State.part_eccBad (region addr : Nat) (q : Nat) : (s.eccBad region addr).part q = s.part q := by simp [State.part]
@[simp] theorem State.part_overwrite (a n : Nat) (q : Nat) : (s.overwrite a n).part q = s.part q := by simp [State.part]
@[simp] theorem State.part_poolReport (a n : Nat) (q : Nat) : (s.poolReport a n).part q = s.part q := by simp [State.part]
@[simp] theorem State.part_unmark (g : Nat) (q : Nat) : (s.unmark g).part q = s.part q := by simp [State.part]
@[simp] theorem State.part_poolPut (ws : List (Nat × Byte)) (q : Nat) : (s.poolPut ws).part q = s.part q := by simp [State.part]
@[simp] theorem State.part_refreshStby (q : Nat) : (s.refreshStby).part q = s.part q := by simp [State.part]
@[simp] theorem State.part_addCause (p c : Nat) (q : Nat) : (s.addCause p c).part q = s.part q := by simp [State.part]
@[simp] theorem State.part_dropCause (p c : Nat) (q : Nat) : (s.dropCause p c).part q = s.part q := by simp [State.part]

@[simp] theorem State.us_modHost (h : HostId) (f : Hst → Hst) : (s.modHost h f).us = s.us := by simp [State.us]
@[simp] theorem State.us_setPort (p : Nat) (v : PortS) : (s.setPort p v).us = s.us := by simp [State.us]
@[simp] theorem State.us_modPort (p : Nat) (f : PortS → PortS) : (s.modPort p f).us = s.us := by simp [State.us]
@[simp] theorem State.us_setRx (p : Nat) (r : Option RxFrame) : (s.setRx p r).us = s.us := by simp [State.us]
@[simp] theorem State.us_setTx (p : Nat) (t : Option TxFrame) : (s.setTx p t).us = s.us := by simp [State.us]
@[simp] theorem State.us_flagCh (p : Nat) (m : Word) : (s.flagCh p m).us = s.us := by simp [State.us]
@[simp] theorem State.us_flagSilk (p : Nat) (m : Word) : (s.flagSilk p m).us = s.us := by simp [State.us]
@[simp] theorem State.us_flagTx (p : Nat) (m : Word) : (s.flagTx p m).us = s.us := by simp [State.us]
@[simp] theorem State.us_flagErr (p : Nat) (m : Word) : (s.flagErr p m).us = s.us := by simp [State.us]
@[simp] theorem State.us_flagGrd (m : Word) : (s.flagGrd m).us = s.us := by simp [State.us]
@[simp] theorem State.us_flagPwr (m : Word) : (s.flagPwr m).us = s.us := by simp [State.us]
@[simp] theorem State.us_flagMgt (m : Word) : (s.flagMgt m).us = s.us := by simp [State.us]
@[simp] theorem State.us_setObj (o : Nat) (v : Obj) : (s.setObj o v).us = s.us := by simp [State.us]
@[simp] theorem State.us_modObj (o : Nat) (f : Obj → Obj) : (s.modObj o f).us = s.us := by simp [State.us]
@[simp] theorem State.us_modTarget (t : Nat) (f : IrqTarget → IrqTarget) : (s.modTarget t f).us = s.us := by simp [State.us]
@[simp] theorem State.us_emit (o : Out) : (s.emit o).us = s.us := by simp [State.us]
@[simp] theorem State.us_modEngine (e : Nat) (f : Engine → Engine) : (s.modEngine e f).us = s.us := by simp [State.us]
@[simp] theorem State.us_modPart (p : Nat) (f : Part → Part) : (s.modPart p f).us = s.us := by simp [State.us]
@[simp] theorem State.us_modStream (st : Stream) (f : StreamState → StreamState) : (s.modStream st f).us = s.us := by simp [State.us]
@[simp] theorem State.us_modOut (o : Nat) (g : DoS → DoS) : (s.modOut o g).us = s.us := by simp [State.us]
@[simp] theorem State.us_markSeen (n : Nat) (b : Option Nat) : (s.markSeen n b).us = s.us := by simp [State.us]
@[simp] theorem State.us_setPend (n : Nat) (b : Option Nat) : (s.setPend n b).us = s.us := by simp [State.us]
@[simp] theorem State.us_raise (n : Nat) : (s.raise n).us = s.us := by simp [State.us]
@[simp] theorem State.us_sendMsix (h : HostId) (v : Nat) : (s.sendMsix h v).us = s.us := by simp [State.us]
@[simp] theorem State.us_signal (t p : Nat) : (s.signal t p).us = s.us := by simp [State.us]
@[simp] theorem State.us_presentTo (t : Nat) : (s.presentTo t).us = s.us := by simp [State.us]
@[simp] theorem State.us_present  : (s.present).us = s.us := by simp [State.us]
@[simp] theorem State.us_portEvent (p : Nat) : (s.portEvent p).us = s.us := by simp [State.us]
@[simp] theorem State.us_portTraffic (p : Nat) : (s.portTraffic p).us = s.us := by simp [State.us]
@[simp] theorem State.us_event (code source sev d0 d1 : Nat) : (s.event code source sev d0 d1).us = s.us := by simp [State.us]
@[simp] theorem State.us_violation (h : HostId) (cause bar offset : Nat) : (s.violation h cause bar offset).us = s.us := by simp [State.us]
@[simp] theorem State.us_setPreg (i : Nat) (v : Word) (o : Option HostId) : (s.setPreg i v o).us = s.us := by simp [State.us]
@[simp] theorem State.us_changeMode (m : Mode) : (s.changeMode m).us = s.us := by simp [State.us]
@[simp] theorem State.us_powerRaise (n : Nat) : (s.powerRaise n).us = s.us := by simp [State.us]
@[simp] theorem State.us_powerEvent (code source sev d0 d1 : Nat) : (s.powerEvent code source sev d0 d1).us = s.us := by simp [State.us]
@[simp] theorem State.us_writeStateLine  : (s.writeStateLine).us = s.us := by simp [State.us]
@[simp] theorem State.us_clearCount  : (s.clearCount).us = s.us := by simp [State.us]
@[simp] theorem State.us_holdUnreported (n : Nat) : (s.holdUnreported n).us = s.us := by simp [State.us]
@[simp] theorem State.us_hold (h : HostId) (w : HeldAccess) : (s.hold h w).us = s.us := by simp [State.us]
@[simp] theorem State.us_eccBad (region addr : Nat) : (s.eccBad region addr).us = s.us := by simp [State.us]
@[simp] theorem State.us_overwrite (a n : Nat) : (s.overwrite a n).us = s.us := by simp [State.us]
@[simp] theorem State.us_poolReport (a n : Nat) : (s.poolReport a n).us = s.us := by simp [State.us]
@[simp] theorem State.us_unmark (g : Nat) : (s.unmark g).us = s.us := by simp [State.us]
@[simp] theorem State.us_poolPut (ws : List (Nat × Byte)) : (s.poolPut ws).us = s.us := by simp [State.us]
@[simp] theorem State.us_refreshStby  : (s.refreshStby).us = s.us := by simp [State.us]
@[simp] theorem State.us_addCause (p c : Nat) : (s.addCause p c).us = s.us := by simp [State.us]
@[simp] theorem State.us_dropCause (p c : Nat) : (s.dropCause p c).us = s.us := by simp [State.us]

@[simp] theorem State.now_modHost (h : HostId) (f : Hst → Hst) : (s.modHost h f).now = s.now := by simp [State.now]
@[simp] theorem State.now_setPort (p : Nat) (v : PortS) : (s.setPort p v).now = s.now := by simp [State.now]
@[simp] theorem State.now_modPort (p : Nat) (f : PortS → PortS) : (s.modPort p f).now = s.now := by simp [State.now]
@[simp] theorem State.now_setRx (p : Nat) (r : Option RxFrame) : (s.setRx p r).now = s.now := by simp [State.now]
@[simp] theorem State.now_setTx (p : Nat) (t : Option TxFrame) : (s.setTx p t).now = s.now := by simp [State.now]
@[simp] theorem State.now_flagCh (p : Nat) (m : Word) : (s.flagCh p m).now = s.now := by simp [State.now]
@[simp] theorem State.now_flagSilk (p : Nat) (m : Word) : (s.flagSilk p m).now = s.now := by simp [State.now]
@[simp] theorem State.now_flagTx (p : Nat) (m : Word) : (s.flagTx p m).now = s.now := by simp [State.now]
@[simp] theorem State.now_flagErr (p : Nat) (m : Word) : (s.flagErr p m).now = s.now := by simp [State.now]
@[simp] theorem State.now_flagGrd (m : Word) : (s.flagGrd m).now = s.now := by simp [State.now]
@[simp] theorem State.now_flagPwr (m : Word) : (s.flagPwr m).now = s.now := by simp [State.now]
@[simp] theorem State.now_flagMgt (m : Word) : (s.flagMgt m).now = s.now := by simp [State.now]
@[simp] theorem State.now_setObj (o : Nat) (v : Obj) : (s.setObj o v).now = s.now := by simp [State.now]
@[simp] theorem State.now_modObj (o : Nat) (f : Obj → Obj) : (s.modObj o f).now = s.now := by simp [State.now]
@[simp] theorem State.now_modTarget (t : Nat) (f : IrqTarget → IrqTarget) : (s.modTarget t f).now = s.now := by simp [State.now]
@[simp] theorem State.now_emit (o : Out) : (s.emit o).now = s.now := by simp [State.now]
@[simp] theorem State.now_modEngine (e : Nat) (f : Engine → Engine) : (s.modEngine e f).now = s.now := by simp [State.now]
@[simp] theorem State.now_modPart (p : Nat) (f : Part → Part) : (s.modPart p f).now = s.now := by simp [State.now]
@[simp] theorem State.now_modStream (st : Stream) (f : StreamState → StreamState) : (s.modStream st f).now = s.now := by simp [State.now]
@[simp] theorem State.now_modOut (o : Nat) (g : DoS → DoS) : (s.modOut o g).now = s.now := by simp [State.now]
@[simp] theorem State.now_markSeen (n : Nat) (b : Option Nat) : (s.markSeen n b).now = s.now := by simp [State.now]
@[simp] theorem State.now_setPend (n : Nat) (b : Option Nat) : (s.setPend n b).now = s.now := by simp [State.now]
@[simp] theorem State.now_raise (n : Nat) : (s.raise n).now = s.now := by simp [State.now]
@[simp] theorem State.now_sendMsix (h : HostId) (v : Nat) : (s.sendMsix h v).now = s.now := by simp [State.now]
@[simp] theorem State.now_signal (t p : Nat) : (s.signal t p).now = s.now := by simp [State.now]
@[simp] theorem State.now_presentTo (t : Nat) : (s.presentTo t).now = s.now := by simp [State.now]
@[simp] theorem State.now_present  : (s.present).now = s.now := by simp [State.now]
@[simp] theorem State.now_portEvent (p : Nat) : (s.portEvent p).now = s.now := by simp [State.now]
@[simp] theorem State.now_portTraffic (p : Nat) : (s.portTraffic p).now = s.now := by simp [State.now]
@[simp] theorem State.now_event (code source sev d0 d1 : Nat) : (s.event code source sev d0 d1).now = s.now := by simp [State.now]
@[simp] theorem State.now_violation (h : HostId) (cause bar offset : Nat) : (s.violation h cause bar offset).now = s.now := by simp [State.now]
@[simp] theorem State.now_setPreg (i : Nat) (v : Word) (o : Option HostId) : (s.setPreg i v o).now = s.now := by simp [State.now]
@[simp] theorem State.now_changeMode (m : Mode) : (s.changeMode m).now = s.now := by simp [State.now]
@[simp] theorem State.now_powerRaise (n : Nat) : (s.powerRaise n).now = s.now := by simp [State.now]
@[simp] theorem State.now_powerEvent (code source sev d0 d1 : Nat) : (s.powerEvent code source sev d0 d1).now = s.now := by simp [State.now]
@[simp] theorem State.now_writeStateLine  : (s.writeStateLine).now = s.now := by simp [State.now]
@[simp] theorem State.now_clearCount  : (s.clearCount).now = s.now := by simp [State.now]
@[simp] theorem State.now_holdUnreported (n : Nat) : (s.holdUnreported n).now = s.now := by simp [State.now]
@[simp] theorem State.now_hold (h : HostId) (w : HeldAccess) : (s.hold h w).now = s.now := by simp [State.now]
@[simp] theorem State.now_eccBad (region addr : Nat) : (s.eccBad region addr).now = s.now := by simp [State.now]
@[simp] theorem State.now_overwrite (a n : Nat) : (s.overwrite a n).now = s.now := by simp [State.now]
@[simp] theorem State.now_poolReport (a n : Nat) : (s.poolReport a n).now = s.now := by simp [State.now]
@[simp] theorem State.now_unmark (g : Nat) : (s.unmark g).now = s.now := by simp [State.now]
@[simp] theorem State.now_poolPut (ws : List (Nat × Byte)) : (s.poolPut ws).now = s.now := by simp [State.now]
@[simp] theorem State.now_refreshStby  : (s.refreshStby).now = s.now := by simp [State.now]
@[simp] theorem State.now_addCause (p c : Nat) : (s.addCause p c).now = s.now := by simp [State.now]
@[simp] theorem State.now_dropCause (p c : Nat) : (s.dropCause p c).now = s.now := by simp [State.now]

@[simp] theorem State.poolByte_modHost (h : HostId) (f : Hst → Hst) (q : Nat) : (s.modHost h f).poolByte q = s.poolByte q := by simp [State.poolByte]
@[simp] theorem State.poolByte_setPort (p : Nat) (v : PortS) (q : Nat) : (s.setPort p v).poolByte q = s.poolByte q := by simp [State.poolByte]
@[simp] theorem State.poolByte_modPort (p : Nat) (f : PortS → PortS) (q : Nat) : (s.modPort p f).poolByte q = s.poolByte q := by simp [State.poolByte]
@[simp] theorem State.poolByte_setRx (p : Nat) (r : Option RxFrame) (q : Nat) : (s.setRx p r).poolByte q = s.poolByte q := by simp [State.poolByte]
@[simp] theorem State.poolByte_setTx (p : Nat) (t : Option TxFrame) (q : Nat) : (s.setTx p t).poolByte q = s.poolByte q := by simp [State.poolByte]
@[simp] theorem State.poolByte_flagCh (p : Nat) (m : Word) (q : Nat) : (s.flagCh p m).poolByte q = s.poolByte q := by simp [State.poolByte]
@[simp] theorem State.poolByte_flagSilk (p : Nat) (m : Word) (q : Nat) : (s.flagSilk p m).poolByte q = s.poolByte q := by simp [State.poolByte]
@[simp] theorem State.poolByte_flagTx (p : Nat) (m : Word) (q : Nat) : (s.flagTx p m).poolByte q = s.poolByte q := by simp [State.poolByte]
@[simp] theorem State.poolByte_flagErr (p : Nat) (m : Word) (q : Nat) : (s.flagErr p m).poolByte q = s.poolByte q := by simp [State.poolByte]
@[simp] theorem State.poolByte_flagGrd (m : Word) (q : Nat) : (s.flagGrd m).poolByte q = s.poolByte q := by simp [State.poolByte]
@[simp] theorem State.poolByte_flagPwr (m : Word) (q : Nat) : (s.flagPwr m).poolByte q = s.poolByte q := by simp [State.poolByte]
@[simp] theorem State.poolByte_flagMgt (m : Word) (q : Nat) : (s.flagMgt m).poolByte q = s.poolByte q := by simp [State.poolByte]
@[simp] theorem State.poolByte_setObj (o : Nat) (v : Obj) (q : Nat) : (s.setObj o v).poolByte q = s.poolByte q := by simp [State.poolByte]
@[simp] theorem State.poolByte_modObj (o : Nat) (f : Obj → Obj) (q : Nat) : (s.modObj o f).poolByte q = s.poolByte q := by simp [State.poolByte]
@[simp] theorem State.poolByte_modTarget (t : Nat) (f : IrqTarget → IrqTarget) (q : Nat) : (s.modTarget t f).poolByte q = s.poolByte q := by simp [State.poolByte]
@[simp] theorem State.poolByte_emit (o : Out) (q : Nat) : (s.emit o).poolByte q = s.poolByte q := by simp [State.poolByte]
@[simp] theorem State.poolByte_modEngine (e : Nat) (f : Engine → Engine) (q : Nat) : (s.modEngine e f).poolByte q = s.poolByte q := by simp [State.poolByte]
@[simp] theorem State.poolByte_modPart (p : Nat) (f : Part → Part) (q : Nat) : (s.modPart p f).poolByte q = s.poolByte q := by simp [State.poolByte]
@[simp] theorem State.poolByte_modStream (st : Stream) (f : StreamState → StreamState) (q : Nat) : (s.modStream st f).poolByte q = s.poolByte q := by simp [State.poolByte]
@[simp] theorem State.poolByte_modOut (o : Nat) (g : DoS → DoS) (q : Nat) : (s.modOut o g).poolByte q = s.poolByte q := by simp [State.poolByte]
@[simp] theorem State.poolByte_markSeen (n : Nat) (b : Option Nat) (q : Nat) : (s.markSeen n b).poolByte q = s.poolByte q := by simp [State.poolByte]
@[simp] theorem State.poolByte_setPend (n : Nat) (b : Option Nat) (q : Nat) : (s.setPend n b).poolByte q = s.poolByte q := by simp [State.poolByte]
@[simp] theorem State.poolByte_raise (n : Nat) (q : Nat) : (s.raise n).poolByte q = s.poolByte q := by simp [State.poolByte]
@[simp] theorem State.poolByte_sendMsix (h : HostId) (v : Nat) (q : Nat) : (s.sendMsix h v).poolByte q = s.poolByte q := by simp [State.poolByte]
@[simp] theorem State.poolByte_signal (t p : Nat) (q : Nat) : (s.signal t p).poolByte q = s.poolByte q := by simp [State.poolByte]
@[simp] theorem State.poolByte_presentTo (t : Nat) (q : Nat) : (s.presentTo t).poolByte q = s.poolByte q := by simp [State.poolByte]
@[simp] theorem State.poolByte_present (q : Nat) : (s.present).poolByte q = s.poolByte q := by simp [State.poolByte]
@[simp] theorem State.poolByte_portEvent (p : Nat) (q : Nat) : (s.portEvent p).poolByte q = s.poolByte q := by simp [State.poolByte]
@[simp] theorem State.poolByte_portTraffic (p : Nat) (q : Nat) : (s.portTraffic p).poolByte q = s.poolByte q := by simp [State.poolByte]
@[simp] theorem State.poolByte_event (code source sev d0 d1 : Nat) (q : Nat) : (s.event code source sev d0 d1).poolByte q = s.poolByte q := by simp [State.poolByte]
@[simp] theorem State.poolByte_violation (h : HostId) (cause bar offset : Nat) (q : Nat) : (s.violation h cause bar offset).poolByte q = s.poolByte q := by simp [State.poolByte]
@[simp] theorem State.poolByte_setPreg (i : Nat) (v : Word) (o : Option HostId) (q : Nat) : (s.setPreg i v o).poolByte q = s.poolByte q := by simp [State.poolByte]
@[simp] theorem State.poolByte_changeMode (m : Mode) (q : Nat) : (s.changeMode m).poolByte q = s.poolByte q := by simp [State.poolByte]
@[simp] theorem State.poolByte_powerRaise (n : Nat) (q : Nat) : (s.powerRaise n).poolByte q = s.poolByte q := by simp [State.poolByte]
@[simp] theorem State.poolByte_powerEvent (code source sev d0 d1 : Nat) (q : Nat) : (s.powerEvent code source sev d0 d1).poolByte q = s.poolByte q := by simp [State.poolByte]
@[simp] theorem State.poolByte_writeStateLine (q : Nat) : (s.writeStateLine).poolByte q = s.poolByte q := by simp [State.poolByte]
@[simp] theorem State.poolByte_clearCount (q : Nat) : (s.clearCount).poolByte q = s.poolByte q := by simp [State.poolByte]
@[simp] theorem State.poolByte_holdUnreported (n : Nat) (q : Nat) : (s.holdUnreported n).poolByte q = s.poolByte q := by simp [State.poolByte]
@[simp] theorem State.poolByte_hold (h : HostId) (w : HeldAccess) (q : Nat) : (s.hold h w).poolByte q = s.poolByte q := by simp [State.poolByte]
@[simp] theorem State.poolByte_refreshStby (q : Nat) : (s.refreshStby).poolByte q = s.poolByte q := by simp [State.poolByte]
@[simp] theorem State.poolByte_addCause (p c : Nat) (q : Nat) : (s.addCause p c).poolByte q = s.poolByte q := by simp [State.poolByte]
@[simp] theorem State.poolByte_dropCause (p c : Nat) (q : Nat) : (s.dropCause p c).poolByte q = s.poolByte q := by simp [State.poolByte]

@[simp] theorem State.route_modHost (h : HostId) (f : Hst → Hst) (q : Nat) : (s.modHost h f).route q = s.route q := by simp [State.route]
@[simp] theorem State.route_setPort (p : Nat) (v : PortS) (q : Nat) : (s.setPort p v).route q = s.route q := by simp [State.route]
@[simp] theorem State.route_modPort (p : Nat) (f : PortS → PortS) (q : Nat) : (s.modPort p f).route q = s.route q := by simp [State.route]
@[simp] theorem State.route_setRx (p : Nat) (r : Option RxFrame) (q : Nat) : (s.setRx p r).route q = s.route q := by simp [State.route]
@[simp] theorem State.route_setTx (p : Nat) (t : Option TxFrame) (q : Nat) : (s.setTx p t).route q = s.route q := by simp [State.route]
@[simp] theorem State.route_flagCh (p : Nat) (m : Word) (q : Nat) : (s.flagCh p m).route q = s.route q := by simp [State.route]
@[simp] theorem State.route_flagSilk (p : Nat) (m : Word) (q : Nat) : (s.flagSilk p m).route q = s.route q := by simp [State.route]
@[simp] theorem State.route_flagTx (p : Nat) (m : Word) (q : Nat) : (s.flagTx p m).route q = s.route q := by simp [State.route]
@[simp] theorem State.route_flagErr (p : Nat) (m : Word) (q : Nat) : (s.flagErr p m).route q = s.route q := by simp [State.route]
@[simp] theorem State.route_flagGrd (m : Word) (q : Nat) : (s.flagGrd m).route q = s.route q := by simp [State.route]
@[simp] theorem State.route_flagPwr (m : Word) (q : Nat) : (s.flagPwr m).route q = s.route q := by simp [State.route]
@[simp] theorem State.route_flagMgt (m : Word) (q : Nat) : (s.flagMgt m).route q = s.route q := by simp [State.route]
@[simp] theorem State.route_setObj (o : Nat) (v : Obj) (q : Nat) : (s.setObj o v).route q = s.route q := by simp [State.route]
@[simp] theorem State.route_modObj (o : Nat) (f : Obj → Obj) (q : Nat) : (s.modObj o f).route q = s.route q := by simp [State.route]
@[simp] theorem State.route_modTarget (t : Nat) (f : IrqTarget → IrqTarget) (q : Nat) : (s.modTarget t f).route q = s.route q := by simp [State.route]
@[simp] theorem State.route_emit (o : Out) (q : Nat) : (s.emit o).route q = s.route q := by simp [State.route]
@[simp] theorem State.route_modEngine (e : Nat) (f : Engine → Engine) (q : Nat) : (s.modEngine e f).route q = s.route q := by simp [State.route]
@[simp] theorem State.route_modPart (p : Nat) (f : Part → Part) (q : Nat) : (s.modPart p f).route q = s.route q := by simp [State.route]
@[simp] theorem State.route_modStream (st : Stream) (f : StreamState → StreamState) (q : Nat) : (s.modStream st f).route q = s.route q := by simp [State.route]
@[simp] theorem State.route_modOut (o : Nat) (g : DoS → DoS) (q : Nat) : (s.modOut o g).route q = s.route q := by simp [State.route]
@[simp] theorem State.route_markSeen (n : Nat) (b : Option Nat) (q : Nat) : (s.markSeen n b).route q = s.route q := by simp [State.route]
@[simp] theorem State.route_setPend (n : Nat) (b : Option Nat) (q : Nat) : (s.setPend n b).route q = s.route q := by simp [State.route]
@[simp] theorem State.route_raise (n : Nat) (q : Nat) : (s.raise n).route q = s.route q := by simp [State.route]
@[simp] theorem State.route_sendMsix (h : HostId) (v : Nat) (q : Nat) : (s.sendMsix h v).route q = s.route q := by simp [State.route]
@[simp] theorem State.route_signal (t p : Nat) (q : Nat) : (s.signal t p).route q = s.route q := by simp [State.route]
@[simp] theorem State.route_presentTo (t : Nat) (q : Nat) : (s.presentTo t).route q = s.route q := by simp [State.route]
@[simp] theorem State.route_present (q : Nat) : (s.present).route q = s.route q := by simp [State.route]
@[simp] theorem State.route_portEvent (p : Nat) (q : Nat) : (s.portEvent p).route q = s.route q := by simp [State.route]
@[simp] theorem State.route_portTraffic (p : Nat) (q : Nat) : (s.portTraffic p).route q = s.route q := by simp [State.route]
@[simp] theorem State.route_event (code source sev d0 d1 : Nat) (q : Nat) : (s.event code source sev d0 d1).route q = s.route q := by simp [State.route]
@[simp] theorem State.route_violation (h : HostId) (cause bar offset : Nat) (q : Nat) : (s.violation h cause bar offset).route q = s.route q := by simp [State.route]
@[simp] theorem State.route_setPreg (i : Nat) (v : Word) (o : Option HostId) (q : Nat) : (s.setPreg i v o).route q = s.route q := by simp [State.route]
@[simp] theorem State.route_changeMode (m : Mode) (q : Nat) : (s.changeMode m).route q = s.route q := by simp [State.route]
@[simp] theorem State.route_powerRaise (n : Nat) (q : Nat) : (s.powerRaise n).route q = s.route q := by simp [State.route]
@[simp] theorem State.route_powerEvent (code source sev d0 d1 : Nat) (q : Nat) : (s.powerEvent code source sev d0 d1).route q = s.route q := by simp [State.route]
@[simp] theorem State.route_writeStateLine (q : Nat) : (s.writeStateLine).route q = s.route q := by simp [State.route]
@[simp] theorem State.route_clearCount (q : Nat) : (s.clearCount).route q = s.route q := by simp [State.route]
@[simp] theorem State.route_holdUnreported (n : Nat) (q : Nat) : (s.holdUnreported n).route q = s.route q := by simp [State.route]
@[simp] theorem State.route_hold (h : HostId) (w : HeldAccess) (q : Nat) : (s.hold h w).route q = s.route q := by simp [State.route]
@[simp] theorem State.route_eccBad (region addr : Nat) (q : Nat) : (s.eccBad region addr).route q = s.route q := by simp [State.route]
@[simp] theorem State.route_overwrite (a n : Nat) (q : Nat) : (s.overwrite a n).route q = s.route q := by simp [State.route]
@[simp] theorem State.route_poolReport (a n : Nat) (q : Nat) : (s.poolReport a n).route q = s.route q := by simp [State.route]
@[simp] theorem State.route_unmark (g : Nat) (q : Nat) : (s.unmark g).route q = s.route q := by simp [State.route]
@[simp] theorem State.route_poolPut (ws : List (Nat × Byte)) (q : Nat) : (s.poolPut ws).route q = s.route q := by simp [State.route]
@[simp] theorem State.route_refreshStby (q : Nat) : (s.refreshStby).route q = s.route q := by simp [State.route]
@[simp] theorem State.route_addCause (p c : Nat) (q : Nat) : (s.addCause p c).route q = s.route q := by simp [State.route]
@[simp] theorem State.route_dropCause (p c : Nat) (q : Nat) : (s.dropCause p c).route q = s.route q := by simp [State.route]

@[simp] theorem State.stream_modHost (h : HostId) (f : Hst → Hst) (q : Stream) : (s.modHost h f).stream q = s.stream q := by simp [State.stream]
@[simp] theorem State.stream_setPort (p : Nat) (v : PortS) (q : Stream) : (s.setPort p v).stream q = s.stream q := by simp [State.stream]
@[simp] theorem State.stream_modPort (p : Nat) (f : PortS → PortS) (q : Stream) : (s.modPort p f).stream q = s.stream q := by simp [State.stream]
@[simp] theorem State.stream_setRx (p : Nat) (r : Option RxFrame) (q : Stream) : (s.setRx p r).stream q = s.stream q := by simp [State.stream]
@[simp] theorem State.stream_setTx (p : Nat) (t : Option TxFrame) (q : Stream) : (s.setTx p t).stream q = s.stream q := by simp [State.stream]
@[simp] theorem State.stream_flagCh (p : Nat) (m : Word) (q : Stream) : (s.flagCh p m).stream q = s.stream q := by simp [State.stream]
@[simp] theorem State.stream_flagSilk (p : Nat) (m : Word) (q : Stream) : (s.flagSilk p m).stream q = s.stream q := by simp [State.stream]
@[simp] theorem State.stream_flagTx (p : Nat) (m : Word) (q : Stream) : (s.flagTx p m).stream q = s.stream q := by simp [State.stream]
@[simp] theorem State.stream_flagErr (p : Nat) (m : Word) (q : Stream) : (s.flagErr p m).stream q = s.stream q := by simp [State.stream]
@[simp] theorem State.stream_flagGrd (m : Word) (q : Stream) : (s.flagGrd m).stream q = s.stream q := by simp [State.stream]
@[simp] theorem State.stream_flagPwr (m : Word) (q : Stream) : (s.flagPwr m).stream q = s.stream q := by simp [State.stream]
@[simp] theorem State.stream_flagMgt (m : Word) (q : Stream) : (s.flagMgt m).stream q = s.stream q := by simp [State.stream]
@[simp] theorem State.stream_setObj (o : Nat) (v : Obj) (q : Stream) : (s.setObj o v).stream q = s.stream q := by simp [State.stream]
@[simp] theorem State.stream_modObj (o : Nat) (f : Obj → Obj) (q : Stream) : (s.modObj o f).stream q = s.stream q := by simp [State.stream]
@[simp] theorem State.stream_modTarget (t : Nat) (f : IrqTarget → IrqTarget) (q : Stream) : (s.modTarget t f).stream q = s.stream q := by simp [State.stream]
@[simp] theorem State.stream_emit (o : Out) (q : Stream) : (s.emit o).stream q = s.stream q := by simp [State.stream]
@[simp] theorem State.stream_modEngine (e : Nat) (f : Engine → Engine) (q : Stream) : (s.modEngine e f).stream q = s.stream q := by simp [State.stream]
@[simp] theorem State.stream_modPart (p : Nat) (f : Part → Part) (q : Stream) : (s.modPart p f).stream q = s.stream q := by simp [State.stream]
@[simp] theorem State.stream_modOut (o : Nat) (g : DoS → DoS) (q : Stream) : (s.modOut o g).stream q = s.stream q := by simp [State.stream]
@[simp] theorem State.stream_markSeen (n : Nat) (b : Option Nat) (q : Stream) : (s.markSeen n b).stream q = s.stream q := by simp [State.stream]
@[simp] theorem State.stream_setPend (n : Nat) (b : Option Nat) (q : Stream) : (s.setPend n b).stream q = s.stream q := by simp [State.stream]
@[simp] theorem State.stream_raise (n : Nat) (q : Stream) : (s.raise n).stream q = s.stream q := by simp [State.stream]
@[simp] theorem State.stream_sendMsix (h : HostId) (v : Nat) (q : Stream) : (s.sendMsix h v).stream q = s.stream q := by simp [State.stream]
@[simp] theorem State.stream_signal (t p : Nat) (q : Stream) : (s.signal t p).stream q = s.stream q := by simp [State.stream]
@[simp] theorem State.stream_presentTo (t : Nat) (q : Stream) : (s.presentTo t).stream q = s.stream q := by simp [State.stream]
@[simp] theorem State.stream_present (q : Stream) : (s.present).stream q = s.stream q := by simp [State.stream]
@[simp] theorem State.stream_portEvent (p : Nat) (q : Stream) : (s.portEvent p).stream q = s.stream q := by simp [State.stream]
@[simp] theorem State.stream_portTraffic (p : Nat) (q : Stream) : (s.portTraffic p).stream q = s.stream q := by simp [State.stream]
@[simp] theorem State.stream_event (code source sev d0 d1 : Nat) (q : Stream) : (s.event code source sev d0 d1).stream q = s.stream q := by simp [State.stream]
@[simp] theorem State.stream_violation (h : HostId) (cause bar offset : Nat) (q : Stream) : (s.violation h cause bar offset).stream q = s.stream q := by simp [State.stream]
@[simp] theorem State.stream_setPreg (i : Nat) (v : Word) (o : Option HostId) (q : Stream) : (s.setPreg i v o).stream q = s.stream q := by simp [State.stream]
@[simp] theorem State.stream_changeMode (m : Mode) (q : Stream) : (s.changeMode m).stream q = s.stream q := by simp [State.stream]
@[simp] theorem State.stream_powerRaise (n : Nat) (q : Stream) : (s.powerRaise n).stream q = s.stream q := by simp [State.stream]
@[simp] theorem State.stream_powerEvent (code source sev d0 d1 : Nat) (q : Stream) : (s.powerEvent code source sev d0 d1).stream q = s.stream q := by simp [State.stream]
@[simp] theorem State.stream_writeStateLine (q : Stream) : (s.writeStateLine).stream q = s.stream q := by simp [State.stream]
@[simp] theorem State.stream_clearCount (q : Stream) : (s.clearCount).stream q = s.stream q := by simp [State.stream]
@[simp] theorem State.stream_holdUnreported (n : Nat) (q : Stream) : (s.holdUnreported n).stream q = s.stream q := by simp [State.stream]
@[simp] theorem State.stream_hold (h : HostId) (w : HeldAccess) (q : Stream) : (s.hold h w).stream q = s.stream q := by simp [State.stream]
@[simp] theorem State.stream_eccBad (region addr : Nat) (q : Stream) : (s.eccBad region addr).stream q = s.stream q := by simp [State.stream]
@[simp] theorem State.stream_overwrite (a n : Nat) (q : Stream) : (s.overwrite a n).stream q = s.stream q := by simp [State.stream]
@[simp] theorem State.stream_poolReport (a n : Nat) (q : Stream) : (s.poolReport a n).stream q = s.stream q := by simp [State.stream]
@[simp] theorem State.stream_unmark (g : Nat) (q : Stream) : (s.unmark g).stream q = s.stream q := by simp [State.stream]
@[simp] theorem State.stream_poolPut (ws : List (Nat × Byte)) (q : Stream) : (s.poolPut ws).stream q = s.stream q := by simp [State.stream]
@[simp] theorem State.stream_refreshStby (q : Stream) : (s.refreshStby).stream q = s.stream q := by simp [State.stream]
@[simp] theorem State.stream_addCause (p c : Nat) (q : Stream) : (s.addCause p c).stream q = s.stream q := by simp [State.stream]
@[simp] theorem State.stream_dropCause (p c : Nat) (q : Stream) : (s.dropCause p c).stream q = s.stream q := by simp [State.stream]

@[simp] theorem State.port_setPort (p : Nat) (v : PortS) (q : Nat) : (s.setPort p v).port q = if q = p then v else s.port q := by
  by_cases h : q = p
  · subst h; simp [State.setPort, State.port]
  · simp [State.setPort, State.port, h, Tbl.get_put_ne _ _ _ _ h]
@[simp] theorem State.port_modPort (p : Nat) (f : PortS → PortS) (q : Nat) : (s.modPort p f).port q = if q = p then f (s.port p) else s.port q := by
  by_cases h : q = p
  · subst h; simp [State.modPort, State.setPort, State.port]
  · simp [State.modPort, State.setPort, State.port, h, Tbl.get_put_ne _ _ _ _ h]
@[simp] theorem State.host_modHost (h : HostId) (f : Hst → Hst) (k : HostId) : (s.modHost h f).host k = if k = h then f (s.host h) else s.host k := by
  by_cases h : k = h
  · subst h; simp [State.modHost, State.host]
  · simp [State.modHost, State.host, h, PerHost.get_set_ne _ _ _ _ h]
@[simp] theorem State.obj_setObj (p : Nat) (v : Obj) (q : Nat) : (s.setObj p v).obj q = if q = p then v else s.obj q := by
  by_cases h : q = p
  · subst h; simp [State.setObj, State.obj]
  · simp [State.setObj, State.obj, h, Tbl.get_put_ne _ _ _ _ h]
@[simp] theorem State.obj_modObj (p : Nat) (f : Obj → Obj) (q : Nat) : (s.modObj p f).obj q = if q = p then f (s.obj p) else s.obj q := by
  by_cases h : q = p
  · subst h; simp [State.modObj, State.setObj, State.obj]
  · simp [State.modObj, State.setObj, State.obj, h, Tbl.get_put_ne _ _ _ _ h]
@[simp] theorem State.target_modTarget (p : Nat) (f : IrqTarget → IrqTarget) (q : Nat) : (s.modTarget p f).target q = if q = p then f (s.target p) else s.target q := by
  by_cases h : q = p
  · subst h; simp [State.modTarget, State.target]
  · simp [State.modTarget, State.target, h, Tbl.get_put_ne _ _ _ _ h]
@[simp] theorem State.part_modPart (p : Nat) (f : Part → Part) (q : Nat) : (s.modPart p f).part q = if q = p then f (s.part p) else s.part q := by
  by_cases h : q = p
  · subst h; simp [State.modPart, State.part]
  · simp [State.modPart, State.part, h, Tbl.get_put_ne _ _ _ _ h]
@[simp] theorem State.route_modRoute (p : Nat) (f : Route → Route) (q : Nat) : (s.modRoute p f).route q = if q = p then f (s.route p) else s.route q := by
  by_cases h : q = p
  · subst h; simp [State.modRoute, State.route]
  · simp [State.modRoute, State.route, h, Tbl.get_put_ne _ _ _ _ h]

/-- A counter that holds at its top never passes it (02 R56). -/
theorem incSat_eq (n top : Nat) : incSat n top = min top (n + 1) := by
  unfold incSat; split <;> omega

@[simp] theorem bit_or {n : Nat} (a b : BitVec n) (i : Nat) : bit (a ||| b) i = (bit a i || bit b i) := by
  simp [bit]

@[simp] theorem PerHost.get_map {α β : Type} (f : α → β) (p : PerHost α) (h : HostId) : (p.map f).get h = f (p.get h) := by
  cases h <;> rfl

/-- Signalling a target leaves INT_PEND as it is (14 R320). -/
@[simp] theorem State.signal_irqPend (t p : Nat) : (s.signal t p).irq.pend = s.irq.pend := by
  unfold State.signal State.sendMsix
  dsimp only
  (repeat' split) <;> rfl

@[simp] theorem State.presentTo_irqPend (t : Nat) : (s.presentTo t).irq.pend = s.irq.pend := by
  unfold State.presentTo
  (repeat' split) <;> first | rfl | simp

@[simp] theorem State.present_irqPend : s.present.irq.pend = s.irq.pend :=
  forAll_keeps (fun s => s.irq.pend) _ (fun t s => State.presentTo_irqPend s t) _ _

@[simp] theorem State.event_irqPend (code source sev d0 d1 : Nat) :
    (s.event code source sev d0 d1).irq.pend = s.irq.pend := by simp

/-- A port's event source becomes pending outside SLEEP (07 R147, 14 R314). -/
theorem State.portEvent_pend (p : Nat) (hp : p < 64) (hm : s.dev.mode ≠ .sleep) :
    (s.portEvent p).irq.pend.getLsbD (p + 1) = true :=
  s.raise_pend (p + 1) (by simp [neverRaised]; omega) hm

/-- A source that is pending stays pending when another one is raised. -/
theorem State.raise_pend_mono (n k : Nat) (h : s.irq.pend.getLsbD k = true) : (s.raise n).irq.pend.getLsbD k = true := by
  have keep : ∀ (x : State) (b : Option Nat), (x.markSeen n b).irq.pend = x.irq.pend := fun x b =>
    forAll_keeps (fun s => s.irq.pend) _ (fun t s => by split <;> rfl) _ _
  unfold State.raise
  split
  · exact h
  · split
    · split <;> exact h
    · unfold State.setPend
      split
      · exact h
      · rw [keep]; simp [h]

end Sys2Proof.Machine
end

