-- ==== Sys2Proof/Laws/Held.lean ====
section
/-! SUPPORT. A host's access is carried out as it arrives, or joins those its endpoint holds. -/

namespace Sys2Proof.Machine

variable {s : State} {h : HostId}

theorem State.holds_of_writesNow (w : s.WritesNow h) : s.holds h = false := by
  simp [State.holds, w.1, w.2]

theorem State.holds_of_held (w : (s.host h).writesHeld = true) : s.holds h = true := by
  simp [State.holds, w]

theorem State.holds_of_full (w : s.pregFull h = true) : s.holds h = true := by
  simp [State.holds, w]

/-- A held access changes the host's list of held accesses and nothing else. -/
theorem State.hold_eq (w : HeldAccess) :
    s.hold h w = s.modHost h fun x => { x with held := x.held ++ [w] } := rfl

theorem State.posted_now (o : Nat) (v : Word) (done : State) (w : s.WritesNow h) : s.posted h o v done = done := by
  simp [State.posted, State.holds_of_writesNow w]

theorem State.posted_held (o : Nat) (v : Word) (done : State) (w : s.holds h = true) :
    s.posted h o v done = s.hold h (.bar0 o 0xF v) := by
  simp [State.posted, w]

/-- A processor target's write is never held. -/
theorem State.postedTo_now (t : Fin 8) (o : Nat) (v : Word) (done : State) (w : s.TargetWritesNow t) :
    s.postedTo t.val o v done = done := by
  unfold State.postedTo
  split
  · exact State.posted_now o v done (w.1 (Fin.ext ‹_›))
  · exact State.posted_now o v done (w.2 (Fin.ext ‹_›))
  · rfl

theorem State.hostWrite_now (o : Nat) (be : BitVec 4) (v : Word) (w : s.WritesNow h) :
    s.hostWrite h o be v = s.bar0Write h o be v := by
  simp [State.hostWrite, State.holds_of_writesNow w]

theorem State.hostWrite_held (o : Nat) (be : BitVec 4) (v : Word) (w : s.holds h = true) :
    s.hostWrite h o be v = s.hold h (.bar0 o be v) := by
  simp [State.hostWrite, w]

theorem State.slotPosted_now (i : Nat) (x : SlotWrite) (w : s.WritesNow h) : s.slotPosted h i x = s.slotWrite h i x := by
  simp [State.slotPosted, State.holds_of_writesNow w]

theorem State.slotPosted_held (i : Nat) (x : SlotWrite) (w : s.holds h = true) :
    s.slotPosted h i x = s.hold h (.slot i x) := by
  simp [State.slotPosted, w]

theorem State.bar2Now_of (r : s.mem.ready = true) (w : (s.host h).writesHeld = false) : s.bar2Now h = true := by
  simp [State.bar2Now, r, w]

theorem State.bar2Posted_now (o : Nat) (bs : List (Option Byte)) (w : s.bar2Now h = true) :
    s.bar2Posted h o bs = s.bar2Apply h o bs := by
  simp [State.bar2Posted, w]

theorem State.bar2Posted_held (o : Nat) (bs : List (Option Byte)) (w : s.bar2Now h = false) :
    s.bar2Posted h o bs = s.hold h (.bar2 o bs) := by
  simp [State.bar2Posted, w]

theorem State.bar2Read_now (o n : Nat) (w : s.bar2Now h = true) : s.bar2Read h o n = s.bar2Serve h o n := by
  simp [State.bar2Read, w]

theorem State.bar2Read_held (o n : Nat) (w : s.bar2Now h = false) : s.bar2Read h o n = s.hold h (.bar2Read o n) := by
  simp [State.bar2Read, w]

/-- A read that no held write precedes is served. -/
theorem State.served_now (a : HeldAccess) (done : State) (w : (s.host h).writesHeld = false) : s.served h a done = done := by
  simp [State.served, w]

theorem State.served_held (a : HeldAccess) (done : State) (w : (s.host h).writesHeld = true) :
    s.served h a done = s.hold h a := by
  simp [State.served, w]

/-- A write that is held holds up whatever the host sends later (11 R255). -/
theorem State.writesHeld_hold (a : HeldAccess) (w : a.isWrite = true) : ((s.hold h a).host h).writesHeld = true := by
  cases h <;> simp [State.hold, State.modHost, State.host, PerHost.get, PerHost.set, Hst.writesHeld, w]

end Sys2Proof.Machine
end

