-- ==== Sys2Proof/Machine/Pins.lean ====
section
/-! DEFINITION. The pins of a port, as functions of the state (01 R23, 02 R31-R33). What a port puts on its bus bit by bit lies
below the model's frames, so the bit being sent is an argument: none while the port sends nothing. -/

namespace Sys2Proof.Machine

/-- The M-LVDS driver of a B-port. -/
inductive Driver where
  | off | dominant | recessive
deriving DecidableEq, Repr

/-- A TXD pin. -/
inductive TxdPin where
  | highZ | high | low
deriving DecidableEq, Repr

/-- A receiver input: RXD, or the M-LVDS receiver. -/
inductive RxPin where
  | ignored | wakeWatch | sampled
deriving DecidableEq, Repr

/-- A bit that a port sends. -/
structure SentBit where
  dominant : Bool
  /-- The bit lies in the data phase of the port's own frame, in which it drives both levels (02 R31). -/
  dataPhase : Bool
deriving DecidableEq, Repr

/-- Port outputs are passive: LATCHED, INSERT, BOOT and SLEEP, and while the reference clock is at fault (02 R33, 01 R23). -/
def State.pinsPassive (s : State) : Bool :=
  s.run.refFault || (match s.dev.mode with | .latched | .insert | .boot | .sleep => true | _ => false)

/-- A port that no engine can serve has passive outputs and does not receive (16 R371). -/
def PortS.silenced (v : PortS) : Bool := v.stat.causes.contains 5 && !v.stat.integrating && v.stat.state = .gauze

/-- The driver of BPn_P and BPn_N: off in external mode (02 R32), and unpowered with PD11 off (01 R28). -/
def State.driver (s : State) (p : Nat) (b : Option SentBit) : Driver :=
  let v := s.port p
  if s.pinsPassive || !v.enabled || !v.mlvds p || !s.run.domains.contains 11 || v.silenced || v.cfg.loopInt then .off
  else match b with
    | none => .off
    | some x => if x.dominant then .dominant else if x.dataPhase then .recessive else .off

/-- BPn_TXD or FPn_TXD: high-impedance on a B-port in M-LVDS mode (02 R32). -/
def State.txdPin (s : State) (p : Nat) (b : Option SentBit) : TxdPin :=
  let v := s.port p
  if s.pinsPassive || !v.enabled || v.mlvds p then .highZ
  else if v.silenced || v.cfg.loopInt then .high
  else match b with
    | none => .high
    | some x => if x.dominant then .low else .high

/-- With LOOP_INT the bus sees recessive, and the receiver takes the port's own TXD in place of the input (02, CH_CTRL). What is
made of an input, in external mode of RXD and in M-LVDS mode of the receiver. -/
def State.inputOf (s : State) (p : Nat) : RxPin :=
  match s.dev.mode with
  | .sleep => .wakeWatch
  | .latched | .insert | .boot => .ignored
  | _ => if (s.port p).enabled && !(s.port p).silenced && !(s.port p).cfg.loopInt then .sampled else .ignored

/-- BPn_RXD or FPn_RXD: ignored on a B-port in M-LVDS mode (02 R32); in SLEEP watched by PD3, which keeps PHY_SEL (15 R347). -/
def State.rxdPin (s : State) (p : Nat) : RxPin :=
  let ext := decide (16 ≤ p) ||
    (if s.dev.mode = .sleep then (s.kept.ports.get ((PortS.init p).cfg, 0, false, []) p).1.physel
     else (s.port p).cfg.physel)
  if ext then s.inputOf p else .ignored

/-- The M-LVDS receiver of a B-port: ignored in external mode (02 R32), and without a wake detector of its own (15 R347). -/
def State.busReceiver (s : State) (p : Nat) : RxPin :=
  if (s.port p).mlvds p && s.dev.mode != .sleep then s.inputOf p else .ignored

end Sys2Proof.Machine
end

