-- ==== Sys2Proof/Tests/Slice0.lean ====
section
/-! SUPPORT. The model's own tests: a smoke test of well-formedness, small checks against the spec's tables and worked
examples, and for every clause of the obligations that has hypotheses a state and operands that meet them all. -/

namespace Sys2Proof.Tests

set_option Elab.async false

open Sys2Proof.Machine

/-! ## States and operands the tests use -/

/-- A part that runs: every domain on, firmware and Amioc running, memory initialised. -/
def base : State :=
  { State.reset with
    dev := { mode := .grid }
    run := { buckram := true, svc := true, domains := [3, 4, 5, 6, 7, 8, 9, 10, 11], pll0 := 2, pll1 := 2 }
    rcd := { scanned := true }
    mem := { ready := true }
    fw := { parts := [(2, { running := 1, sram := some [1] })] } }

/-- `base` in mode `m`. -/
def inMode (m : Mode) : State := { base with dev := { mode := m } }

/-- `base` with port 0 as given. -/
def onPort (v : PortS) : State := { base with ports := [(0, v)] }

/-- Port 0 with operating state `st`. -/
def port0 (st : PortStat) : PortS := { PortS.init 0 with stat := st }

/-- `base` with port 0 in operating state `st`. -/
def onStat (st : PortStat) : State := onPort (port0 st)

/-- A port ACTIVE and nothing in progress. -/
def act : PortStat := { state := .active }

/-- `base` with object 0 as given. -/
def onObj (v : Obj) : State := { base with objs := [(0, v)] }

/-- An enabled send object for port 0: 16 granules, classical. -/
def sendObj : Obj := { cfg := 0xC0000000#32, granCount := 16 }

/-- `base` with host A's endpoint as given. -/
def onHost (x : Hst) : State := { base with hosts := ⟨x, {}⟩ }

/-- An endpoint whose link is up, in D0, with bus mastering on. -/
def dmaOn : Pcie := { linkUp := true, busMaster := true }

/-- A classical frame with identifier 5 and one byte. -/
def fr : Frame :=
  { fmt := .classical, ide := false, rtr := false, brs := false, esi := false, sec := false, id := 5, sdt := 0, vcid := 0,
    af := 0, len := 1, data := [7] }

/-- A frame in reception whose result has been released. -/
def rx0 : RxFrame := { key := some fr.key, result := some 0 }

/-- A frame being sent for object 0. -/
def tx0 : TxFrame := { src := .obj 0, frame := fr }

/-- A packet header on host A's stream, over its command ring. -/
def head (target : BitVec 16) : Head :=
  { stream := .hostA, path := .ring, seq := 9, dry := false, target := target, reserved := false }

/-- A command taken for window 0 of cycle 1, settled to be applied. -/
def sched (p : Params) : Sched :=
  { pkt := Head.packet (head 0xFFFF) p, jseq := 4, cycle := 0, win := 0, compiled := true, phase := .apply }

/-- The boundary of window 0 is due and its commit point has passed; `x` is accepted for it. -/
def due (x : Sched) : State :=
  { base with trk2 := { startDue := true }, cmds := { committed := true, sched := [x] } }

/-- The effective window 0 of cycle 0. -/
def ew0 : EW := { cycle := 0, win := 0, asap := false }

/-- A recorder record. -/
def rec0 : Record := { rseq := 0, epoch := 0, code := 0x0801, time := 0, source := 0, sev := 0, d0 := 0, d1 := 0 }

/-- A recorder slot that holds it. -/
def slot0 : RecSlot := { r := rec0, wrote := 0, last := 0 }

/-- A journal entry. -/
def ent0 : JEntry :=
  { jseq := 0, cmdSeq := 0, opcode := 0, status := 0, stream := .hostA, flags := 0, target := 0, effCycle := 0, effWin := 0,
    plen := 0, pcrc := 0, timeMs := 0 }

/-- A core fault. -/
def cf : CoreFault := { cause := 1, core := 0, pc := 0, info0 := 0, info1 := 0 }

/-- A Tweed part: channel 0 on port 0, slot 0 as given. -/
def twd0 (v : Slot) (x : SlotTx) : State :=
  { inMode .tweed with twd := { map := 0 :: List.replicate 15 255, slots := [(0, v)], slotTx := [(0, x)] } }

/-- A send object. -/
def o0 : ObjRecord := { obj := 3, cfg := 0xC0000000#32, id := 0, xl := 0, af := 0, granCount := 2, txcfg := 0 }

/-- A batch of no records that waits for host A's copy, which has begun. -/
def batch0 : Batch :=
  { n := 0, cycle := 0, win := 0, hflags := 0, di := 0, records := 0, synth := 0, overflow := 0, dropped := 0, notices := 0,
    bytes := [], digest := 0, waits := ⟨true, false⟩, started := ⟨true, false⟩ }

/-- A Direct entry that waits for host A. -/
def dent0 : DEntry := { dseq := 0, port := 0, at_ := 0, pre := zeros 16, seq := 0, r := { port := 0, fmt := 0, id := 1, len := 8, flags := 0, target := 0 }, waits := ⟨true, false⟩ }

/-- A valid frame whose route 0 is to be taken. -/
def rxRouted : RxFrame := { rx0 with frame := some fr, routes := [0] }

/-- The journal entry of a REC_NONCE with SEQ 9. -/
def entNonce : JEntry := { ent0 with cmdSeq := 9, opcode := 0x0703, target := 0xFFFF, pcrc := crc32c [] }

/-- The effective window of a command taken as an action: all zero. -/
def ew00 : EW := { cycle := 0, win := 0, asap := false }

/-- A command of host B, settled as `sched`'s are. -/
def schedB (p : Params) : Sched :=
  { pkt := Head.packet { head 0xFFFF with stream := .hostB } p, jseq := 5, cycle := 0, win := 0, compiled := true,
    phase := .apply }

/-- A command that waits for its compilation, for the window that opens next in `base`. -/
def wait0 : Sched := { pkt := Head.packet (head 0xFFFF) (.cfgPolicySet ew0 0), jseq := 4, cycle := 1, win := 0 }

/-- The same compiled, and its copy of host B. -/
def wait1 : Sched := { wait0 with compiled := true }
def wait1B : Sched :=
  { wait1 with pkt := Head.packet { head 0xFFFF with stream := .hostB } (.cfgPolicySet ew0 0), jseq := 5 }

/-- `base` with commands that are taken. -/
def waits0 (xs : List Sched) : State := { base with cmds := { sched := xs } }

/-- An empty draft over `base`. -/
def draft0 : Draft := { st := base, taken := [] }

/-- Where only port 0 differs from reset, only its remap waits. -/
theorem remap_only (s : State) (v : PortS) (hs : s.ports = [(0, v)]) (q : Nat) {e : Nat}
    (h0 : q = 0 → v.stat.remap ≠ some e) : (s.port q).stat.remap ≠ some e := by
  by_cases h : q = 0
  · subst h; simpa [State.port, hs, Tbl.get] using h0 rfl
  · have : (0 : Nat) ≠ q := fun x => h x.symm
    simp [State.port, hs, Tbl.get, this, PortS.init]

/-- A reply of no result for host A's chain. -/
def rep0 : Reply :=
  { stream := .hostA, path := .fifo, opcode := 1, status := 0, seq := 0, jidx := 0xFFFF, result := [], credit := false }

/-- Source 255 is pending with priority 1 and target 0 masks nothing. -/
def irq0 : State :=
  { base with irq := { pend := 1#256 <<< 255, prio := [(255, 1)], targets := [(0, { mask := 0 })] } }

/-- `twd0` with slot 0's object enabled to send. -/
def twdSend (v : Slot) (x : SlotTx) : State :=
  { twd0 v x with objs := [(slotBase, sendObj)], hosts := ⟨{ state := .live }, {}⟩ }

/-- FAULT was last entered at 0 us, and 60 s and a microsecond have passed. -/
def faultedLongAgo : State := { base with fw := { lastFault := some 0 }, clk := { ticks := 6000000100 } }

theorem after_a_minute : ∀ a, faultedLongAgo.fw.lastFault = some a → a + 60000000 < faultedLongAgo.us :=
  fun a h => by cases h; decide

/-- The request buffer of the management port holds a SEQ_QUERY, and the service firmware does not run. -/
def buffered : State :=
  { base with
    run := {}
    mgt := { req := wordsBytes (Head.words { head 0xFFFF with stream := .mgmt, path := .port } .seqQuery) } }

/-- Sixteen data bytes and the four check bytes that 04 R97 gives them, divided out apart from the model. -/
def codeword : List Byte :=
  [0x44, 0x20, 0x82, 0x3C, 0xFD, 0xE6, 0xF1, 0xC2, 0x6B, 0x30, 0xF9, 0x0E, 0xC7, 0xDD, 0x01, 0xE4, 0xD6, 0x48, 0x9F, 0xA0]

/-- The hypotheses about no packet waiting, of a state whose commands and chains are those of reset. -/
theorem nothing_waits (s : State) (h : s.cmds.waiting = []) (hm : s.link.mailIn = []) (ha : (s.host .a).cmd.words = [])
    (hb : (s.host .b).cmd.words = []) : s.NothingWaits :=
  ⟨h, hm, fun k => by cases k <;> simp [ha, hb, headPacket]⟩

/-! ## Witnesses: every clause with hypotheses is met by some state and operands -/

theorem witness_step_runs_front_1 : ∃ (c : Instr) (rest : List Instr) (s : State), s.pending = c :: rest :=
  ⟨.mirrorUpdate, [], { State.reset with pending := [.mirrorUpdate] }, by decide⟩

theorem witness_step_runs_front_2 : ∃ (s : State), s.pending = [] :=
  ⟨State.reset, by decide⟩

theorem witness_power_link_and_mirror_1 : ∃ (s : State), s.link.up = true :=
  ⟨State.reset, by decide⟩

theorem witness_power_link_and_mirror_2 : ∃ (s : State), s.link.up = false :=
  ⟨{ State.reset with link := { up := false } }, by decide⟩

theorem witness_power_link_and_mirror_3 : ∃ (s : State), s.link.up = true ∧ 8 ≤ s.link.bad :=
  ⟨{ State.reset with link := { bad := 8 } }, by decide, by decide⟩

theorem witness_power_link_and_mirror_4 : ∃ (s : State), s.link.up = true ∧ s.link.bad < 8 :=
  ⟨{ State.reset with link := { bad := 7 } }, by decide, by decide⟩

theorem witness_power_link_and_mirror_6 : ∃ (s : State), s.link.up = false ∧ 16 ≤ s.link.good ∧ s.link.mailIn = [] :=
  ⟨{ State.reset with link := { up := false, good := 16 } }, by decide, by decide, by decide⟩

theorem witness_power_link_and_mirror_7 : ∃ (s : State), s.link.up = false ∧ s.link.good < 16 :=
  ⟨{ State.reset with link := { up := false, good := 15 } }, by decide, by decide⟩

theorem witness_power_link_and_mirror_8 : ∃ (s : State), s.link.up = true ∧ s.pwr2.powered = true ∧ s.amiocRuns = true ∧
    s.link.amioc = true ∧ s.link.spillDue = false :=
  ⟨{ base with link := { amioc := true } }, by decide, by decide, by decide, by decide, by decide⟩

theorem witness_power_link_and_mirror_9 : ∃ (s : State), s.link.up = true ∧ s.pwr2.powered = true ∧ s.amiocRuns = false :=
  ⟨State.reset, by decide, by decide, by decide⟩

theorem witness_power_link_and_mirror_10 : ∃ (s : State), s.link.up = true ∧ s.pwr2.powered = true ∧ s.amiocRuns = true ∧
    s.link.amioc = true ∧ s.link.spillDue = true ∧ s.run.buckram = true ∧ s.rcd.scanned = true ∧ s.rcd.degraded = .no :=
  ⟨{ base with link := { amioc := true, spillDue := true } }, by decide, by decide, by decide, by decide, by decide, by
    decide, by decide, by decide⟩

theorem witness_power_link_and_mirror_11 : ∃ (s : State), (s.part 2).cutover = none :=
  ⟨State.reset, by decide⟩

theorem witness_power_link_and_mirror_12 : ∃ (s : State), (s.part 2).cutover ≠ none :=
  ⟨{ base with fw := { parts := [(2, { cutover := some 1 })] } }, by decide⟩

theorem witness_keep_die_lines_1 : ∃ (s : State) (i j : KeepJob) (fs ps : List KeepJob), s.keep.busy = none ∧
    s.keep.feedsLost = false ∧ s.keep.down = false ∧ (s.part 0).cutover = none ∧ s.keep.jobsF = i :: fs ∧ s.keep.jobsP = j
    :: ps ∧ i.move = .lineWrite ∧ j.move = .lineWrite :=
  ⟨{ State.reset with keep := { jobsF := [{ line := 1 }], jobsP := [{ line := 2 }] } }, { line := 1 }, { line := 2 }, [],
    [], by decide, by decide, by decide, by decide, by decide, by decide, by decide, by decide⟩

theorem witness_keep_die_lines_2 : ∃ (s : State) (i : KeepJob) (fs : List KeepJob), s.keep.busy = none ∧ s.keep.feedsLost =
    false ∧ s.keep.down = false ∧ (s.part 0).cutover = none ∧ s.keep.jobsF = i :: fs ∧ s.keep.jobsP = [] ∧ i.move =
    .lineWrite :=
  ⟨{ State.reset with keep := { jobsF := [{ line := 1 }] } }, { line := 1 }, [], by decide, by decide, by decide, by decide,
    by decide, by decide, by decide⟩

theorem witness_keep_die_lines_3 : ∃ (s : State) (j : KeepJob) (ps : List KeepJob), s.keep.busy = none ∧ s.keep.feedsLost =
    false ∧ s.keep.down = false ∧ s.keep.jobsF = [] ∧ s.keep.jobsP = j :: ps ∧ j.move = .lineWrite :=
  ⟨{ State.reset with keep := { jobsP := [{ line := 1 }] } }, { line := 1 }, [], by decide, by decide, by decide, by decide,
    by decide, by decide⟩

theorem witness_keep_die_lines_4 : ∃ (s : State) (i : KeepJob) (fs : List KeepJob), s.keep.busy = none ∧ s.keep.feedsLost =
    false ∧ s.keep.down = false ∧ (s.part 0).cutover = none ∧ s.keep.jobsF = i :: fs ∧ s.keep.jobsP = [] ∧ i.move ≠
    .lineWrite :=
  ⟨{ State.reset with keep := { jobsF := [{ line := 0, move := .norRead, parts := 3 }] } },
    { line := 0, move := .norRead, parts := 3 }, [], by decide, by decide, by decide, by decide, by decide, by decide, by
    decide⟩

theorem witness_keep_die_lines_5 : ∃ (s : State), (s.keep.busy ≠ none ∨ s.keep.feedsLost = true ∨ s.keep.down = true) :=
  ⟨{ State.reset with keep := { busy := some { line := 1 } } }, by decide⟩

theorem witness_keep_die_lines_6 : ∃ (s : State) (i : Nat) (v : Word) (line : Nat) (tries : Nat), s.keep.busy = some
    { line := line, write := [(i, v)], tries := tries } :=
  ⟨{ State.reset with keep := { busy := some { line := 1, tries := 1, write := [(0x400, 7)] } } }, 0x400, 7, 1, 1, by decide⟩

theorem witness_keep_die_lines_7 : ∃ (s : State) (j : KeepJob), s.keep.busy = some j ∧ j.tries = 0 :=
  ⟨{ State.reset with keep := { busy := some { line := 1 } } }, { line := 1 }, by decide, by decide⟩

theorem witness_keep_die_lines_8 : ∃ (s : State) (j : KeepJob), s.keep.busy = some j ∧ j.tries ≠ 0 ∧ j.owner = none ∧ 0 <
    s.keep.spares ∧ s.run.buckram = true ∧ s.rcd.scanned = true :=
  ⟨{ base with keep := { busy := some { line := 1, tries := 1 }, spares := 1 } }, { line := 1, tries := 1 }, by decide, by
    decide, by decide, by decide, by decide, by decide⟩

theorem witness_keep_die_lines_9 : ∃ (s : State) (j : KeepJob), s.keep.busy = some j :=
  ⟨{ State.reset with keep := { busy := some { line := 1 } } }, { line := 1 }, by decide⟩

theorem witness_keep_die_lines_10 : ∃ (s : State) (c d : List Byte), s.run.buckram = true ∧ s.keep.down = false ∧ lineDecode
    c = .fixed d :=
  ⟨base, fixSymbol (zeros 16 ++ codeword) 3 1, zeros 16 ++ codeword, by decide, by decide, by decide +kernel⟩

theorem witness_keep_die_lines_11 : ∃ (s : State) (c : List Byte), s.run.buckram = true ∧ s.keep.down = false ∧ lineDecode c
    = .clean :=
  ⟨base, zeros 16 ++ codeword, by decide, by decide, by decide +kernel⟩

theorem witness_keep_die_lines_12 : ∃ (s : State) (l : BitVec 16) (c : List Byte), s.run.buckram = true ∧ s.keep.down =
    false ∧ lineDecode c = .bad ∧ l.toNat < 0x40 ∧ 0 < s.keep.spares :=
  ⟨{ base with keep := { spares := 1 } }, 0x3F, [], by decide, by decide, by decide +kernel, by decide, by decide⟩

theorem witness_keep_die_lines_13 : ∃ (s : State) (l : BitVec 16), 80000000000 ≤ s.keep.writes l.toNat ∧ 0 < s.keep.spares :=
  ⟨{ base with keep := { wear := [(5, 1220703)], wearLow := [(5, 8192)], spares := 1 } }, 5, by decide, by decide⟩

theorem witness_keep_die_lines_14 : ∃ (s : State) (l : BitVec 16), s.keep.writes l.toNat < 80000000000 :=
  ⟨{ base with keep := { wear := [(5, 1220703)], wearLow := [(5, 8191)] } }, 5, by decide⟩

theorem witness_scrub_and_rows_1 : ∃ (s : State) (r : MemRegion) (a : Nat) (c : List Byte), codewordWf r a = true ∧
    s.run.domains.contains (regionDomain r) = true ∧ eccDecode c = .clean ∧ HeaderHolds s r a c :=
  ⟨base, .message, 0x9FFFF0, codeword, by decide, by decide, by decide +kernel, Or.inr (Or.inl (by decide))⟩

theorem witness_scrub_and_rows_2 : ∃ (s : State) (r : MemRegion) (a : Nat) (c d : List Byte), codewordWf r a = true ∧
    s.run.domains.contains (regionDomain r) = true ∧ eccDecode c = .fixed d ∧ HeaderHolds s r a d ∧ regionNum r <
    s.mem.corrected.length ∧ s.mem.lastPass.contains (r, a) = false :=
  ⟨base, .message, 0x9FFFF0, fixSymbol codeword 3 1, codeword, by decide, by decide, by decide +kernel, Or.inr (Or.inl (by
    decide)), by decide, by decide⟩

theorem witness_scrub_and_rows_3 : ∃ (s : State) (a : Nat) (c : List Byte), codewordWf .message a = true ∧ a < 0x100000 ∧
    s.run.domains.contains 8 = true ∧ eccDecode c = .clean ∧ s.headerMismatch a c = true :=
  ⟨base, 0, codeword, by decide, by decide, by decide, by decide +kernel, by decide +kernel⟩

theorem witness_scrub_and_rows_4 : ∃ (r : MemRegion) (a : Nat), codewordWf r a = false :=
  ⟨.message, 0xA00000, by decide⟩

theorem witness_scrub_and_rows_5 : ∃ (s : State) (r : MemRegion) (a : Nat), codewordWf r a = true ∧ s.mem.copying.contains
    (r, rowOf a) = true :=
  ⟨{ base with mem := { copying := [(.message, rowOf 0x9FFFF0)] } }, .message, 0x9FFFF0, by decide, by decide⟩

theorem witness_scrub_and_rows_6 : ∃ (s : State) (a : Nat), codewordWf .table a = true ∧ s.run.svc = true :=
  ⟨base, 0x7FFF0, by decide, by decide⟩

theorem witness_scrub_and_rows_8 : ∃ (r : MemRegion) (a : Nat), codewordWf r a = false :=
  ⟨.message, 0xA00000, by decide⟩

theorem witness_scrub_and_rows_9 : ∃ (a : Nat), codewordWf .table a = false :=
  ⟨0x80000, by decide⟩

theorem witness_two_symbol_errors_corrected_1 : ∃ (c : List Byte) (k l : Nat) (e f : Byte), c.length = 20 ∧ eccDecode c =
    .clean ∧ k < l ∧ l < 20 ∧ (e ≠ 0 ∨ f ≠ 0) :=
  ⟨codeword, 0, 19, 1, 0, by decide, by decide +kernel, by decide, by decide, by decide⟩

theorem witness_clocks_and_domains_1 : ∃ (s : State), s.run.domains.contains 3 = true ∧ s.dev.mode.resettable = true :=
  ⟨base, by decide, by decide⟩

theorem witness_clocks_and_domains_3 : ∃ (s : State) (k : Fin 2), s.run.domains.contains 11 = true ∧ s.pll k.val = 0 :=
  ⟨{ base with run := { base.run with pll0 := 0 } }, 0, by decide, by decide⟩

theorem witness_clocks_and_domains_5 : ∃ (s : State) (k : Fin 2), s.pll k.val = 1 :=
  ⟨{ base with run := { base.run with pll0 := 1 } }, 0, by decide⟩

theorem witness_clocks_and_domains_6 : ∃ (s : State) (k : Fin 2), s.pll k.val ≠ 0 :=
  ⟨base, 1, by decide⟩

theorem witness_clocks_and_domains_7 : ∃ (s : State) (d : Fin 12), s.domainDue d.val = true :=
  ⟨State.reset, 3, by decide⟩

theorem witness_clocks_and_domains_8 : ∃ (s : State) (d : Fin 12), s.domainDue d.val = false :=
  ⟨State.reset, 2, by decide⟩

theorem witness_frame_die_resets_1 : ∃ (s : State), s.dev.mode.resettable = true :=
  ⟨base, by decide⟩

theorem witness_frame_die_resets_2 : ∃ (s : State), s.dev.mode = .fault :=
  ⟨inMode .fault, by decide⟩

theorem witness_frame_die_resets_3 : ∃ (s : State), s.cmds.resetDue = true ∧ (s.dev.mode = .config ∨ s.dev.mode = .service ∨
    s.dev.mode = .hold) :=
  ⟨{ inMode .hold with cmds := { resetDue := true } }, by decide, by decide⟩

theorem witness_frame_die_resets_4 : ∃ (s : State), s.dev.mode = .sleep :=
  ⟨inMode .sleep, by decide⟩

theorem witness_frame_die_resets_5 : ∃ (s : State), s.pwr.pgood = true :=
  ⟨base, by decide⟩

theorem witness_frame_die_resets_6 : ∃ (s : State), s.pwr.pgood = false :=
  ⟨{ base with pwr := { pgood := false } }, by decide⟩

theorem witness_sleep_and_wake_1 : ∃ (s : State) (w : Nat), s.cmds.sleepDue = some w ∧ (s.dev.mode = .config ∨ s.dev.mode =
    .hold) ∧ (∀ p, s.inFrame p = false) ∧ s.kept.latched = none :=
  ⟨{ inMode .hold with cmds := { sleepDue := some 1 } }, 1, by decide, by decide, fun _ => rfl, by decide⟩

theorem witness_sleep_and_wake_2 : ∃ (s : State) (w : WakeEvent), s.dev.mode = .sleep ∧ s.kept.allows s.kept.cfg w = true :=
  ⟨{ inMode .sleep with kept := { wake := 0xF } }, .cycIn, by decide, by decide⟩

theorem witness_sleep_and_wake_3 : ∃ (s : State) (w : WakeEvent), s.dev.mode = .sleep ∧ s.kept.allows s.kept.cfg w = false :=
  ⟨inMode .sleep, .cycIn, by decide, by decide⟩

theorem witness_sleep_and_wake_4 : ∃ (s : State), s.dev.mode = .sleep ∧ s.portAnswers = true :=
  ⟨inMode .sleep, by decide, by decide⟩

theorem witness_sleep_and_wake_5 : ∃ (s : State), s.portAnswers = true :=
  ⟨base, by decide⟩

theorem witness_sleep_and_wake_6 : ∃ (s : State), s.dev.mode = .sleep ∧ s.portAnswers = true :=
  ⟨inMode .sleep, by decide, by decide⟩

theorem witness_filter_lookup_2 : ∃ (m : MemCtl) (k : FrameKey), m.bad = [] ∧ FrameKey.std k = true :=
  ⟨{}, fr.key, by decide, by decide⟩

theorem witness_filter_lookup_3 : ∃ (m : MemCtl) (f : Flt) (c : PortCfg) (k : FrameKey) (i : Nat), m.bad = [] ∧ FrameKey.std
    k = false ∧ i < bits c.fltElem 31 24 ∧ elemMatches (f.elems.get ⟨0, 0, 0, 0⟩ (bits c.fltElem 11 0 + i)) k = true ∧ (∀ j
    < i, elemMatches (f.elems.get ⟨0, 0, 0, 0⟩ (bits c.fltElem 11 0 + j)) k = false) :=
  ⟨{}, { elems := [(1, ⟨0, 0, 0x82000000#32, 0⟩)] }, { fltElem := 0x02000000#32 }, { fr.key with ide := true }, 1, by
    decide, by decide, by decide, by decide, by decide⟩

theorem witness_filter_lookup_4 : ∃ (m : MemCtl) (f : Flt) (c : PortCfg) (k : FrameKey), m.bad = [] ∧ FrameKey.std k = false
    ∧ (∀ j < bits c.fltElem 31 24, elemMatches (f.elems.get ⟨0, 0, 0, 0⟩ (bits c.fltElem 11 0 + j)) k = false) :=
  ⟨{}, {}, { fltElem := 0x02000000#32 }, { fr.key with ide := true }, by decide, by decide, by decide⟩

theorem witness_reception_1 : ∃ (s : State) (p : Port), (s.port p.val).listens = true ∧ (s.port p.val).cfg.loopInt = false ∧
    (s.port p.val).stat.rx = none ∧ (s.port p.val).stat.tx = none :=
  ⟨onStat act, 0, by decide, by decide, by decide, by decide⟩

theorem witness_reception_2 : ∃ (s : State) (p : Port), (s.port p.val).listens = false ∨ (s.port p.val).cfg.loopInt = true :=
  ⟨onStat { state := .busOff }, 0, by decide⟩

theorem witness_reception_3 : ∃ (s : State) (p : Port) (rx : RxFrame), (s.port p.val).stat.rx = some rx :=
  ⟨onStat { act with rx := some rx0 }, 0, rx0, by decide⟩

theorem witness_reception_4 : ∃ (s : State) (p : Port) (rx : RxFrame) (r : Nat), (s.port p.val).stat.rx = some rx ∧
    rx.result = some r :=
  ⟨onStat { act with rx := some rx0 }, 0, rx0, 0, by decide, by decide⟩

theorem witness_reception_5 : ∃ (s : State) (p : Port) (f : Frame) (rx : RxFrame), (s.port p.val).stat.rx = some rx ∧
    (s.port p.val).mayBeValid rx f = true :=
  ⟨onStat { act with rx := some rx0 }, 0, fr, rx0, by decide, by decide⟩

theorem witness_reception_6 : ∃ (s : State) (p : Port) (f : Frame) (rx : RxFrame), (s.port p.val).stat.rx = some rx ∧
    (s.port p.val).mayBeValid rx f = false :=
  ⟨onStat { act with rx := some { rx0 with result := none } }, 0, fr, { rx0 with result := none }, by decide, by decide⟩

theorem witness_reception_7 : ∃ (s : State) (p : Port) (h : RxFrame) (hs : List RxFrame), (s.port p.val).stat.halves = h ::
    hs :=
  ⟨onStat { act with halves := [rx0] }, 0, rx0, [], by decide⟩

theorem witness_port_states_and_detections_1 : ∃ (s : State) (p : Port), (s.port p.val).stat.state = .integrating ∧ (s.port
    p.val).stat.stbyWait = false ∧ (s.port p.val).silk.trimming = false ∧ (s.engines.get {} (s.port p.val).engine).failed =
    false ∧ (∀ c ∈ (s.port p.val).stat.causes, c = 5) :=
  ⟨onStat { state := .integrating }, 0, by decide, by decide, by decide, by decide, by decide⟩

theorem witness_port_states_and_detections_2 : ∃ (s : State) (p : Port) (c : Nat), (s.port p.val).stat.state = .integrating
    ∧ (s.port p.val).stat.stbyWait = false ∧ (s.port p.val).silk.trimming = false ∧ c ∈ (s.port p.val).stat.causes ∧ c ≠ 5 :=
  ⟨onStat { state := .integrating, causes := [1] }, 0, 1, by decide, by decide, by decide, by decide, by decide⟩

theorem witness_port_states_and_detections_3 : ∃ (s : State) (p : Port), (s.port p.val).stat.state = .peWait ∧ (s.port
    p.val).stat.causes = [] :=
  ⟨onStat { state := .peWait }, 0, by decide, by decide⟩

theorem witness_port_states_and_detections_5 : ∃ (s : State) (p : Port) (c : PortConfigP), (s.port p.val).mayIdle = true ∧
    (s.port p.val).stat.pendSilk = none ∧ (s.port p.val).stat.pend = some c ∧ (s.port p.val).stat.disable = false ∧
    timingDiffers (s.port p.val).cfg.pc c = true ∧ (s.port p.val).stat.state ≠ .busOff ∧ (s.port p.val).stat.state ≠
    .recovering :=
  ⟨onStat { act with pend := some ⟨0, 1, 0, 0, 0, 0, 0⟩ }, 0, ⟨0, 1, 0, 0, 0, 0, 0⟩, by decide, by decide, by decide, by
    decide, by decide, by decide, by decide⟩

theorem witness_port_states_and_detections_6 : ∃ (s : State) (p : Port), (s.port p.val).stat.disable = true ∧ (s.port
    p.val).mayIdle = true ∧ (∀ c, (s.port p.val).stat.pend = some c → bit c.ctrl 0 = false) ∧ s.dlv.cur ≤ (s.port
    p.val).fence.n :=
  ⟨onStat { act with disable := true }, 0, by decide, by decide, (fun _ h => by cases h), by decide⟩

theorem witness_port_states_and_detections_7 : ∃ (s : State) (p : Port), (s.port p.val).stat.disable = true ∧ (s.port
    p.val).mayIdle = true ∧ (∀ c, (s.port p.val).stat.pend = some c → bit c.ctrl 0 = false) ∧ (s.port p.val).fence.n <
    s.dlv.cur :=
  ⟨{ onStat { act with disable := true } with dlv := { cur := 2 } }, 0, by decide, by decide, (fun _ h => by cases h), by
    decide⟩

theorem witness_port_states_and_detections_8 : ∃ (s : State) (p : Port) (rx : RxFrame), (s.port p.val).stat.rx = some rx ∧
    (s.port p.val).cfg.peEn = true ∧ (s.port p.val).cfg.silkEn = false ∧ (s.port p.val).stat.state = .active ∧ s.dev.mode ≠
    .sleep :=
  ⟨onPort { port0 { act with rx := some rx0 } with cfg := { pc := ⟨0xFFFFFFFF#32, 0xFFFFFFFB#32, 0, 0, 0, 0, 0⟩ } }, 0, rx0,
    by decide, by decide, by decide, by decide, by decide⟩

theorem witness_port_states_and_detections_9 : ∃ (s : State) (p : Port) (rx : RxFrame), (s.port p.val).stat.rx = some rx ∧
    (s.port p.val).cfg.silkEn = true :=
  ⟨onPort { port0 { act with rx := some rx0 } with cfg := { pc := ⟨0xFFFFFFFF#32, 0xFFFFFFFF#32, 0, 0, 0, 0, 0⟩ } }, 0, rx0,
    by decide, by decide⟩

theorem witness_port_states_and_detections_10 : ∃ (s : State) (p : Port), (s.port p.val).cfg.silkEn = true ∧ (s.port
    p.val).inSilk = true ∧ (s.port p.val).silk.contention = false ∧ s.dev.mode ≠ .sleep :=
  ⟨onPort { port0 { act with rx := some {} } with cfg := { pc := ⟨1, 7, 0, 0, 0, 0, 0⟩ } }, 0, by decide, by decide, by
    decide, by decide⟩

theorem witness_port_states_and_detections_11 : ∃ (s : State) (p : Port), (s.port p.val).cfg.silkEn = false ∨ (s.port
    p.val).inSilk = false :=
  ⟨onStat { act with rx := some rx0 }, 0, by decide⟩

theorem witness_port_states_and_detections_12 : ∃ (s : State) (p : Port), (s.port p.val).enabled = true ∧ (s.port
    p.val).mis.stuckArmed = true :=
  ⟨onStat { act with phase := 1 }, 0, by decide, by decide⟩

theorem witness_port_states_and_detections_13 : ∃ (s : State) (p : Port), (s.port p.val).mis.stuckArmed = false :=
  ⟨onPort { port0 act with mis := { stuckArmed := false } }, 0, by decide⟩

theorem witness_error_table_1 : ∃ (e : BusError), (e.place = .plain ∨ e.place = .peRefusal ∨ e.place = .xlNoErrsig ∨ e.place
    = .payload ∨ e.place = .afterAck) :=
  ⟨⟨.form, .nominal, .plain, false, none, false⟩, by decide⟩

theorem witness_error_table_2 : ∃ (e : BusError), (e.place = .inFlag ∨ e.place = .dominantRun) :=
  ⟨⟨.bit, .flag, .inFlag, false, none, false⟩, by decide⟩

theorem witness_error_table_3 : ∃ (e : BusError), e.place = .firstAfterFlag :=
  ⟨⟨.dominant, .flag, .firstAfterFlag, false, none, false⟩, by decide⟩

theorem witness_error_table_4 : ∃ (e : BusError), e.place = .ackNoDominant ∧ e.kind = .ack :=
  ⟨⟨.ack, .nominal, .ackNoDominant, false, none, false⟩, by decide, by decide⟩

theorem witness_error_table_5 : ∃ (e : BusError), e.place = .arbStuff ∧ e.kind = .stuff :=
  ⟨⟨.stuff, .nominal, .arbStuff, false, none, false⟩, by decide, by decide⟩

theorem witness_error_detected_1 : ∃ (s : State) (p : Port) (e : BusError), (s.port p.val).stat.state = .active ∧ (s.port
    p.val).err.errState < 2 ∧ ((s.port p.val).stat.rx.isSome = true ∨ (s.port p.val).stat.tx.isSome = true) ∧ (e.place =
    .afterAck → (s.port p.val).isSender = true) ∧ (s.port p.val).selfAcked ((s.port p.val).placed e) = false :=
  ⟨onStat { act with rx := some rx0 }, 0, { kind := .form, phase := .nominal, place := .plain, memory := false }, by decide,
    by decide, by decide, by decide, by decide⟩

theorem witness_error_detected_2 : ∃ (s : State) (p : Port) (e : BusError), (s.port p.val).stat.state = .active ∧ (s.port
    p.val).err.errState < 2 ∧ (s.port p.val).stat.rx.isSome = true ∧ (s.port p.val).isSender = false ∧ e.place = .afterAck :=
  ⟨onStat { act with rx := some rx0 }, 0, ⟨.form, .nominal, .afterAck, false, none, false⟩, by decide, by decide, by decide,
    by
    decide, by decide⟩

theorem witness_error_detected_3 : ∃ (s : State) (p : Port), (s.port p.val).stat.state = .gauze ∧ (s.port
    p.val).stat.rx.isSome = true ∧ (s.port p.val).stat.tx = none :=
  ⟨onStat { state := .gauze, rx := some rx0 }, 0, by decide, by decide, by decide⟩

theorem witness_error_detected_4 : ∃ (s : State) (p : Port) (e : BusError) (x : TxFrame), (s.port p.val).stat.state = .gauze
    ∧ (s.port p.val).stat.tx = some x ∧ (s.port p.val).selfAcked ((s.port p.val).placed e) = false :=
  ⟨onStat { state := .gauze, tx := some tx0 }, 0, { kind := .form, phase := .nominal, place := .plain, memory := false },
    tx0, by decide, by decide, by decide⟩

theorem witness_error_detected_5 : ∃ (s : State) (p : Port) (e : BusError), (s.port p.val).selfAcked ((s.port p.val).placed
    e) = true :=
  ⟨onPort { port0 { act with tx := some tx0 } with cfg := { pc := ⟨0x11, 0, 0, 0, 0, 0, 0⟩ } }, 0,
    { kind := .ack, phase := .nominal, place := .ackNoDominant, memory := false }, by decide⟩

theorem witness_error_detected_6 : ∃ (v : PortS) (e : BusError), e.place = .xlNoErrsig ∧ v.cfg.errsig = true :=
  ⟨{ PortS.init 0 with cfg := { pc := ⟨1, 8, 0, 0, 0, 0, 0⟩ } },
    { kind := .form, phase := .data, place := .xlNoErrsig, memory := false }, by decide, by decide⟩

theorem witness_error_detected_7 : ∃ (v : PortS) (e : BusError), v.fmtNow = some .xl ∧ e.phase = .data ∧ e.place = .payload
    ∧ v.cfg.errsig = false :=
  ⟨port0 { act with tx := some { tx0 with frame := { fr with fmt := .xl } } },
    { kind := .bit, phase := .data, place := .payload, memory := false }, by decide, by decide, by decide, by decide⟩

theorem witness_error_detected_8 : ∃ (s : State) (p : Port), (s.port p.val).stat.state ≠ .active ∧ (s.port p.val).stat.state
    ≠ .gauze :=
  ⟨onStat { state := .busOff }, 0, by decide, by decide⟩

theorem witness_bus_off_1 : ∃ (s : State) (p : Port), 255 < (s.port p.val).err.tec ∧ (s.port p.val).err.errState ≠ 2 ∧
    (s.port p.val).stat.state = .active ∧ s.dev.mode ≠ .sleep ∧ s.run.buckram = true ∧ s.rcd.scanned = true :=
  ⟨onPort { port0 act with err := { tec := 256, errState := 1 } }, 0, by decide, by decide, by decide, by decide, by decide,
    by decide⟩

theorem witness_bus_off_2 : ∃ (s : State) (p : Port), (s.port p.val).stat.state = .busOff ∧ bits (s.port
    p.val).cfg.recPolicy 1 0 = 1 :=
  ⟨onPort { port0 { state := .busOff } with cfg := { recPolicy := 1 } }, 0, by decide, by decide⟩

theorem witness_bus_off_3 : ∃ (s : State) (p : Port), (s.port p.val).stat.state = .recovering ∧ s.pllLocked p.val = true :=
  ⟨onStat { state := .recovering }, 0, by decide, by decide⟩

theorem witness_bus_off_4 : ∃ (s : State) (p : Port), (s.port p.val).stat.state = .recovering ∧ (s.port p.val).err.recovSeq
    = 128 ∧ s.dev.mode ≠ .sleep :=
  ⟨onPort { port0 { state := .recovering } with err := { recovSeq := 128, errState := 2 } }, 0, by decide, by decide, by
    decide⟩

theorem witness_bus_off_5 : ∃ (s : State) (p : Port), (s.port p.val).stat.state = .recovering ∧ (s.port p.val).err.recovSeq
    < 128 :=
  ⟨onPort { port0 { state := .recovering } with err := { recovSeq := 127, errState := 2 } }, 0, by decide, by decide⟩

theorem witness_arbiter_1 : ∃ (s : State) (p : Port), s.maySend p.val = true ∧ (s.port p.val).stat.rx = none ∧ (s.port
    p.val).stat.busIdle = false ∧ (s.port p.val).fence.due = true :=
  ⟨onPort { port0 act with fence := { due := true } }, 0, by decide, by decide, by decide, by decide⟩

theorem witness_arbiter_2 : ∃ (s : State) (p : Port), s.maySend p.val = true ∧ (s.port p.val).stat.rx = none ∧ (s.port
    p.val).stat.busIdle = false ∧ (s.port p.val).fence.due = false ∧ (s.port p.val).cfg.guardMax ≤ (s.port
    p.val).tx.sentInWin :=
  ⟨onStat act, 0, by decide, by decide, by decide, by decide, by decide⟩

theorem witness_arbiter_3 : ∃ (s : State) (p : Port), s.maySend p.val = false :=
  ⟨onStat { state := .busOff }, 0, by decide⟩

theorem witness_arbiter_4 : ∃ (s : State) (p : Port), s.maySend p.val = true ∧ (s.port p.val).mis.suspend = false ∧ (s.port
    p.val).stat.rx = none ∧ (s.port p.val).tx.staged = some .fence ∧ (s.port p.val).fence.due = true :=
  ⟨onPort { port0 act with fence := { due := true }, tx := { staged := some .fence } }, 0, by decide, by decide, by decide,
    by decide, by decide⟩

theorem witness_arbiter_5 : ∃ (s : State) (p : Port) (o : Nat), s.maySend p.val = true ∧ (s.port p.val).mis.suspend = false
    ∧ (s.port p.val).stat.rx = none ∧ (s.port p.val).tx.staged = some (.obj o) ∧ s.objReady p.val o = true :=
  ⟨{ onObj { sendObj with req := { latched := true, copied := true }, tx := { media := [0], offered := [0], slot := [0] } } with ports := [(0, { port0 act with tx := { staged := some (.obj 0) } })] }, 0, 0, by decide, by decide, by decide, by decide, by decide⟩

theorem witness_arbiter_6 : ∃ (s : State) (p : Port), s.maySend p.val = false :=
  ⟨onStat { state := .busOff }, 0, by decide⟩

theorem witness_attempt_ends_1 : ∃ (s : State) (p : Port) (x : TxFrame), (s.port p.val).stat.tx = some x :=
  ⟨onStat { act with tx := some tx0 }, 0, tx0, by decide⟩

theorem witness_attempt_ends_2 : ∃ (s : State) (p : Port) (x : TxFrame), (s.port p.val).stat.tx = some x ∧ (s.port
    p.val).silk.contention = false :=
  ⟨onStat { act with tx := some tx0 }, 0, tx0, by decide, by decide⟩

theorem witness_attempt_ends_4 : ∃ (s : State) (p : Port) (o : Nat), s.colliding p.val = some o ∧ s.dev.mode ≠ .sleep :=
  ⟨onObj { sendObj with req := { latched := true, collRun := 16 } }, 0, 0, by decide, by decide⟩

theorem witness_silk_calibration_1 : ∃ (s : State) (p : Port), (s.port p.val).silk.trimming = true ∧ (s.port p.val).inFrame
    = false ∧ s.dev.mode ≠ .sleep :=
  ⟨onPort { port0 { state := .integrating } with silk := { trimming := true } }, 0, by decide, by decide, by decide⟩

theorem witness_silk_calibration_2 : ∃ (s : State) (p : Port) (x : TxFrame), (s.port p.val).silk.cal = .sending ∧ (s.port
    p.val).stat.tx = some x ∧ x.src = .calibration ∧ s.dev.mode ≠ .sleep :=
  ⟨onPort { port0 { act with tx := some { tx0 with src := .calibration } } with silk := { cal := .sending } }, 0,
    { tx0 with src := .calibration }, by decide, by decide, by decide, by decide⟩

theorem witness_host_window_1 : ∃ (s : State) (h : HostId) (off : BitVec 26) (bs : List (Option Byte)), (s.host h).held = []
    ∧ s.mem.ready = true ∧ s.memOk = true ∧ s.mem.bad = [] ∧ (s.obj (off.toNat / 0x1000)).en = true ∧ (s.obj (off.toNat /
    0x1000)).send = true ∧ 0x40 ≤ off.toNat % 0x1000 ∧ off.toNat % 0x1000 + bs.length ≤ 0x1000 ∧ off.toNat % 0x1000 +
    bs.length ≤ 0x40 + (s.obj (off.toNat / 0x1000)).capacity :=
  ⟨onObj sendObj, .a, 0x40, [some 1, none, some 2], by decide, by decide, by decide, by decide, by decide, by decide, by
    decide, by decide, by decide⟩

theorem witness_host_window_2 : ∃ (s : State) (h : HostId) (off : BitVec 26), (s.host h).held = [] ∧ s.mem.ready = true ∧
    ((s.obj (off.toNat / 0x1000)).en = false ∨ (s.obj (off.toNat / 0x1000)).send = false) ∧ 0x28 ≤ off.toNat % 0x1000 :=
  ⟨base, .a, 0x28, by decide, by decide, by decide, by decide⟩

theorem witness_host_window_3 : ∃ (s : State) (h : HostId), (s.mem.ready = false ∨ (s.host h).writesHeld = true) :=
  ⟨{ base with mem := {} }, .a, by decide⟩

theorem witness_host_window_4 : ∃ (s : State) (h : HostId), s.mem.ready = true ∧ (s.host h).writesHeld = false ∧ s.mem.bad =
    [] :=
  ⟨base, .a, by decide, by decide, by decide⟩

theorem witness_host_window_5 : ∃ (s : State) (h : HostId), (s.mem.ready = false ∨ (s.host h).writesHeld = true) :=
  ⟨onHost { held := [.bar0 0 15 0] }, .a, by decide⟩

theorem witness_host_window_6 : ∃ (s : State) (o i : Nat), (s.obj o).en = true ∧ i < (s.obj o).capacity :=
  ⟨onObj sendObj, 0, 1023, by decide, by decide⟩

theorem witness_object_commands_1 : ∃ (s : State) (h : HostId) (o : BitVec 14), (s.host h).held = [] ∧ s.mem.ready = true ∧
    s.mem.waits o.toNat = false :=
  ⟨base, .a, 16383, by decide, by decide, by decide⟩

theorem witness_object_commands_2 : ∃ (s : State) (h : HostId) (o : BitVec 14), (s.host h).held = [] ∧ s.mem.ready = true ∧
    s.mem.waits o.toNat = false :=
  ⟨base, .a, 16383, by decide, by decide, by decide⟩

theorem witness_object_commands_3 : ∃ (s : State) (o : BitVec 14), s.mem.waits o.toNat = false :=
  ⟨base, 0, by decide⟩

theorem witness_object_commands_4 : ∃ (s : State) (h : HostId) (o : BitVec 14) (n : BitVec 12), (s.host h).held = [] ∧
    s.mem.ready = true ∧ s.mem.waits o.toNat = false ∧ (s.obj o.toNat).en = true ∧ (s.obj o.toNat).send = true ∧ (s.obj
    o.toNat).faulted = false ∧ (s.obj o.toNat).discard = false ∧ s.dev.mode = .grid ∧ s.live h = true ∧ n.toNat ≤ (s.obj
    o.toNat).capacity ∧ validLen (s.obj o.toNat).fmt n.toNat = true :=
  ⟨{ onObj sendObj with hosts := ⟨{ state := .live }, {}⟩ }, .a, 0, 8, by decide, by decide, by decide, by decide, by
    decide, by decide, by decide, by decide, by decide, by decide, by decide⟩

theorem witness_object_commands_5 : ∃ (s : State) (h : HostId) (o : BitVec 14) (n : BitVec 12), (s.host h).held = [] ∧
    s.mem.ready = true ∧ s.mem.waits o.toNat = false ∧ (s.obj o.toNat).en = true ∧ (s.obj o.toNat).send = true ∧ ((s.obj
    o.toNat).capacity < n.toNat ∨ s.dev.mode = .hold) :=
  ⟨onObj sendObj, .a, 0, 1025, by decide, by decide, by decide, by decide, by decide, by decide⟩

theorem witness_object_commands_6 : ∃ (s : State) (h : HostId) (o : BitVec 14), (s.host h).held = [] ∧ s.mem.ready = true ∧
    s.mem.waits o.toNat = false ∧ (s.obj o.toNat).send = false :=
  ⟨base, .a, 0, by decide, by decide, by decide, by decide⟩

theorem witness_object_commands_7 : ∃ (s : State) (h : HostId) (o : BitVec 14), (s.host h).held = [] ∧ s.mem.ready = true ∧
    s.mem.waits o.toNat = false ∧ (s.obj o.toNat).req.pend.get h = true ∧ (s.obj o.toNat).req.pend.get h.peer = false ∧
    (s.obj o.toNat).req.latched = false :=
  ⟨onObj { sendObj with req := { pend := ⟨true, false⟩ } }, .a, 0, by decide, by decide, by decide, by decide, by decide, by
    decide⟩

theorem witness_memory_background_1 : ∃ (s : State), s.mem.ready = false ∧ s.run.domains.contains 8 = true ∧ (∀ h, (s.host
    h).held = []) :=
  ⟨{ base with mem := {} }, by decide, by decide, (fun h => by cases h <;> rfl)⟩

theorem witness_memory_background_2 : ∃ (s : State), s.run.domains.contains 8 = false :=
  ⟨State.reset, by decide⟩

theorem witness_memory_background_3 : ∃ (s : State), s.memOk = true :=
  ⟨State.reset, by decide⟩

theorem witness_memory_background_4 : ∃ (s : State) (o : BitVec 14), (s.obj o.toNat).req.latched = true :=
  ⟨onObj { sendObj with req := { latched := true } }, 0, by decide⟩

theorem witness_receive_update_1 : ∃ (s : State) (p : Port) (f : Frame) (rx : RxFrame) (r o : Nat), (s.port p.val).stat.rx =
    some rx ∧ (s.port p.val).mayBeValid rx f = true ∧ rx.result = some r ∧ resKind r = 1 ∧ (s.copyFor rx.ownWin).pairOf
    p.val = none ∧ (s.copyFor rx.sofWin).pairOf p.val = none ∧ s.mem.waits o = false ∧ o = resObject (s.filterCopy p.val
    rx.sofWin).2 r ∧ s.updatable o p.val = true ∧ s.slotOf o = none ∧ s.memOk = true ∧ s.mem.bad = [] ∧ f.rtr = false :=
  ⟨{ onObj { cfg := 0x80000000#32, granCount := 1 } with ports := [(0, port0 { act with rx := some { rx0 with result := some 0x4000 } })] }, 0, fr, { rx0 with result := some 0x4000 }, 0x4000, 0, by decide, by decide, by decide, by decide, by decide, by decide, by decide, by decide, by decide, by decide, by decide, by decide, by decide⟩

theorem witness_clock_and_tracker_1 : ∃ (s : State), s.pending = [] ∧ s.run.domains.contains 3 = true ∧ s.dev.mode ≠ .sleep
    ∧ s.clk.slewing = false ∧ s.clk.plantFrac < 200 :=
  ⟨base, by decide, by decide, by decide, by decide, by decide⟩

theorem witness_clock_and_tracker_2 : ∃ (s : State) (h : HostId), (s.host h).writesHeld = true :=
  ⟨onHost { held := [.bar0 0 15 0] }, .a, by decide⟩

theorem witness_clock_and_tracker_3 : ∃ (s : State) (h : HostId), (s.host h).writesHeld = false :=
  ⟨base, .a, by decide⟩

theorem witness_clock_and_tracker_4 : ∃ (s : State), s.clk.slewing = true ∧ s.clk.slew = 0 :=
  ⟨{ base with clk := { slewing := true } }, by decide, by decide⟩

theorem witness_clock_and_tracker_5 : ∃ (s : State), s.clk.slew ≠ 0 :=
  ⟨{ base with clk := { slew := 1, slewing := true } }, by decide⟩

theorem witness_clock_and_tracker_6 : ∃ (s : State), srcKind s.trk.cfg.src = 1 ∧ s.trk.state = .locked ∧ s.trk.tick = none ∧
    s.run.domains.contains 3 = true ∧ s.now < s.trk.start + s.trk.len / 2 :=
  ⟨{ base with trk := { cfg := { src := 0x03004011#32 }, state := .locked } }, by decide, by decide, by decide, by decide,
    by decide⟩

theorem witness_clock_and_tracker_7 : ∃ (s : State) (x : Int), srcKind s.trk.cfg.src = 1 ∧ s.trk.state ≠ .free ∧ s.trk.tick
    = some x ∧ s.run.domains.contains 3 = true ∧ s.now < s.trk.start + s.trk.len / 2 :=
  ⟨{ base with trk := { cfg := { src := 0x03004011#32 }, state := .locked, tick := some 0 } }, 0, by decide, by decide, by
    decide, by decide, by decide⟩

theorem witness_clock_and_tracker_8 : ∃ (s : State), srcKind s.trk.cfg.src = 0 :=
  ⟨base, by decide⟩

theorem witness_clock_and_tracker_9 : ∃ (s : State), s.trk2.startDue = false ∧ s.run.domains.contains 3 = true :=
  ⟨base, by decide, by decide⟩

theorem witness_clock_and_tracker_10 : ∃ (s : State), s.trk.state = .locked ∧ s.trk.tick = none ∧ s.trk2.judged = false ∧ 1
    < srcHold s.trk.cfg.src :=
  ⟨{ base with trk := { state := .locked } }, by decide, by decide, by decide, by decide⟩

theorem witness_clock_and_tracker_11 : ∃ (s : State), s.trk.state = .holdover ∧ s.trk.tick = none ∧ s.trk2.judged = false ∧
    s.trk.srcLost = false ∧ s.trk.missing + 1 = srcHold s.trk.cfg.src ∧ s.trk.missing < 255 :=
  ⟨{ base with trk := { state := .holdover, missing := 2 } }, by decide, by decide, by decide, by decide, by decide, by
    decide⟩

theorem witness_window_boundary_1 : ∃ (s : State), s.boundaryDue = true ∧ s.dev.mode ≠ .sleep ∧ s.cmds.committed = false ∧
    (s.dev.mode = .grid ∨ s.dev.mode = .direct ∨ s.dev.mode = .dense ∨ s.dev.mode = .tweed) :=
  ⟨{ base with trk2 := { startDue := true } }, by decide, by decide, by decide, by decide⟩

theorem witness_window_boundary_2 : ∃ (s : State), s.boundaryDue = true ∧ s.dev.mode = .sleep :=
  ⟨{ inMode .sleep with trk2 := { startDue := true } }, by decide, by decide⟩

theorem witness_window_boundary_3 : ∃ (s : State), s.boundaryDue = false :=
  ⟨base, by decide⟩

theorem witness_fence_payload_1 : ∃ (w : Nat), w < 64 :=
  ⟨63, by decide⟩

theorem witness_fence_payload_2 : ∃ (w : Nat), w < 64 :=
  ⟨63, by decide⟩

theorem witness_fence_payload_3 : ∃ (s : State) (p : Port), s.maySend p.val = true ∧ (s.port p.val).mis.suspend = false ∧
    (s.port p.val).stat.rx = none ∧ (s.port p.val).tx.staged = some .fence ∧ (s.port p.val).fence.due = true :=
  ⟨onPort { port0 act with fence := { due := true }, tx := { staged := some .fence } }, 0, by decide, by decide, by decide,
    by decide, by decide⟩

theorem witness_fences_and_roles_1 : ∃ (s : State) (p : Port) (f : Frame) (rx : RxFrame), (s.port p.val).stat.state =
    .active ∧ (s.port p.val).stat.rx = some rx ∧ isFence (s.port p.val).cfg.fenceCfg s.trk.cfg.winCount f = true ∧
    (fenceSays f.data).cycle = (s.windowAfter (s.port p.val).fence).1.toNat % 2 ^ 24 ∧ (fenceSays f.data).win =
    (s.windowAfter (s.port p.val).fence).2 ∧ s.pastMidpoint (s.port p.val).fence = true :=
  ⟨{ onStat { act with rx := some rx0 } with trk := { cycle := 1 } }, 0, { fr with data := fencePayload false false 2 0 0 },
    rx0, by decide, by decide, by decide, by decide, by decide, by decide⟩

theorem witness_fences_and_roles_2 : ∃ (s : State) (p : Port) (f : Frame) (rx : RxFrame), (s.port p.val).stat.state =
    .active ∧ (s.port p.val).stat.rx = some rx ∧ isFence (s.port p.val).cfg.fenceCfg s.trk.cfg.winCount f = true ∧
    (fenceSays f.data).cycle = (s.port p.val).fence.cyc.toNat % 2 ^ 24 ∧ (fenceSays f.data).win = (s.port p.val).fence.win ∧
    (fenceSays f.data).win ≠ (s.windowAfter (s.port p.val).fence).2 :=
  ⟨{ onPort { port0 { act with rx := some rx0 } with fence := { n := 1 } } with trk := { cfg := { winCount := 2, starts := [32768] } } }, 0, { fr with data := fencePayload false false 0 0 0 }, rx0, by decide, by decide, by decide, by decide, by decide, by decide⟩

theorem witness_fences_and_roles_3 : ∃ (s : State) (p : Port), (s.port p.val).enabled = true ∧ (s.port p.val).stat.state ≠
    .busOff ∧ (s.port p.val).stat.state ≠ .recovering ∧ (s.port p.val).rangeFrame = false ∧ s.dev.mode ≠ .sleep :=
  ⟨onStat act, 0, by decide, by decide, by decide, by decide, by decide⟩

theorem witness_fences_and_roles_4 : ∃ (s : State) (p : Port), (s.port p.val).enabled = true ∧ (s.port p.val).stat.state ≠
    .busOff ∧ (s.port p.val).stat.state ≠ .recovering ∧ (s.port p.val).rangeFrame = true :=
  ⟨onPort { port0 { act with tx := some { tx0 with src := .fence, frame := { fr with id := 7 } } } with cfg := {} }, 0, by
    decide, by decide, by decide, by decide⟩

theorem witness_fences_and_roles_5 : ∃ (s : State) (p : Port), (s.port p.val).fence.role = .standby ∧ (s.port p.val).fence.n
    < s.dlv.cur ∧ s.dev.mode.sendsFences = true :=
  ⟨{ onPort { port0 act with fence := { role := .standby } } with dlv := { cur := 1 } }, 0, by decide, by decide, by decide⟩

theorem witness_fences_and_roles_6 : ∃ (s : State) (p : Port), s.dlv.cur ≤ (s.port p.val).fence.n :=
  ⟨onStat act, 0, by decide⟩

theorem witness_fences_and_roles_7 : ∃ (s : State) (p : Port), 64 ≤ (s.port p.val).fence.sinceHigher :=
  ⟨onPort { port0 act with fence := { higherSeen := true, sinceHigher := 64 } }, 0, by decide⟩

theorem witness_fences_and_roles_8 : ∃ (v : PortS) (r : Nat), fenceMode v.cfg.fenceCfg = 2 ∧ r < fenceRank v.cfg.fenceCfg :=
  ⟨{ port0 act with cfg := { fenceCfg := 0x90000320#32 } }, 1, by decide, by decide⟩

theorem witness_delivery_1 : ∃ (s : State) (x : WinDlv) (rest : List WinDlv), s.sweepWins.dlv.wins = x :: rest ∧ x.tClosed =
    true ∧ x.started = true ∧ s.dlv.batches = [] ∧ (s.host .a).dring.en = true ∧ (s.host .b).dring.en = false ∧ (s.host
    .a).pcie.dma = true ∧ (s.host .a).dring.padNow + (s.batchOf x).span ≤ (s.host .a).dring.free :=
  ⟨{ onHost { pcie := dmaOn, dring := { en := true, sizeLog := 16 } } with dlv := { wins := [{ n := 0, started := true, cycle := 0, win := 0, dlv := .batch, first := true, cfg := false, di := 0, tClosed := true }] } }, { n := 0, started := true, cycle := 0, win := 0, dlv := .batch, first := true, cfg := false, di := 0, tClosed := true }, [], by decide, by decide, by decide, by decide, by decide, by decide, by decide, by decide⟩

theorem witness_delivery_2 : ∃ (s : State) (x : WinDlv) (rest : List WinDlv), s.sweepWins.dlv.wins = x :: rest ∧ x.tClosed =
    false :=
  ⟨{ base with dlv := { wins := [{ n := 0, started := true, cycle := 0, win := 0, dlv := .batch, first := true, cfg := false, di := 0 }] } }, { n := 0, started := true, cycle := 0, win := 0, dlv := .batch, first := true, cfg := false, di := 0 }, [], by decide, by decide⟩

theorem witness_delivery_3 : ∃ (s : State) (h : HostId) (b : Batch), s.nextBatch h = some b ∧ b.started.get h = true ∧
    (s.host h).pcie.dma = true ∧ s.mem.bad = [] ∧ b.oldRing.get h = none ∧ s.dev.mode ≠ .sleep :=
  ⟨{ onHost { pcie := dmaOn, dring := { en := true, sizeLog := 16 } } with dlv := { batches := [batch0] } }, .a, batch0, by
    decide, by decide, by decide, by decide, by decide, by decide⟩

theorem witness_delivery_4 : ∃ (s : State) (h : HostId) (v : Word), s.WritesNow h ∧ (s.host h).dring.en = true ∧ v.toNat %
    64 = 0 ∧ (v - (s.host h).dring.cons).toNat ≤ (s.host h).dring.used :=
  ⟨onHost { dring := { en := true, sizeLog := 16, prod := 128 } }, .a, 128, ⟨by decide, by decide⟩, by decide, by decide, by
    decide⟩

theorem witness_delivery_5 : ∃ (s : State) (h : HostId) (v : Word), s.WritesNow h ∧ (s.host h).dring.en = true ∧ v.toNat %
    64 ≠ 0 :=
  ⟨onHost { dring := { en := true, sizeLog := 16, prod := 128 } }, .a, 65, ⟨by decide, by decide⟩, by decide, by decide⟩

theorem witness_delivery_6 : ∃ (s : State) (h : HostId) (e : DEntry), s.copyingTo h = false ∧ (s.dlv.direct.find? fun e =>
    e.waits.get h) = some e ∧ s.mem.bad = [] ∧ (s.host h).pcie.dma = true ∧ (s.host h).dring.en = true ∧ e.bytes.length ≤
    (s.host h).dring.free :=
  ⟨{ onHost { pcie := dmaOn, dring := { en := true, sizeLog := 16 } } with dlv := { direct := [dent0] } }, .a, dent0, by
    decide, by decide, by decide, by decide, by decide, by decide +kernel⟩

theorem witness_delivery_7 : ∃ (s : State) (h : HostId) (e : DEntry), s.copyingTo h = false ∧ (s.dlv.direct.find? fun e =>
    e.waits.get h) = some e ∧ s.mem.bad = [] ∧ (s.host h).dring.free < e.bytes.length :=
  ⟨{ onHost { pcie := dmaOn, dring := { en := true, sizeLog := 16, prod := 65536 } } with dlv := { direct := [dent0] } },
    .a, dent0, by decide, by decide, by decide, by decide +kernel⟩

theorem witness_delivery_8 : ∃ (s : State) (h : HostId), (s.copyingTo h = true ∨ (s.dlv.direct.find? fun e => e.waits.get h)
    = none) :=
  ⟨{ base with dlv := { batches := [batch0] } }, .a, by decide⟩

theorem witness_gateway_1 : ∃ (s : State) (p : Port) (x : RxFrame) (xs : List RxFrame) (f out : Frame) (r : Nat), (s.port
    p.val).tx.toRoute = x :: xs ∧ x.frame = some f ∧ x.routes = [r] ∧ copyBefore x.sofWin s.copiesPrev = none ∧ s.mem.bad =
    [] ∧ convert (s.route r).entry (s.route r).ext f = .ok out ∧ (s.port (s.route r).dst).enabled = true ∧ (s.route
    r).queue.length < 16 ∧ s.fits (s.route r).dst (cellsOf f.data.length) = true :=
  ⟨{ base with ports := [(0, { port0 act with tx := { toRoute := [rxRouted] } }), (1, { PortS.init 1 with stat := act, cfg := { quota := 1 } })], routes := [(0, { entry := 0x8000001000000000#64 })] }, 0, rxRouted, [], fr, fr, 0, by decide, by decide, by decide, by decide, by decide, rfl, by decide, by decide, by decide⟩

theorem witness_gateway_2 : ∃ (s : State) (p : Port) (x : RxFrame) (xs : List RxFrame) (f out : Frame) (r : Nat), (s.port
    p.val).tx.toRoute = x :: xs ∧ x.frame = some f ∧ x.routes = [r] ∧ copyBefore x.sofWin s.copiesPrev = none ∧ s.mem.bad =
    [] ∧ convert (s.route r).entry (s.route r).ext f = .ok out ∧ (s.port (s.route r).dst).enabled = false :=
  ⟨{ base with ports := [(0, { port0 act with tx := { toRoute := [rxRouted] } })], routes := [(0, { entry := 0x8000001000000000#64 })] }, 0, rxRouted, [], fr, fr, 0, by decide, by decide, by decide, by decide, by decide, rfl, by decide⟩

theorem witness_gateway_3 : ∃ (e : BitVec 64) (x : Word) (f out : Frame), convert e x f = .ok out :=
  ⟨0x8000001000000000#64, 0, fr, fr, rfl⟩

theorem witness_gateway_4 : ∃ (s : State) (k : Fin 32) (c : FirstCopy) (cs : List FirstCopy), (s.pairs.get {} k.val).first =
    c :: cs :=
  ⟨{ base with pairs := [(31, { first := [⟨0, fr, 0⟩] })] }, 31, ⟨0, fr, 0⟩, [], by decide⟩

theorem witness_gateway_5 : ∃ (s : State) (o : BitVec 14), s.dev.mode = .dense ∧ (s.obj o.toNat).req.latched = true ∧ (s.obj
    o.toNat).releaseEn = true :=
  ⟨{ inMode .dense with objs := [(0, { sendObj with sched := 0x8000#32, req := { latched := true } })] }, 0, by decide, by
    decide, by decide⟩

theorem witness_refused_commands_1 : ∃ (i : Instr) (k : Packet) (s : State), i.packet = some k ∧ (s.mayTake k = false ∨
    s.waitsBefore k = true) :=
  ⟨.seqQuery (head 0xFFFF), Head.packet (head 0xFFFF) .seqQuery, State.reset, rfl, by decide⟩

theorem witness_refused_commands_2 : ∃ (i : Instr) (k : Packet) (s : State), i.packet = some k ∧ s.mayTake k = true ∧
    s.waitsBefore k = false ∧ k.bad = 0x0101 :=
  ⟨.objConfigN { head 0xFFFF with path := .fifo } ew0 (List.replicate 9 o0), Head.packet { head 0xFFFF with path := .fifo }
    (.objConfigN ew0 (List.replicate 9 o0)), base, rfl, by decide +kernel, by decide +kernel, by decide +kernel⟩

theorem witness_refused_commands_3 : ∃ (i : Instr) (k : Packet) (s : State), i.packet = some k ∧ s.mayTake k = true ∧
    s.waitsBefore k = false ∧ k.bad = 0 ∧ tooLongResult k = false ∧ (k.stream = .hostA ∨ k.stream = .hostB) ∧ 32 ≤ (s.stream
    k.stream).credits :=
  ⟨.seqQuery (head 0xFFFF), Head.packet (head 0xFFFF) .seqQuery,
    { base with cmds := { streams := [(0, { credits := 32 })] } }, rfl, by decide, by decide, by decide, by decide, by
    decide, by decide⟩

theorem witness_refused_commands_4 : ∃ (i : Instr) (k : Packet) (s : State), i.packet = some k ∧ s.Reaches k ∧ s.InTurn k ∧
    s.classNow k.opcode ≠ .query ∧ (s.takeTest k (s.classNow k.opcode)).status ≠ 0 :=
  ⟨.devReset (head 0xFFFF) 0, Head.packet (head 0xFFFF) (.devReset 0), base, rfl, ⟨by decide, by decide, by decide, by
    decide, by decide⟩, ⟨by decide, by decide, by decide⟩, by decide, by decide⟩

theorem witness_queries_1 : ∃ (i : Instr) (k : Packet) (s : State), i.packet = some k ∧ s.Reaches k ∧ (s.classNow k.opcode =
    .query ∨ k.dry = true) ∧ (s.look k (s.classNow k.opcode)).status ≠ stHwFault :=
  ⟨.timeQuery (head 0xFFFF), Head.packet (head 0xFFFF) .timeQuery, base, rfl, ⟨by decide, by decide, by decide, by decide,
    by decide⟩, by decide, by decide⟩

theorem witness_queries_2 : ∃ (k : Packet) (p : Params) (s : State), k.params = some p ∧ s.classNow k.opcode = .query ∧
    (s.takeTest k .query).status = 0 ∧ (s.query k p).isSome = true :=
  ⟨Head.packet (head 0xFFFF) .timeQuery, .timeQuery, base, by decide, by decide, by decide, by decide⟩

theorem witness_queries_3 : ∃ (i : Instr) (k : Packet) (p : Params), i.packet = some k ∧ k.params ≠ none ∧ opClass k.opcode
    = some .query ∧ k.params = some p :=
  ⟨.timeQuery (head 0xFFFF), Head.packet (head 0xFFFF) .timeQuery, .timeQuery, rfl, by decide, by decide, by decide⟩

theorem witness_queries_4 : ∃ (i : Instr) (k : Packet) (s : State), i.packet = some k ∧ s.Reaches k ∧ (s.classNow k.opcode =
    .query ∨ k.dry = true) ∧ (s.look k (s.classNow k.opcode)).status = stHwFault :=
  ⟨.objRead (head 0) 0 0, Head.packet (head 0) (.objRead 0 0),
    { base with mem := { ready := true, bad := [(.message, 0)] } }, rfl, ⟨by decide, by decide, by decide, by decide, by
    decide⟩, by decide, by decide⟩

theorem witness_queries_7 : ∃ (s : State) (o off n : Nat), (s.objRead o off n).status = 0 :=
  ⟨onObj sendObj, 0, 0, 1024, by decide +kernel⟩

theorem witness_queries_11 : ∃ (s : State) (pa : Path) (p : Nat), (s.denseRead pa p).status = 0 :=
  ⟨base, .fifo, 0, by decide⟩

theorem witness_queries_14 : ∃ (s : State) (o n : Nat), (s.canvasRead o n).status = 0 :=
  ⟨{ base with canvas := { held := 1, header := zeros 64 } }, 64, 8, by decide⟩

theorem witness_queries_15 : ∃ (s : State), s.canvas.held = 0 :=
  ⟨base, by decide⟩

theorem witness_sequence_check_1 : ∃ (i : Instr) (k : Packet) (s : State) (c : Cls), i.packet = some k ∧ s.Reaches k ∧
    s.classNow k.opcode = c ∧ c ≠ .query ∧ k.dry = false ∧ s.keep.down = false ∧ (s.stream k.stream).nextSeq = some k.seq :=
  ⟨.recNonce (head 0xFFFF), Head.packet (head 0xFFFF) .recNonce,
    { base with cmds := { streams := [(0, { nextSeq := some 9 })] } }, .action, rfl, ⟨by decide, by decide, by decide, by
    decide, by decide⟩, by decide, by decide, by decide, by decide, by decide⟩

theorem witness_sequence_check_2 : ∃ (i : Instr) (k : Packet) (s : State) (n : Word) (e : JEntry), i.packet = some k ∧
    s.Reaches k ∧ s.classNow k.opcode ≠ .query ∧ k.dry = false ∧ s.keep.down = false ∧ (s.stream k.stream).nextSeq = some n
    ∧ 1 ≤ (n - k.seq).toNat ∧ (n - k.seq).toNat < 2 ^ 31 ∧ s.entryOf k.stream k.seq = some e ∧ e.opcode = k.opcode ∧
    e.target = k.target ∧ e.pcrc = crc32c k.bytes ∧ (∀ x, s.openCommand k.stream k.seq = some x → x.noReply = false) :=
  ⟨.recNonce (head 0xFFFF), Head.packet (head 0xFFFF) .recNonce,
    { base with cmds := { streams := [(0, { nextSeq := some 10 })] }, jnl := { ring := [(0, entNonce)], newest := some 0 } }, 10, entNonce, rfl, ⟨by decide, by decide, by decide, by decide, by decide⟩, by decide, by decide, by decide, by decide, by decide, by decide, by decide, by decide, by decide, by decide, fun _ h => by cases h⟩

theorem witness_sequence_check_3 : ∃ (i : Instr) (k : Packet) (s : State) (n : Word), i.packet = some k ∧ s.Reaches k ∧
    s.classNow k.opcode ≠ .query ∧ k.dry = false ∧ s.keep.down = false ∧ (s.stream k.stream).nextSeq = some n ∧ ((1 ≤ (n -
    k.seq).toNat ∧ (n - k.seq).toNat < 2 ^ 31 ∧ (s.entryOf k.stream k.seq = none ∨ ∃ e, s.entryOf k.stream k.seq = some e ∧
    (e.opcode ≠ k.opcode ∨ e.target ≠ k.target ∨ e.pcrc ≠ crc32c k.bytes))) ∨ 2 ^ 31 ≤ (n - k.seq).toNat) :=
  ⟨.recNonce (head 0xFFFF), Head.packet (head 0xFFFF) .recNonce,
    { base with cmds := { streams := [(0, { nextSeq := some 10 })] } }, 10, rfl, ⟨by decide, by decide, by decide, by
    decide, by decide⟩, by decide, by decide, by decide, by decide, Or.inl ⟨by decide, by decide, Or.inl (by decide)⟩⟩

theorem witness_configuration_scheduled_1 : ∃ (i : Instr) (k : Packet) (p : Params) (w : EW) (s : State), i.packet = some k
    ∧ s.Takes k p ∧ s.classNow k.opcode = .config ∧ Params.ew p = some w :=
  ⟨.modeSet (head 0xFFFF) { ew0 with cycle := 1 } 5, Head.packet (head 0xFFFF) (.modeSet { ew0 with cycle := 1 } 5),
    .modeSet { ew0 with cycle := 1 } 5, { ew0 with cycle := 1 }, inMode .config, rfl, ⟨⟨by decide, by decide, by decide, by
    decide, by decide⟩, ⟨by decide, by decide, by decide⟩, by decide, by decide⟩, by decide, by decide⟩

theorem witness_setting_actions_1 : ∃ (hd : Head) (n : BitVec 16) (k : Packet) (s : State), k = Head.packet hd (.hbPeriod n)
    ∧ s.Takes k (.hbPeriod n) :=
  ⟨head 0, 100, Head.packet (head 0) (.hbPeriod 100), inMode .config, rfl, ⟨⟨by decide, by decide, by decide, by decide, by
    decide⟩, ⟨by decide, by decide, by decide⟩, by decide, by decide⟩⟩

theorem witness_setting_actions_2 : ∃ (hd : Head) (f : BitVec 16) (ps : List Byte) (k : Packet) (s : State), k = Head.packet
    hd (.intPrioSet f ps) ∧ s.Takes k (.intPrioSet f ps) :=
  ⟨head 0xFFFF, 1, [3], Head.packet (head 0xFFFF) (.intPrioSet 1 [3]), inMode .config, rfl, ⟨⟨by decide, by decide, by
    decide, by decide, by decide⟩, ⟨by decide, by decide, by decide⟩, by decide, by decide⟩⟩

theorem witness_setting_actions_3 : ∃ (hd : Head) (m : BitVec 16) (k : Packet) (s : State), k = Head.packet hd (.intModSet
    m) ∧ s.Takes k (.intModSet m) :=
  ⟨head 0, 1, Head.packet (head 0) (.intModSet 1), inMode .config, rfl, ⟨⟨by decide, by decide, by decide, by decide, by
    decide⟩, ⟨by decide, by decide, by decide⟩, by decide, by decide⟩⟩

theorem witness_setting_actions_4 : ∃ (hd : Head) (h : HostId) (k : Packet) (s : State), k = Head.packet hd .ringRearm ∧
    hd.stream = hostStream h ∧ s.Takes k .ringRearm :=
  ⟨{ head 0xFFFF with path := .fifo }, .a, Head.packet { head 0xFFFF with path := .fifo } .ringRearm,
    { inMode .config with hosts := ⟨{ cring := { en := true, stopped := true } }, {}⟩ }, rfl, by decide, ⟨⟨by decide, by
    decide, by decide, by decide, by decide⟩, ⟨by decide, by decide, by decide⟩, by decide, by decide⟩⟩

theorem witness_setting_actions_5 : ∃ (hd : Head) (i : BitVec 16) (vs : List Word) (k : Packet) (s : State), k = Head.packet
    hd (.pregWrite i vs) ∧ s.Takes k (.pregWrite i vs) ∧ s.keep.jobsP = [] :=
  ⟨head 0xFFFF, 0x400, [1], Head.packet (head 0xFFFF) (.pregWrite 0x400 [1]), inMode .config, rfl, ⟨⟨by decide, by decide,
    by decide, by decide, by decide⟩, ⟨by decide, by decide, by decide⟩, by decide, by decide⟩, by decide⟩

theorem witness_setting_actions_6 : ∃ (hd : Head) (i : BitVec 16) (q r : Byte) (k : Packet) (s : State), k = Head.packet hd
    (.pwrLimits i q r) ∧ s.Takes k (.pwrLimits i q r) ∧ s.keep.jobsP = [] ∧ s.limitsOk i.toNat q.toNat = true :=
  ⟨head 0xFFFF, 500, 12, 3, Head.packet (head 0xFFFF) (.pwrLimits 500 12 3), inMode .config, rfl, ⟨⟨by decide, by decide, by
    decide, by decide, by decide⟩, ⟨by decide, by decide, by decide⟩, by decide, by decide⟩, by decide, by decide⟩

theorem witness_setting_actions_7 : ∃ (hd : Head) (i : BitVec 16) (q r : Byte) (k : Packet) (s : State), k = Head.packet hd
    (.pwrLimits i q r) ∧ s.Takes k (.pwrLimits i q r) ∧ s.limitsOk i.toNat q.toNat = false :=
  ⟨head 0xFFFF, 500, 12, 3, Head.packet (head 0xFFFF) (.pwrLimits 500 12 3),
    { inMode .config with keep := { regs := [(0x101, 0xF9904032#32)] } }, rfl, ⟨⟨by decide, by decide, by decide, by decide,
    by decide⟩, ⟨by decide, by decide, by decide⟩, by decide, by decide⟩, by decide⟩

theorem witness_device_and_recorder_actions_1 : ∃ (hd : Head) (key : Word) (k : Packet) (s : State), k = Head.packet hd
    (.devReset key) ∧ s.Takes k (.devReset key) :=
  ⟨head 0xFFFF, 0x5A423634, Head.packet (head 0xFFFF) (.devReset 0x5A423634), inMode .config, rfl, ⟨⟨by decide, by decide,
    by decide, by decide, by decide⟩, ⟨by decide, by decide, by decide⟩, by decide, by decide⟩⟩

theorem witness_device_and_recorder_actions_2 : ∃ (hd : Head) (w : Byte) (k : Packet) (s : State), k = Head.packet hd
    (.sleep w) ∧ s.Takes k (.sleep w) :=
  ⟨head 0xFFFF, 1, Head.packet (head 0xFFFF) (.sleep 1), inMode .config, rfl, ⟨⟨by decide, by decide, by decide, by decide,
    by decide⟩, ⟨by decide, by decide, by decide⟩, by decide, by decide⟩⟩

theorem witness_device_and_recorder_actions_3 : ∃ (hd : Head) (k : Packet) (s : State), k = Head.packet hd .recNonce ∧
    s.Takes k .recNonce :=
  ⟨head 0xFFFF, Head.packet (head 0xFFFF) .recNonce, inMode .config, rfl, ⟨⟨by decide, by decide, by decide, by decide, by
    decide⟩, ⟨by decide, by decide, by decide⟩, by decide, by decide⟩⟩

theorem witness_device_and_recorder_actions_4 : ∃ (hd : Head) (r : Word) (nonce : BitVec 64) (sg : List Byte) (k : Packet)
    (s : State), k = Head.packet hd (.recClear r nonce sg) ∧ s.Takes k (.recClear r nonce sg) ∧ (s.stream k.stream).nonce =
    some nonce ∧ s.rcd.newest = some r ∧ s.keep.jobsP = [] :=
  ⟨head 0xFFFF, 0, 7, zeros 64, Head.packet (head 0xFFFF) (.recClear 0 7 (zeros 64)),
    { inMode .config with cmds := { streams := [(0, { nonce := some 7 })] }, rcd := { newest := some 0, scanned := true } },
    rfl, ⟨⟨by decide, by decide, by decide, by decide, by decide⟩, ⟨by decide, by decide, by decide⟩, by decide, by decide⟩,
    by decide, by decide, by decide⟩

theorem witness_device_and_recorder_actions_5 : ∃ (hd : Head) (r : Word) (nonce : BitVec 64) (sg : List Byte) (k : Packet)
    (s : State), k = Head.packet hd (.recClear r nonce sg) ∧ s.Takes k (.recClear r nonce sg) ∧ ((s.stream k.stream).nonce ≠
    some nonce ∨ s.rcd.newest ≠ some r) :=
  ⟨head 0xFFFF, 0, 7, zeros 64, Head.packet (head 0xFFFF) (.recClear 0 7 (zeros 64)), inMode .config, rfl, ⟨⟨by decide, by
    decide, by decide, by decide, by decide⟩, ⟨by decide, by decide, by decide⟩, by decide, by decide⟩, by decide⟩

theorem witness_port_and_canvas_actions_1 : ∃ (hd : Head) (ew : EW) (k : Packet) (s : State), k = Head.packet hd
    (.portRecover ew) ∧ s.Takes k (.portRecover ew) ∧ s.gated = false :=
  ⟨head 0, ew00, Head.packet (head 0) (.portRecover ew00),
    { inMode .config with ports := [(0, port0 { state := .busOff })] }, rfl, ⟨⟨by decide, by decide, by decide, by decide,
    by decide⟩, ⟨by decide, by decide, by decide⟩, by decide, by decide⟩, by decide⟩

theorem witness_port_and_canvas_actions_2 : ∃ (hd : Head) (ew : EW) (k : Packet) (s : State), k = Head.packet hd
    (.portRelease ew) ∧ s.Takes k (.portRelease ew) ∧ s.gated = false :=
  ⟨head 0, ew00, Head.packet (head 0) (.portRelease ew00),
    { inMode .config with ports := [(0, { port0 { state := .gauze, causes := [2] } with err := { quarantined := true } })] }, rfl, ⟨⟨by decide, by decide, by decide, by decide, by decide⟩, ⟨by decide, by decide, by decide⟩, by decide, by decide⟩, by decide⟩

theorem witness_port_and_canvas_actions_3 : ∃ (hd : Head) (op : Byte) (e : Nat) (k : Packet) (s : State), k = Head.packet hd
    (.portRemap op) ∧ s.Takes k (.portRemap op) ∧ e = remapEngine k.target op.toNat ∧ s.remapStatus k.target op.toNat = 0 ∧
    ((s.port k.target).engine ≠ e ∨ (s.port k.target).stat.remap ≠ none) ∧ (s.port k.target).bindsAtOnce = false :=
  ⟨head 0, 1, 64, Head.packet (head 0) (.portRemap 1), { inMode .config with ports := [(0, port0 act)] }, rfl, ⟨⟨by decide,
    by decide, by decide, by decide, by decide⟩, ⟨by decide, by decide, by decide⟩, by decide, by decide⟩, by decide, by
    decide, by decide, by decide⟩

theorem witness_port_and_canvas_actions_4 : ∃ (hd : Head) (op : Byte) (e : Nat) (k : Packet) (s : State), k = Head.packet hd
    (.portRemap op) ∧ s.Takes k (.portRemap op) ∧ e = remapEngine k.target op.toNat ∧ s.remapStatus k.target op.toNat = 0 ∧
    ((s.port k.target).engine ≠ e ∨ (s.port k.target).stat.remap ≠ none) ∧ (s.port k.target).bindsAtOnce = true :=
  ⟨head 0, 1, 64, Head.packet (head 0) (.portRemap 1), inMode .config, rfl, ⟨⟨by decide, by decide, by decide, by decide, by
    decide⟩, ⟨by decide, by decide, by decide⟩, by decide, by decide⟩, by decide, by decide, by decide, by decide⟩

theorem witness_port_and_canvas_actions_5 : ∃ (hd : Head) (k : Packet) (s : State), k = Head.packet hd .fldRestore ∧ s.Takes
    k .fldRestore :=
  ⟨head 0xFFFF, Head.packet (head 0xFFFF) .fldRestore, inMode .config, rfl, ⟨⟨by decide, by decide, by decide, by decide, by
    decide⟩, ⟨by decide, by decide, by decide⟩, by decide, by decide⟩⟩

theorem witness_port_and_canvas_actions_6 : ∃ (hd : Head) (k : Packet) (s : State), k = Head.packet hd .canvasRelease ∧
    s.Takes k .canvasRelease :=
  ⟨head 0xFFFF, Head.packet (head 0xFFFF) .canvasRelease, { inMode .config with canvas := { held := 1 } }, rfl, ⟨⟨by decide,
    by decide, by decide, by decide, by decide⟩, ⟨by decide, by decide, by decide⟩, by decide, by decide⟩⟩

theorem witness_image_actions_1 : ∃ (hd : Head) (c : Chunk) (k : Packet) (s : State), k = Head.packet hd (.fwStage c) ∧
    s.Takes k (.fwStage c) ∧ c.offset = 0 ∧ c.data.length < c.total.toNat ∧ c.total.toNat ≤ partMax c.dest.toNat :=
  ⟨head 0xFFFF, ⟨0, 8, 0, zeros 4⟩, Head.packet (head 0xFFFF) (.fwStage ⟨0, 8, 0, zeros 4⟩), inMode .config, rfl, ⟨⟨by
    decide, by decide, by decide, by decide, by decide⟩, ⟨by decide, by decide, by decide⟩, by decide, by decide⟩, by
    decide, by decide, by decide⟩

theorem witness_image_actions_2 : ∃ (hd : Head) (c : Chunk) (x : Xfer) (k : Packet) (s : State), k = Head.packet hd
    (.fwStage c) ∧ s.Takes k (.fwStage c) ∧ c.offset ≠ 0 ∧ s.xfer (8 + c.dest.toNat) = some x ∧ x.stream = hd.stream ∧
    c.offset.toNat = x.data.length ∧ c.total.toNat = x.total ∧ x.data.length + c.data.length = x.total ∧ x.total ≤ partMax
    c.dest.toNat :=
  ⟨head 0xFFFF, ⟨0, 8, 4, zeros 4⟩, ⟨8, .hostA, 8, zeros 4⟩, Head.packet (head 0xFFFF) (.fwStage ⟨0, 8, 4, zeros 4⟩),
    { inMode .config with cmds := { xfers := [⟨8, .hostA, 8, zeros 4⟩] } }, rfl, ⟨⟨by decide, by decide, by decide, by
    decide, by decide⟩, ⟨by decide, by decide, by decide⟩, by decide, by decide⟩, by decide, by decide, by decide, by
    decide, by decide, by decide, by decide⟩

theorem witness_image_actions_3 : ∃ (hd : Head) (c : Chunk) (x : Xfer) (k : Packet) (s : State), k = Head.packet hd
    (.fwStage c) ∧ s.Takes k (.fwStage c) ∧ c.offset ≠ 0 ∧ s.xfer (8 + c.dest.toNat) = some x ∧ x.stream ≠ hd.stream ∧
    c.total.toNat ≤ partMax c.dest.toNat :=
  ⟨head 0xFFFF, ⟨0, 8, 4, zeros 4⟩, ⟨8, .hostB, 8, zeros 4⟩, Head.packet (head 0xFFFF) (.fwStage ⟨0, 8, 4, zeros 4⟩),
    { inMode .config with cmds := { xfers := [⟨8, .hostB, 8, zeros 4⟩] } }, rfl, ⟨⟨by decide, by decide, by decide, by
    decide, by decide⟩, ⟨by decide, by decide, by decide⟩, by decide, by decide⟩, by decide, by decide, by decide, by decide⟩

theorem witness_image_actions_4 : ∃ (hd : Head) (p : Byte) (b : List Byte) (k : Packet) (s : State), k = Head.packet hd
    (.fwVerify p) ∧ s.Takes k (.fwVerify p) ∧ (s.part p.toNat).image (1 - s.fwSlot p.toNat) = some b ∧ (s.part
    p.toNat).standby ≠ 0 :=
  ⟨head 0xFFFF, 0, zeros 4, Head.packet (head 0xFFFF) (.fwVerify 0),
    { inMode .config with fw := { parts := [(0, { slots := [none, some (zeros 4)], standby := 1 })] } }, rfl, ⟨⟨by decide,
    by decide, by decide, by decide, by decide⟩, ⟨by decide, by decide, by decide⟩, by decide, by decide⟩, by decide, by
    decide⟩

theorem witness_image_actions_5 : ∃ (hd : Head) (c : Chunk) (k : Packet) (s : State), k = Head.packet hd (.profileStore c) ∧
    s.Takes k (.profileStore c) ∧ s.dev.profile ≠ some c.dest.toNat ∧ c.offset = 0 ∧ c.data.length = c.total.toNat :=
  ⟨head 0xFFFF, ⟨7, 4, 0, zeros 4⟩, Head.packet (head 0xFFFF) (.profileStore ⟨7, 4, 0, zeros 4⟩), inMode .config, rfl, ⟨⟨by
    decide, by decide, by decide, by decide, by decide⟩, ⟨by decide, by decide, by decide⟩, by decide, by decide⟩, by
    decide, by decide, by decide⟩

theorem witness_image_actions_6 : ∃ (hd : Head) (c : Chunk) (k : Packet) (s : State), k = Head.packet hd (.profileStore c) ∧
    s.Takes k (.profileStore c) ∧ s.dev.profile ≠ some c.dest.toNat ∧ c.offset = 0 ∧ c.data.length < c.total.toNat :=
  ⟨head 0xFFFF, ⟨7, 8, 0, zeros 4⟩, Head.packet (head 0xFFFF) (.profileStore ⟨7, 8, 0, zeros 4⟩), inMode .config, rfl, ⟨⟨by
    decide, by decide, by decide, by decide, by decide⟩, ⟨by decide, by decide, by decide⟩, by decide, by decide⟩, by
    decide, by decide, by decide⟩

theorem witness_commands_take_effect_1 : ∃ (s : State) (xs : List Sched) (d : State), s.boundaryDue = true ∧ s.dev.mode ≠
    .sleep ∧ s.cmds.committed = true ∧ s.acceptedAt s.upcoming = xs ∧ xs ≠ [] ∧ d = (s.draft.addAll (numbered (xs.map fun x
    => x.pkt))).1.st :=
  ⟨due (sched (.modeSet ew0 5)), [sched (.modeSet ew0 5)], _, by decide, by decide, by decide, by decide, by decide, rfl⟩

theorem witness_commands_take_effect_2 : ∃ (s : State) (xs : List Sched) (d : State) (o : Nat) (r : ObjRecord) (base : Nat),
    s.boundaryDue = true ∧ s.dev.mode ≠ .sleep ∧ s.cmds.committed = true ∧ s.acceptedAt s.upcoming = xs ∧ xs ≠ [] ∧ d =
    (s.draft.addAll (numbered (xs.map fun x => x.pkt))).1.st ∧ d.twd.map = s.twd.map ∧ s.cmds.mods = [(o, r, base)] ∧ (s.obj
    o).req.begun = false ∧ s.mem.waits o = false :=
  ⟨{ base with trk2 := { startDue := true }, cmds := { committed := true, sched := [sched (.cfgPolicySet ew0 0)], mods := [(3, o0, 0)] } }, [sched (.cfgPolicySet ew0 0)], _, 3, o0, 0, by decide, by decide, by decide, by decide, by decide, rfl, rfl, rfl, by decide, by decide⟩

theorem witness_commands_take_effect_3 : ∃ (s : State) (o : Nat), (s.obj o).req.begun = true :=
  ⟨onObj { sendObj with req := { latched := true, begun := true } }, 0, by decide⟩

theorem witness_commands_take_effect_4 : ∃ (s : State) (x : Sched) (w : EW) (n : Byte), s.boundaryDue = true ∧ s.dev.mode ≠
    .sleep ∧ s.cmds.committed = true ∧ s.acceptedAt s.upcoming = [x] ∧ x.pkt.params = some (.profileLoad w n) :=
  ⟨due (sched (.profileLoad ew0 1)), sched (.profileLoad ew0 1), ew0, 1, by decide, by decide, by decide, by decide, by
    decide⟩

theorem witness_commands_take_effect_5 : ∃ (s : State) (x : Sched) (w : EW) (p : Byte), s.boundaryDue = true ∧ s.dev.mode ≠
    .sleep ∧ s.cmds.committed = true ∧ s.acceptedAt s.upcoming = [x] ∧ x.pkt.params = some (.fwActivate w p) :=
  ⟨due (sched (.fwActivate ew0 1)), sched (.fwActivate ew0 1), ew0, 1, by decide, by decide, by decide, by decide, by decide⟩

theorem witness_commands_take_effect_6 : ∃ (s : State) (x : Sched) (w : EW) (c : Byte) (m : Mode), s.boundaryDue = true ∧
    s.dev.mode.isRun = true ∧ s.cmds.committed = true ∧ s.acceptedAt s.upcoming = [x] ∧ x.pkt.params = some (.modeSet w c) ∧
    Mode.ofCode c.toNat = some m ∧ (m = .grid ∨ m = .direct ∨ m = .dense) ∧ m ≠ s.dev.mode :=
  ⟨due (sched (.modeSet ew0 6)), sched (.modeSet ew0 6), ew0, 6, .direct, by decide, by decide, by decide, by decide, by
    decide, by decide, by decide, by decide⟩

theorem witness_commands_take_effect_7 : ∃ (s : State) (x : Sched) (w : EW) (c : Byte), s.boundaryDue = true ∧
    s.dev.mode.isRun = true ∧ s.cmds.committed = true ∧ s.acceptedAt s.upcoming = [x] ∧ x.pkt.params = some (.modeSet w c) ∧
    Mode.ofCode c.toNat = some .service :=
  ⟨due (sched (.modeSet ew0 9)), sched (.modeSet ew0 9), ew0, 9, by decide, by decide, by decide, by decide, by decide, by
    decide⟩

theorem witness_commands_take_effect_8 : ∃ (s : State) (x : Sched) (w : EW) (n : Byte), s.boundaryDue = true ∧ s.dev.mode ≠
    .sleep ∧ s.cmds.committed = true ∧ s.acceptedAt s.upcoming = [x] ∧ x.pkt.params = some (.cfgPolicySet w n) :=
  ⟨due (sched (.cfgPolicySet ew0 0)), sched (.cfgPolicySet ew0 0), ew0, 0, by decide, by decide, by decide, by decide, by
    decide⟩

theorem witness_commands_take_effect_9 : ∃ (s : State) (x : Sched) (w : EW) (a b : Byte), s.boundaryDue = true ∧ s.dev.mode
    ≠ .sleep ∧ s.cmds.committed = true ∧ s.acceptedAt s.upcoming = [x] ∧ x.pkt.params = some (.leadSet w a b) :=
  ⟨due (sched (.leadSet ew0 1 1)), sched (.leadSet ew0 1 1), ew0, 1, 1, by decide, by decide, by decide, by decide, by
    decide⟩

theorem witness_commands_take_effect_10 : ∃ (s : State) (x : Sched) (w : EW) (b : BitVec 64) (n : Byte) (h : HostId),
    s.boundaryDue = true ∧ s.dev.mode ≠ .sleep ∧ s.cmds.committed = true ∧ s.acceptedAt s.upcoming = [x] ∧ h = streamSide
    x.pkt.stream ∧ x.pkt.params = some (.ringDelivery w b n) :=
  ⟨due (sched (.ringDelivery ew0 0 16)), sched (.ringDelivery ew0 0 16), ew0, 0, 16, .a, by decide, by decide, by decide, by
    decide, by decide, by decide⟩

theorem witness_commands_take_effect_11 : ∃ (s : State) (x : Sched) (w : EW) (b : BitVec 64) (n : Byte) (h : HostId),
    s.boundaryDue = true ∧ s.dev.mode ≠ .sleep ∧ s.cmds.committed = true ∧ s.acceptedAt s.upcoming = [x] ∧ h = streamSide
    x.pkt.stream ∧ x.pkt.params = some (.ringCommand w b n) :=
  ⟨due (sched (.ringCommand ew0 0 16)), sched (.ringCommand ew0 0 16), ew0, 0, 16, .a, by decide, by decide, by decide, by
    decide, by decide, by decide⟩

theorem witness_commands_take_effect_12 : ∃ (s : State) (x : Sched) (w : EW) (b : BitVec 64) (n : Byte) (h : HostId),
    s.boundaryDue = true ∧ s.dev.mode ≠ .sleep ∧ s.cmds.committed = true ∧ s.acceptedAt s.upcoming = [x] ∧ h = streamSide
    x.pkt.stream ∧ x.pkt.params = some (.ringReply w b n) :=
  ⟨due (sched (.ringReply ew0 0 16)), sched (.ringReply ew0 0 16), ew0, 0, 16, .a, by decide, by decide, by decide, by
    decide, by decide, by decide⟩

theorem witness_commands_take_effect_13 : ∃ (s : State) (x : Sched) (w : EW) (a : BitVec 64) (h : HostId), s.boundaryDue =
    true ∧ s.dev.mode ≠ .sleep ∧ s.cmds.committed = true ∧ s.acceptedAt s.upcoming = [x] ∧ h = streamSide x.pkt.stream ∧
    x.pkt.params = some (.ringWriteback w a) :=
  ⟨due (sched (.ringWriteback ew0 64)), sched (.ringWriteback ew0 64), ew0, 64, .a, by decide, by decide, by decide, by
    decide, by decide, by decide⟩

theorem witness_commands_take_effect_14 : ∃ (s : State) (x : Sched) (w : EW) (m v : Byte), s.boundaryDue = true ∧ s.dev.mode
    ≠ .sleep ∧ s.cmds.committed = true ∧ s.acceptedAt s.upcoming = [x] ∧ x.pkt.params = some (.doSet w m v) ∧ s.fld.state ≠
    .uv :=
  ⟨due (sched (.doSet ew0 15 5)), sched (.doSet ew0 15 5), ew0, 15, 5, by decide, by decide, by decide, by decide, by
    decide, by decide⟩

theorem witness_commands_take_effect_15 : ∃ (s : State) (x : Sched) (w : EW) (c : Word), s.boundaryDue = true ∧ s.dev.mode ≠
    .sleep ∧ s.cmds.committed = true ∧ s.upcoming.2 = 0 ∧ s.acceptedAt s.upcoming = [x] ∧ x.pkt.params = some (.cycCountSet
    w c) :=
  ⟨due (sched (.cycCountSet ew0 7)), sched (.cycCountSet ew0 7), ew0, 7, by decide, by decide, by decide, by decide, by
    decide, by decide⟩

theorem witness_commands_take_effect_16 : ∃ (s : State) (x : Sched) (w : EW) (v : BitVec 64), s.boundaryDue = true ∧
    s.dev.mode ≠ .sleep ∧ s.cmds.committed = true ∧ s.upcoming.2 = 0 ∧ s.acceptedAt s.upcoming = [x] ∧ x.pkt.params = some
    (.timeSet w v) :=
  ⟨due (sched (.timeSet ew0 7)), sched (.timeSet ew0 7), ew0, 7, by decide, by decide, by decide, by decide, by decide, by
    decide⟩

theorem witness_configuration_drafted_1 : ∃ (o : Nat) (r : ObjRecord), bit r.cfg 31 = false ∧ r.obj = BitVec.ofNat 16 o ∧ o
    < 16384 :=
  ⟨16383, { o0 with obj := 16383, cfg := 0 }, by decide, by decide, by decide⟩

theorem witness_configuration_drafted_3 : ∃ (d d1 : Draft) (q : Nat) (w : EW) (r : ObjRecord) (rs : List ObjRecord) (a b :
    Res), d.plain r.obj.toNat (.objConfig w r) = (d1, a) ∧ a.status = 0 ∧ (d1.plain q (.objConfigN w rs)).2 = b :=
  ⟨draft0, (draft0.plain 3 (.objConfig ew0 o0)).1, 0xFFFF, ew0, o0, [o0], (draft0.plain 3 (.objConfig ew0 o0)).2,
    ((draft0.plain 3 (.objConfig ew0 o0)).1.plain 0xFFFF (.objConfigN ew0 [o0])).2, rfl, by decide +kernel, rfl⟩

theorem witness_configuration_drafted_4 : ∃ (d : Draft) (w : EW) (r : ObjRecord), (d.plain r.obj.toNat (.objConfig w
    r)).2.status ≠ 0 :=
  ⟨{ draft0 with taken := [(0, 65535)] }, ew0, o0, by decide +kernel⟩

theorem witness_lowest_run_2 : ∃ (rs : List (Nat × Nat)) (n a : Nat), a + n ≤ 65536 ∧ (∀ r ∈ rs, ¬(a < r.1 + r.2 ∧ r.1 < a +
    n)) :=
  ⟨[(0, 4)], 65532, 4, by decide, by decide⟩

theorem witness_lowest_run_3 : ∃ (d : Draft) (o : Nat) (r : ObjRecord) (b : Nat), bit r.cfg 31 = true ∧ ((d.st.obj o).en =
    false ∨ (d.st.obj o).send ≠ bit r.cfg 30 ∨ (d.st.obj o).granCount ≠ r.granCount.toNat) ∧ d.kept.find o = none ∧ r.obj =
    BitVec.ofNat 16 o ∧ o < 16384 ∧ lowestFit d.taken (if bit r.cfg 30 = true then 3 * r.granCount.toNat else
    r.granCount.toNat) = some b :=
  ⟨{ st := base, taken := [] }, 3, o0, 0, by decide, by decide, by decide, by decide, by decide, by decide⟩

theorem witness_lowest_run_4 : ∃ (d : Draft) (o : Nat) (r : ObjRecord), bit r.cfg 31 = true ∧ (d.st.obj o).en = false ∧
    d.kept.find o = none ∧ r.obj = BitVec.ofNat 16 o ∧ o < 16384 ∧ lowestFit d.taken (if bit r.cfg 30 = true then 3 *
    r.granCount.toNat else r.granCount.toNat) = none :=
  ⟨{ st := { base with objs := [(16383, { sendObj with granBase := 0, granCount := 65535 })] }, taken := [(0, 65535)] }, 3,
    o0, by decide, by decide, by decide, by decide, by decide, by decide⟩

theorem witness_lowest_run_5 : ∃ (d : Draft) (o : Nat) (r : ObjRecord), bit r.cfg 31 = true ∧ (d.st.obj o).en = true ∧
    (d.st.obj o).send = bit r.cfg 30 ∧ (d.st.obj o).granCount = r.granCount.toNat ∧ r.obj = BitVec.ofNat 16 o ∧ o < 16384 :=
  ⟨{ st := { base with objs := [(3, { sendObj with granCount := 2 })] }, taken := [] }, 3, o0, by decide, by decide, by
    decide, by decide, by decide, by decide⟩

theorem witness_host_register_writes_1 : ∃ (s : State) (h : HostId), (s.pregFull h = true ∨ (s.host h).writesHeld = true) :=
  ⟨onHost { held := [.bar0 0 15 0] }, .a, by decide⟩

theorem witness_host_register_writes_2 : ∃ (s : State) (h : HostId) (be : BitVec 4), s.WritesNow h ∧ be ≠ 0xF :=
  ⟨base, .a, 7, ⟨by decide, by decide⟩, by decide⟩

theorem witness_host_register_writes_3 : ∃ (s : State) (h : HostId), s.WritesNow h :=
  ⟨base, .a, ⟨by decide, by decide⟩⟩

theorem witness_host_register_writes_4 : ∃ (s : State) (h : HostId) (o : BitVec 18), s.WritesNow h ∧ o.toNat < 0x1000 ∧
    ¬(0x2C ≤ o.toNat ∧ o.toNat < 0x30) :=
  ⟨base, .a, 0x30, ⟨by decide, by decide⟩, by decide, by decide⟩

theorem witness_host_register_writes_5 : ∃ (s : State) (h : HostId) (n : Nat), s.WritesNow h ∧ n < 32 :=
  ⟨base, .a, 31, ⟨by decide, by decide⟩, by decide⟩

theorem witness_host_register_writes_6 : ∃ (n : Nat), n < 32 :=
  ⟨31, by decide⟩

theorem witness_host_register_writes_8 : ∃ (s : State) (h : HostId), s.WritesNow h ∧ s.dev.mode ≠ .sleep :=
  ⟨base, .a, ⟨by decide, by decide⟩, by decide⟩

theorem witness_host_register_writes_9 : ∃ (i : Instr) (h : HostId) (w : HeldAccess) (s : State), i.hostWrites = some (h, w)
    ∧ ((s.host h).writesHeld = true ∨ (s.pregFull h = true ∧ w.toBar0 = true) ∨ (s.mem.ready = false ∧ w.toBar0 = false)) :=
  ⟨.txReq .a 16383 8, .a, .bar2 0x3FFF024 [some 8, some 0, some 0, some 0x20], onHost { held := [.bar0 0 15 0] }, by decide,
    by decide⟩

theorem witness_heartbeats_1 : ∃ (s : State) (h : HostId), s.WritesNow h :=
  ⟨base, .a, ⟨by decide, by decide⟩⟩

theorem witness_heartbeats_2 : ∃ (s : State) (h : HostId), (s.host h).state = .live ∧ (s.host h).period ≠ 0 ∧ (s.host
    h).lastBeat + 1000 * (s.host h).period ≤ s.us ∧ s.dev.mode ≠ .sleep :=
  ⟨{ onHost { state := .live } with clk := { ticks := 10000000 } }, .a, by decide, by decide, by decide, by decide⟩

theorem witness_heartbeats_3 : ∃ (s : State) (h : HostId), (s.host h).state ≠ .live ∨ (s.host h).period = 0 ∨ s.us < (s.host
    h).lastBeat + 1000 * (s.host h).period :=
  ⟨{ onHost { state := .live } with clk := { ticks := 9999999 } }, .a, by decide⟩

theorem witness_chains_1 : ∃ (s : State) (h : HostId) (v : Word), s.WritesNow h ∧ (s.host h).cmd.drop = none ∧ (s.host
    h).cmd.words.length < 64 ∧ s.canTake (hostStream h) = false ∧ CmdChain.refusable
    { (s.host h).cmd with words := (s.host h).cmd.words ++ [v] } = none :=
  ⟨{ base with run := {} }, .a, 2, ⟨by decide, by decide⟩, by decide, by decide, by decide, by decide⟩

theorem witness_chains_2 : ∃ (s : State) (h : HostId), s.WritesNow h ∧ (s.host h).cmd.drop = none ∧ 64 ≤ (s.host
    h).cmd.words.length :=
  ⟨onHost { cmd := { words := List.replicate 64 2#32 } }, .a, ⟨by decide, by decide⟩, by decide, by decide⟩

theorem witness_chains_3 : ∃ (s : State) (h : HostId) (d : DropTail), s.WritesNow h ∧ (s.host h).cmd.drop = some d :=
  ⟨onHost { cmd := { drop := some ⟨1, none⟩ } }, .a, ⟨1, none⟩, ⟨by decide, by decide⟩, by decide⟩

theorem witness_chains_4 : ∃ (s : State) (h : HostId) (w : Word) (ws : List Word) (ps : List (List Word)), (s.host
    h).writesHeld = false ∧ (s.host h).replyChain = (w :: ws) :: ps :=
  ⟨onHost { replyChain := [[1]] }, .a, 1, [], [], by decide, by decide⟩

theorem witness_chains_5 : ∃ (s : State) (h : HostId), (s.host h).writesHeld = false ∧ (s.host h).replyChain = [] :=
  ⟨base, .a, by decide, by decide⟩

theorem witness_chains_6 : ∃ (s : State) (h : HostId), (s.host h).writesHeld = true :=
  ⟨onHost { held := [.bar0 0 15 0] }, .a, by decide⟩

theorem witness_chains_7 : ∃ (s : State) (h : HostId), s.WritesNow h :=
  ⟨base, .a, ⟨by decide, by decide⟩⟩

theorem witness_chains_8 : ∃ (s : State) (h : HostId), s.WritesNow h :=
  ⟨base, .a, ⟨by decide, by decide⟩⟩

theorem witness_chains_9 : ∃ (s : State) (h : HostId), s.WritesNow h :=
  ⟨base, .a, ⟨by decide, by decide⟩⟩

theorem witness_chains_10 : ∃ (s : State) (h : HostId), s.WritesNow h :=
  ⟨base, .a, ⟨by decide, by decide⟩⟩

theorem witness_chains_11 : ∃ (s : State) (h : HostId), s.WritesNow h :=
  ⟨base, .a, ⟨by decide, by decide⟩⟩

theorem witness_rings_1 : ∃ (s : State) (h : HostId), s.WritesNow h ∧ (s.host h).cring.en = true :=
  ⟨onHost { cring := { en := true } }, .a, ⟨by decide, by decide⟩, by decide⟩

theorem witness_rings_2 : ∃ (s : State) (h : HostId), s.WritesNow h ∧ (s.host h).rring.en = true :=
  ⟨onHost { rring := { en := true } }, .a, ⟨by decide, by decide⟩, by decide⟩

theorem witness_rings_3 : ∃ (s : State) (h : HostId) (ws : List Word) (n : Nat) (k : Packet), s.cringReady h = true ∧ bits
    (ws.getD 0 0) 7 0 = 2 ∧ n = wordsPlen ws ∧ n ≤ 4080 ∧ 16 + (n + 15) / 16 * 16 ≤ (s.host h).cring.filled ∧
    s.stagingUsed + (16 + (n + 15) / 16 * 16) ≤ 0x40000 ∧ s.mayTake k = true ∧ k = packetOf (hostStream h) .ring ((ws ++
    List.replicate ((16 + (n + 15) / 16 * 16) / 4) 0).take ((16 + (n + 15) / 16 * 16) / 4)) :=
  ⟨onHost { pcie := dmaOn, cring := { en := true, sizeLog := 16, tail := 16 } }, .a, [2, 0, 0xFFFF, 0], 0, packetOf .hostA
    .ring [2, 0, 0xFFFF, 0], by decide, by decide, by decide, by decide, by decide, by decide, by decide +kernel, by
    decide +kernel⟩

theorem witness_rings_4 : ∃ (s : State) (h : HostId) (ws : List Word), s.cringReady h = true ∧ s.canTake (hostStream h) =
    true ∧ (bits (ws.getD 0 0) 7 0 ≠ 2 ∨ 4080 < wordsPlen ws) :=
  ⟨onHost { pcie := dmaOn, cring := { en := true, sizeLog := 16, tail := 4096 } }, .a, [2, 0, 0xFF1FFFF, 0], by decide, by
    decide, by decide⟩

theorem witness_rings_5 : ∃ (s : State) (h : HostId), s.cringReady h = true :=
  ⟨onHost { pcie := dmaOn, cring := { en := true, sizeLog := 16, tail := 16 } }, .a, by decide⟩

theorem witness_rings_6 : ∃ (s : State) (h : HostId) (i : Nat) (r : Reply), s.run.svc = true ∧ s.nextReply h = some i ∧
    (s.host h).replies[i]? = some r ∧ s.NothingWaits ∧ s.dev.mode ≠ .sleep :=
  ⟨onHost { replies := [rep0] }, .a, 0, rep0, by decide, by decide, by decide, nothing_waits _ rfl rfl rfl rfl, by decide⟩

theorem witness_rings_7 : ∃ (s : State) (h : HostId) (ws : List Word) (n : Nat), s.cringReady h = true ∧ s.canTake
    (hostStream h) = true ∧ bits (ws.getD 0 0) 7 0 = 2 ∧ n = wordsPlen ws ∧ n ≤ 4080 ∧ ((s.host h).cring.filled < 16 + (n +
    15) / 16 * 16 ∨ 0x40000 < s.stagingUsed + (16 + (n + 15) / 16 * 16) ∨ s.mayTake (packetOf (hostStream h) .ring ((ws ++
    List.replicate ((16 + (n + 15) / 16 * 16) / 4) 0).take ((16 + (n + 15) / 16 * 16) / 4))) = false) :=
  ⟨onHost { pcie := dmaOn, cring := { en := true, sizeLog := 16, tail := 4096 - 16 } }, .a, [2, 0, 0xFF0FFFF, 0], 4080, by
    decide, by decide, by decide, by decide, by decide, Or.inl (by decide)⟩

theorem witness_endpoint_and_integrity_1 : ∃ (s : State), s.dev.mode ≠ .latched ∧ s.dev.mode ≠ .sleep ∧ s.dev.mode ≠ .insert
    :=
  ⟨inMode .config, by decide, by decide, by decide⟩

theorem witness_endpoint_and_integrity_5 : ∃ (s : State) (h : HostId), (s.host h).state ≠ .live :=
  ⟨base, .a, by decide⟩

theorem witness_endpoint_and_integrity_6 : ∃ (s : State) (h : HostId), (s.host h).state = .live :=
  ⟨onHost { state := .live }, .a, by decide⟩

theorem witness_endpoint_and_integrity_7 : ∃ (s : State), s.dev.mode ≠ .sleep :=
  ⟨base, by decide⟩

theorem witness_endpoint_and_integrity_8 : ∃ (s : State), s.dev.mode ≠ .sleep :=
  ⟨base, by decide⟩

theorem witness_endpoint_and_integrity_9 : ∃ (s : State), s.dev.mode ≠ .sleep :=
  ⟨base, by decide⟩

theorem witness_endpoint_and_integrity_10 : ∃ (s : State), s.link.up = false :=
  ⟨{ State.reset with link := { up := false } }, by decide⟩

theorem witness_endpoint_and_integrity_11 : ∃ (s : State) (r : Reply), s.link.up = true ∧ s.link.mailOut = [] ∧
    s.link.askOut = [r] ∧ s.link.mailIn = [] ∧ s.link.askIn = [] :=
  ⟨{ base with link := { askOut := [{ rep0 with stream := .mgmt, path := .port }] } },
    { rep0 with stream := .mgmt, path := .port }, by decide, by decide, by decide, by decide, by decide⟩

theorem witness_flag_clears_1 : ∃ (s : State) (h : HostId), s.WritesNow h :=
  ⟨base, .a, ⟨by decide, by decide⟩⟩

theorem witness_flag_clears_2 : ∃ (s : State) (h : HostId), s.WritesNow h :=
  ⟨base, .a, ⟨by decide, by decide⟩⟩

theorem witness_flag_clears_3 : ∃ (s : State) (h : HostId), s.WritesNow h :=
  ⟨base, .a, ⟨by decide, by decide⟩⟩

theorem witness_flag_clears_4 : ∃ (s : State) (h : HostId), s.WritesNow h :=
  ⟨base, .a, ⟨by decide, by decide⟩⟩

theorem witness_flag_clears_5 : ∃ (s : State) (h : HostId), s.WritesNow h :=
  ⟨base, .a, ⟨by decide, by decide⟩⟩

theorem witness_flag_clears_6 : ∃ (s : State) (h : HostId), s.WritesNow h :=
  ⟨base, .a, ⟨by decide, by decide⟩⟩

theorem witness_flag_clears_7 : ∃ (s : State) (h : HostId), s.WritesNow h :=
  ⟨base, .a, ⟨by decide, by decide⟩⟩

theorem witness_interrupts_2 : ∃ (q : Irq) (v : IrqTarget) (m : Nat), 0 < m ∧ m < 256 ∧ q.pend.getLsbD m = true ∧
    v.mask.getLsbD m = false ∧ v.thresh < q.prioOf m ∧ (∀ a ∈ v.active, a.2 < q.prioOf m) :=
  ⟨{ pend := 1#256 <<< 255, prio := [(255, 1)] }, { mask := 0 }, 255, by decide, by decide, by decide, by decide, by decide,
    by decide⟩

theorem witness_interrupts_3 : ∃ (s : State) (t : Fin 8) (n p : Nat), s.TargetReadsNow t ∧ s.irq.top (s.target t.val) = some
    (n, p) :=
  ⟨irq0, 0, 255, 1, ⟨fun _ => by decide, fun _ => by decide⟩, by decide +kernel⟩

theorem witness_interrupts_4 : ∃ (s : State) (t : Fin 8), s.TargetReadsNow t ∧ s.irq.top (s.target t.val) = none :=
  ⟨base, 0, ⟨fun _ => by decide, fun _ => by decide⟩, by decide⟩

theorem witness_interrupts_5 : ∃ (s : State) (t : Fin 8), s.TargetWritesNow t :=
  ⟨base, 1, ⟨fun _ => ⟨by decide, by decide⟩, fun _ => ⟨by decide, by decide⟩⟩⟩

theorem witness_interrupts_6 : ∃ (s : State) (t : Fin 8) (n : Nat), s.TargetWritesNow t ∧ n < 256 :=
  ⟨base, 0, 255, ⟨fun _ => ⟨by decide, by decide⟩, fun _ => ⟨by decide, by decide⟩⟩, by decide⟩

theorem witness_interrupts_7 : ∃ (s : State) (t : Fin 8), s.TargetWritesNow t :=
  ⟨base, 1, ⟨fun _ => ⟨by decide, by decide⟩, fun _ => ⟨by decide, by decide⟩⟩⟩

theorem witness_interrupts_9 : ∃ (s : State) (h : HostId) (t : Fin 8), t.val = h.num ∧ (s.host h).writesHeld = true :=
  ⟨onHost { held := [.bar0 0 15 0] }, .a, 0, by decide, by decide⟩

theorem witness_interrupts_10 : ∃ (s : State) (h : HostId) (t : Fin 8), t.val = h.num ∧ (s.host h).writesHeld = true :=
  ⟨onHost { held := [.bar0 0 15 0] }, .a, 0, by decide, by decide⟩

theorem witness_interrupts_11 : ∃ (s : State) (t : Fin 8), s.TargetWritesNow t :=
  ⟨base, 1, ⟨fun _ => ⟨by decide, by decide⟩, fun _ => ⟨by decide, by decide⟩⟩⟩

theorem witness_interrupts_12 : ∃ (s : State) (t : Fin 8), s.TargetReadsNow t :=
  ⟨base, 1, ⟨fun _ => by decide, fun _ => by decide⟩⟩

theorem witness_interrupts_13 : ∃ (s : State) (t : Fin 8) (n p : Nat), 2 ≤ t.val ∧ (s.target t.val).moderation ≠ 0 ∧
    (s.target t.val).signalled = 0 ∧ s.irq.top (s.target t.val) = some (n, p) :=
  ⟨{ irq0 with irq := { irq0.irq with targets := [(2, { mask := 0, moderation := 10 })] } }, 2, 255, 1, by decide, by
    decide, by decide, by decide +kernel⟩

theorem witness_commit_and_agreement_1 : ∃ (s : State) (j : Word) (x : Sched), s.run.svc = true ∧ s.shadowBusy = false ∧
    x.placed = true ∧ (s.cmds.sched.find? fun x => x.jseq = j && !x.compiled && x.phase = .waiting) = some x :=
  ⟨waits0 [wait0], 4, wait0, by decide, by decide, by decide, by decide⟩

theorem witness_commit_and_agreement_2 : ∃ (s : State), (s.shadowBusy = true ∨ s.run.svc = false) :=
  ⟨State.reset, by decide⟩

theorem witness_commit_and_agreement_3 : ∃ (s : State) (j : Word) (x : Sched), s.run.svc = true ∧ s.shadowBusy = false ∧
    x.placed = false ∧ (s.cmds.sched.find? fun x => x.jseq = j && !x.compiled && x.phase = .waiting) = some x ∧ s.duplicate
    x.pkt (s.asapWin x.pkt.opcode) = false :=
  ⟨waits0 [{ wait0 with asap := true }], 4, { wait0 with asap := true }, by decide, by decide, by decide, by decide, by
    decide⟩

theorem witness_commit_and_agreement_4 : ∃ (s : State), s.cmds.committed = false ∧ s.run.domains.contains 3 = true ∧
    s.dueSlots = [] ∧ s.commandsAt s.upcoming = [] :=
  ⟨base, by decide, by decide, by decide, by decide⟩

theorem witness_commit_and_agreement_5 : ∃ (s : State), s.cmds.committed = false ∧ s.run.domains.contains 3 = true ∧
    s.dueSlots = [] ∧ s.commandsAt s.upcoming ≠ [] ∧ (s.run.svc = false ∨ s.shadowBusy = true ∨ ∃ x ∈ s.commandsAt
    s.upcoming, x.compiled = false) :=
  ⟨waits0 [wait0], by decide, by decide, by decide, by decide, by decide⟩

theorem witness_commit_and_agreement_6 : ∃ (s u : State) (x : Sched) (ys : List Sched) (r : Res), s.cmds.committed = false ∧
    s.run.domains.contains 3 = true ∧ s.dueSlots = [] ∧ s.run.svc = true ∧ s.shadowBusy = false ∧ s.commandsAt s.upcoming =
    x :: ys ∧ (∀ y ∈ x :: ys, y.compiled = true) ∧ (∀ y ∈ ys, y.jseq ≠ x.jseq) ∧ s.settleAll (x :: ys) =
    { apply := [(x, ys)], refuse := [] } ∧ u = { s with cmds := { s.cmds with committed := true } } ∧ u.testGroups
    s.upcoming [(x, ys)] = [(0, x.pkt, r)] ∧ r.status = 0 :=
  ⟨waits0 [wait1, wait1B], { waits0 [wait1, wait1B] with cmds := { (waits0 [wait1, wait1B]).cmds with committed := true } },
    wait1, [wait1B], {}, by decide, by decide, by decide, by decide, by decide, by decide, by decide, by decide, rfl, rfl,
    by decide +kernel, by decide⟩

theorem witness_commit_and_agreement_7 : ∃ (s u : State) (x : Sched) (r : Res), s.cmds.committed = false ∧
    s.run.domains.contains 3 = true ∧ s.dueSlots = [] ∧ s.run.svc = true ∧ s.shadowBusy = false ∧ s.commandsAt s.upcoming =
    [x] ∧ x.compiled = true ∧ u = { s with cmds := { s.cmds with committed := true } } ∧ r.status ≠ 0 ∧ (s.settleAll [x] =
    { apply := [], refuse := [(x, r)] } ∨ s.settleAll [x] = { apply := [(x, [])], refuse := [] } ∧ u.testGroups s.upcoming
    [(x, [])] = [(0, x.pkt, r)]) :=
  ⟨waits0 [wait1], { waits0 [wait1] with cmds := { (waits0 [wait1]).cmds with committed := true } }, wait1, disagreed 2 0,
    by decide, by decide, by decide, by decide, by decide, by decide, by decide, rfl, by decide, Or.inl rfl⟩

theorem witness_commit_and_agreement_8 : ∃ (s : State), s.cmds.committed = true :=
  ⟨{ base with cmds := { committed := true } }, by decide⟩

theorem witness_commit_and_agreement_9 : ∃ (x y : Sched), x.pkt.stream = .hostA ∧ y.pkt.stream = .hostB ∧ x.pkt.bytes =
    y.pkt.bytes :=
  ⟨sched (.cfgPolicySet ew0 0), schedB (.cfgPolicySet ew0 0), by decide, by decide, by decide⟩

theorem witness_commit_and_agreement_10 : ∃ (x y : Sched) (d : Nat), x.pkt.stream = .hostA ∧ y.pkt.stream = .hostB ∧
    paramDiff 0 x.pkt.bytes y.pkt.bytes = some d :=
  ⟨sched (.cfgPolicySet ew0 0), schedB (.cfgPolicySet ew0 1), 8, by decide, by decide, by decide⟩

theorem witness_commit_and_agreement_11 : ∃ (x : Sched), x.pkt.stream = .hostA :=
  ⟨sched (.cfgPolicySet ew0 0), by decide⟩

theorem witness_commit_and_agreement_12 : ∃ (n : Nat) (a b : List Byte) (d : Nat), a.length = b.length ∧ paramDiff n a b =
    some d :=
  ⟨0, [1, 2], [1, 3], 1, by decide, by decide⟩

theorem witness_start_up_1 : ∃ (s : State), s.dev.mode = .boot ∧ s.run.buckram = false ∧ s.run.domains.contains 4 = true ∧
    s.rcd.queue = [] :=
  ⟨{ inMode .boot with run := { domains := [4] } }, by decide, by decide, by decide, by decide⟩

theorem witness_start_up_2 : ∃ (s : State), s.dev.mode = .boot ∧ s.run.buckram = true ∧ s.run.svc = false ∧
    s.run.domains.contains 5 = true :=
  ⟨{ inMode .boot with run := { buckram := true, domains := [4, 5] } }, by decide, by decide, by decide, by decide⟩

theorem witness_start_up_3 : ∃ (s : State), s.dev.mode = .boot ∧ s.run.svc = true ∧ s.run.domains.contains 9 = true ∧
    s.run.domains.contains 10 = true ∧ s.mem.ready = true ∧ s.NothingWaits :=
  ⟨inMode .boot, by decide, by decide, by decide, by decide, by decide, nothing_waits _ rfl rfl rfl rfl⟩

theorem witness_firmware_faults_1 : ∃ (s : State), s.run.buckram = true ∧ s.run.svc = true ∧ (s.part 1).cutover = none ∧
    s.dev.mode ≠ .sleep :=
  ⟨base, by decide, by decide, by decide, by decide⟩

theorem witness_firmware_faults_2 : ∃ (s : State), s.run.buckram = true ∧ s.run.svc = true ∧ (s.part 1).cutover = none ∧
    s.dev.mode ≠ .sleep :=
  ⟨base, by decide, by decide, by decide, by decide⟩

theorem witness_firmware_faults_3 : ∃ (s : State), s.fw.restarting = true ∧ s.run.buckram = true ∧ (s.part 1).cutover = none
    ∧ s.dev.mode ≠ .fault ∧ s.NothingWaits :=
  ⟨{ base with fw := { restarting := true } }, by decide, by decide, by decide, by decide, nothing_waits _ rfl rfl rfl rfl⟩

theorem witness_firmware_faults_4 : ∃ (s : State), s.dev.mode.faultable = true ∧ s.run.domains.contains 4 = true ∧ (∀ a,
    s.fw.lastFault = some a → a + 60000000 < s.us) :=
  ⟨faultedLongAgo, by decide, by decide, after_a_minute⟩

theorem witness_firmware_faults_5 : ∃ (s : State), s.dev.mode.faultable = true ∧ s.run.domains.contains 4 = true ∧ (∀ a,
    s.fw.lastFault = some a → a + 60000000 < s.us) :=
  ⟨faultedLongAgo, by decide, by decide, after_a_minute⟩

theorem witness_firmware_faults_6 : ∃ (s : State), s.dev.mode = .fault :=
  ⟨inMode .fault, by decide⟩

theorem witness_firmware_faults_7 : ∃ (s : State), s.dev.mode = .fault ∧ s.allPowered = true ∧ s.NothingWaits :=
  ⟨inMode .fault, by decide, by decide, nothing_waits _ rfl rfl rfl rfl⟩

theorem witness_cutover_and_engines_1 : ∃ (s : State) (p : Fin 3) (old : Word) (b : List Byte), (s.part p.val).cutover =
    some old ∧ s.standbyImage p.val = some b ∧ s.keep.jobsP = [] ∧ s.run.buckram = true ∧ s.NothingWaits :=
  ⟨{ base with fw := { parts := [(1, { cutover := some 3, slots := [some [1], some [2]], copy := some [2] })] } }, 1, 3,
    [2], by decide, by decide, by decide, by decide, nothing_waits _ rfl rfl rfl rfl⟩

theorem witness_cutover_and_engines_2 : ∃ (s : State) (p : Fin 3) (old : Word), (s.part p.val).cutover = some old ∧ (p.val ≠
    0 ∨ s.startSlot 0 ≠ none) ∧ s.NothingWaits :=
  ⟨{ base with fw := { parts := [(1, { cutover := some 3 })] } }, 1, 3, by decide, by decide, nothing_waits _ rfl rfl rfl
    rfl⟩

theorem witness_cutover_and_engines_3 : ∃ (s : State) (e : Fin 66), (s.engine e.val).failed = false :=
  ⟨base, 65, by decide⟩

theorem witness_cutover_and_engines_4 : ∃ (s : State) (e : Fin 66) (p : Nat), (s.engine e.val).failed = false ∧ (s.engine
    e.val).suspect = true ∧ ((nums 64).find? fun q => (s.port q).engine = e.val) = some p ∧ e.val ≠ spareOf p ∧ s.spareFree
    p = true ∧ (∀ q, (s.port q).stat.remap ≠ some e.val) ∧ (s.port p).bindsAtOnce = false :=
  ⟨{ onStat act with engines := [(0, { suspect := true })] }, 0, 0, by decide, by decide, by decide, by decide, by decide,
    (fun q => remap_only _ _ rfl q (fun _ => by decide)), by decide⟩

theorem witness_cutover_and_engines_5 : ∃ (s : State) (e : Fin 66) (p : Port), (s.engine e.val).failed = false ∧ (s.engine
    e.val).suspect = true ∧ ((nums 64).find? fun q => (s.port q).engine = e.val) = none ∧ (s.port p.val).stat.remap = some
    e.val ∧ (∀ q, q ≠ p.val → (s.port q).stat.remap ≠ some e.val) ∧ (s.engine (s.port p.val).engine).failed = true ∧ (s.port
    p.val).bindsAtOnce = false ∧ s.cmds.actions = [] :=
  ⟨{ onStat { act with remap := some 64 } with engines := [(0, { failed := true }), (64, { suspect := true })] }, 64, 0, by
    decide, by decide, by decide, by decide, (fun q h => remap_only _ _ rfl q (fun e => absurd e h)), by decide, by decide,
    by decide⟩

theorem witness_cutover_and_engines_6 : ∃ (s : State) (e : Fin 66), (s.engine e.val).failed = true :=
  ⟨{ base with engines := [(65, { failed := true })] }, 65, by decide⟩

theorem witness_cutover_and_engines_7 : ∃ (s : State) (p : Port) (e : Nat), (s.port p.val).stat.remap = some e ∧ (s.port
    p.val).mayIdle = true ∧ (s.port p.val).bindsAtOnce = false ∧ (s.port p.val).engine < 64 :=
  ⟨onStat { act with remap := some 64 }, 0, 64, by decide, by decide, by decide, by decide⟩

theorem witness_cutover_and_engines_8 : ∃ (s : State) (p : Port) (e : Nat), (s.port p.val).stat.remap = some e ∧ (s.port
    p.val).bindsAtOnce = true ∧ (s.port p.val).engine < 64 :=
  ⟨onStat { state := .busOff, remap := some 64 }, 0, 64, by decide, by decide, by decide⟩

theorem witness_tweed_window_1 : ∃ (s : State) (h : HostId) (c : Fin 16) (k : Fin 32) (b : Bool) (v : Word) (i : Instr),
    s.WritesNow h ∧ s.twdActs c.val = false ∧ (i = .txrq h c k ∧ s.dev.mode ≠ .hold ∨ i = .txcan h c k ∨ i = .twdLock h c k
    b ∨ i = .twdTxevtClr h c v) :=
  ⟨base, .a, 15, 31, true, 0, .txrq .a 15 31, ⟨by decide, by decide⟩, by decide, by decide⟩

theorem witness_tweed_window_2 : ∃ (s : State) (h : HostId) (c : Fin 16) (k : Fin 32) (i : Nat), s.WritesNow h ∧ s.dev.mode
    = .hold ∧ i = 32 * c.val + k.val ∧ s.twd.portOf c.val ≠ none ∧ s.sendSlot i = true :=
  ⟨{ twdSend {} { inForce := 0xC0000000#32 } with dev := { mode := .hold } }, .a, 0, 0, 0, ⟨by decide, by decide⟩, by
    decide, by decide, by decide, by decide⟩

theorem witness_tweed_window_3 : ∃ (s : State) (h : HostId) (c : Fin 16) (k : Fin 32) (i : Nat), s.WritesNow h ∧ s.twdActs
    c.val = true ∧ i = 32 * c.val + k.val :=
  ⟨twd0 {} {}, .a, 0, 31, 31, ⟨by decide, by decide⟩, by decide, by decide⟩

theorem witness_tweed_window_4 : ∃ (s : State) (h : HostId) (c : Fin 16) (k : Fin 32) (i : Nat), s.WritesNow h ∧ s.twdActs
    c.val = true ∧ i = 32 * c.val + k.val :=
  ⟨twd0 {} {}, .a, 0, 31, 31, ⟨by decide, by decide⟩, by decide, by decide⟩

theorem witness_tweed_window_5 : ∃ (s : State) (h : HostId) (c : Fin 16) (k : Fin 32) (i : Nat), s.WritesNow h ∧ s.twdActs
    c.val = true ∧ i = 32 * c.val + k.val ∧ (s.twd.slot i).lock.get h = false ∧ (s.twd.slot i).held = none ∧ s.mem.waits
    (slotBase + i) = false :=
  ⟨twd0 {} {}, .a, 0, 0, 0, ⟨by decide, by decide⟩, by decide, by decide, by decide, by decide, by decide⟩

theorem witness_tweed_window_6 : ∃ (s : State) (h : HostId) (c : Fin 16) (k : Fin 32) (i : Nat) (f : Frame) (w : Word),
    s.WritesNow h ∧ s.twdActs c.val = true ∧ i = 32 * c.val + k.val ∧ (s.twd.slot i).lock.get h = true ∧ (s.twd.slot
    i).lock.get h.peer = false ∧ (s.twd.slot i).lockWait = .both false ∧ (s.twd.slot i).held = some (f, w) ∧ s.mem.waits
    (slotBase + i) = false :=
  ⟨twd0 { lock := ⟨true, false⟩, held := some (fr, 7) } {}, .a, 0, 0, 0, fr, 7, ⟨by decide, by decide⟩, by decide, by
    decide, by decide, by decide, by decide, by decide, by decide⟩

theorem witness_tweed_window_7 : ∃ (s : State) (h : HostId) (c : Fin 16) (k : Fin 32) (i : Nat), i = 32 * c.val + k.val ∧
    (s.twd.slot i).lock.get h = true ∧ (s.twd.slot i).lock.get h.peer = false ∧ (s.twd.slot i).held = none ∧ (s.twd.slot
    i).lockWait = .both false :=
  ⟨twd0 { lock := ⟨true, false⟩ } {}, .a, 0, 0, 0, by decide, by decide, by decide, by decide, by decide⟩

theorem witness_tweed_window_8 : ∃ (s : State) (h : HostId) (c : Fin 16) (k : Fin 32) (i : Nat), s.WritesNow h ∧ s.twdActs
    c.val = true ∧ i = 32 * c.val + k.val ∧ s.sendSlot i = true ∧ (s.twd.tx i).pend = false ∧ (s.twd.slot i).dlc ≤ 8 ∧
    s.live h = true ∧ (s.obj (slotBase + i)).imageFree = true ∧ (s.obj (slotBase + i)).faulted = false ∧ s.mem.bad = [] ∧
    s.mem.waits (slotBase + i) = false :=
  ⟨twdSend { dlc := 8 } { inForce := 0xC0000000#32 }, .a, 0, 0, 0, ⟨by decide, by decide⟩, by decide, by decide, by decide,
    by decide, by decide, by decide, by decide, by decide, by decide, by decide⟩

theorem witness_tweed_window_9 : ∃ (s : State) (h : HostId) (c : Fin 16) (k : Fin 32) (i : Nat), s.WritesNow h ∧ s.twdActs
    c.val = true ∧ i = 32 * c.val + k.val ∧ s.sendSlot i = true ∧ ((s.twd.tx i).pend = true ∨ 8 < (s.twd.slot i).dlc ∨
    s.live h = false ∨ (s.obj (slotBase + i)).imageFree = false) ∧ s.mem.waits (slotBase + i) = false :=
  ⟨twdSend { dlc := 9 } { inForce := 0xC0000000#32 }, .a, 0, 0, 0, ⟨by decide, by decide⟩, by decide, by decide, by decide,
    by decide, by decide⟩

theorem witness_tweed_window_10 : ∃ (s : State) (h : HostId) (c : Fin 16) (k : Fin 32) (i : Nat), s.WritesNow h ∧ s.twdActs
    c.val = true ∧ i = 32 * c.val + k.val ∧ s.sendSlot i = true ∧ (s.twd.tx i).pend = true ∧ (s.obj (slotBase +
    i)).req.latched = true ∧ (s.obj (slotBase + i)).req.by_host.get h = true ∧ (s.obj (slotBase + i)).req.begun = false ∧
    (s.obj (slotBase + i)).req.done = false ∧ s.mem.waits (slotBase + i) = false :=
  ⟨{ twdSend { dlc := 8 } { inForce := 0xC0000000#32, pend := true } with objs := [(slotBase, { sendObj with req := { latched := true, by_host := ⟨true, false⟩ } })] }, .a, 0, 0, 0, ⟨by decide, by decide⟩, by decide, by decide, by decide, by decide, by decide, by decide, by decide, by decide, by decide⟩

theorem witness_tweed_window_11 : ∃ (s : State) (c : Fin 16) (k : Fin 32) (i : Nat), s.dev.mode = .tweed ∧ i = 32 * c.val +
    k.val ∧ (s.twd.tx i).pend = true ∧ (s.obj (slotBase + i)).req.begun = false ∧ (s.obj (slotBase + i)).req.done = false ∧
    (s.obj (slotBase + i)).req.cancelled = false ∧ s.mem.waits (slotBase + i) = false :=
  ⟨twdSend { dlc := 8 } { inForce := 0xC0000000#32, pend := true }, 0, 0, 0, by decide, by decide, by decide, by decide, by
    decide, by decide, by decide⟩

theorem witness_tweed_window_12 : ∃ (s : State) (c : Fin 16) (k : Fin 32) (i : Nat), i = 32 * c.val + k.val ∧ (s.twd.tx
    i).pend = true ∧ (s.obj (slotBase + i)).req.begun = true :=
  ⟨{ twdSend { dlc := 8 } { inForce := 0xC0000000#32, pend := true } with objs := [(slotBase, { sendObj with req := { latched := true, begun := true } })] }, 0, 0, 0, by decide, by decide, by decide⟩

theorem witness_tweed_window_13 : ∃ (s : State) (h : HostId) (c : Fin 16) (k : Fin 32) (b : Bool) (i : Nat) (j : Instr) (a :
    SlotWrite), s.WritesNow h ∧ s.twdActs c.val = true ∧ i = 32 * c.val + k.val ∧ s.mem.waits (slotBase + i) = true ∧ (j =
    .txrq h c k ∧ a = .txrq ∨ j = .txcan h c k ∧ a = .txcan ∨ j = .twdLock h c k b ∧ a = .lock b) :=
  ⟨{ twd0 {} {} with mem := { ready := true, staged := [(slotBase, o0, 0)] } }, .a, 0, 0, true, 0, .txrq .a 0 0, .txrq, ⟨by
    decide, by decide⟩, by decide, by decide, by decide, by decide⟩

theorem witness_tweed_window_14 : ∃ (s : State) (h : HostId) (c : Fin 16), s.WritesNow h ∧ s.twdActs c.val = true :=
  ⟨twd0 {} {}, .a, 0, ⟨by decide, by decide⟩, by decide⟩

theorem witness_recorder_rules_1 : ∃ (s : State) (h : HostId) (j : Fin 512) (i : Nat), s.WritesNow h ∧ i = 512 * (s.host
    h).pregPage + j.val ∧ 0x400 ≤ i ∧ s.keep.down = false ∧ s.keep.jobsP = [] :=
  ⟨{ base with hosts := ⟨{ pregPage := 2 }, {}⟩ }, .a, 0, 0x400, ⟨by decide, by decide⟩, by decide, by decide, by decide, by
    decide⟩

theorem witness_recorder_rules_2 : ∃ (s : State) (h : HostId) (j : Fin 512), s.WritesNow h ∧ 512 * (s.host h).pregPage +
    j.val < 0x400 :=
  ⟨{ base with hosts := ⟨{ pregPage := 1 }, {}⟩ }, .a, 511, ⟨by decide, by decide⟩, by decide⟩

theorem witness_recorder_rules_3 : ∃ (s : State), s.run.buckram = true ∧ s.rcd.scanned = false ∧ s.keep.down = false ∧
    s.rcd.spill = [] ∧ s.rcd.degraded = .no :=
  ⟨{ base with rcd := {} }, by decide, by decide, by decide, by decide, by decide⟩

theorem witness_recorder_rules_4 : ∃ (s : State), s.run.buckram = true ∧ s.rcd.scanned = false ∧ s.keep.down = true ∧
    s.rcd.spill = [] ∧ s.rcd.degraded = .no ∧ s.dev.mode ≠ .sleep :=
  ⟨{ base with rcd := {}, keep := { down := true } }, by decide, by decide, by decide, by decide, by decide, by decide⟩

theorem witness_recorder_rules_6 : ∃ (s : State) (v : RecSlot) (n : Word), s.run.buckram = true ∧ s.rcd.scanned = false ∧
    s.keep.down = false ∧ s.rcd.degraded = .no ∧ s.rcd.spill = [v] ∧ v.r.flags &&& 2 ≠ 0 ∧ v.r.rseq = 0 ∧ v.r.code ≠ 0x0206
    ∧ n = nextOf (newestOf s.rcd.ring) :=
  ⟨{ base with rcd := { spill := [{ slot0 with r := { rec0 with flags := 2 } }] } },
    { slot0 with r := { rec0 with flags := 2 } }, 0, by decide, by decide, by decide, by decide, by decide, by decide, by
    decide, by decide, by decide⟩

theorem witness_recorder_rules_7 : ∃ (s : State) (e : Event) (q : List Event), s.rcd.queue = e :: q ∧ s.run.buckram = true ∧
    s.rcd.scanned = true ∧ (s.part 0).cutover = none ∧ s.keep.down = false ∧ s.rcd.degraded = .no ∧ e.code ≠ 0x0206 ∧ e.code
    ≠ 0x0207 ∧ e.code ≠ 0x0A02 ∧ (∀ x ∈ s.rcd.ring, x.2.takes e s.epoch s.rcd.newest = false) ∧ (∀ x ∈ s.rcd.spill, x.takes
    e s.epoch s.rcd.newest = false) :=
  ⟨{ base with rcd := { scanned := true, queue := [⟨0x0801, 0, 0, 0, 0, 0, 0⟩] } }, ⟨0x0801, 0, 0, 0, 0, 0, 0⟩, [], by
    decide, by decide, by decide, by decide, by decide, by decide, by decide, by decide, by decide, by decide, by decide⟩

theorem witness_recorder_rules_8 : ∃ (s : State) (e : Event) (q : List Event) (k : Nat) (v : RecSlot), s.rcd.queue = e :: q
    ∧ s.run.buckram = true ∧ s.rcd.scanned = true ∧ (s.part 0).cutover = none ∧ e.code ≠ 0x0206 ∧ e.code ≠ 0x0207 ∧
    (s.rcd.ring.find? fun x => x.2.takes e s.epoch s.rcd.newest && s.inRange x.2.r.rseq) = some (k, v) :=
  ⟨{ base with rcd := { scanned := true, queue := [⟨0x0801, 0, 0, 0, 0, 0, 9999⟩], ring := [(0, slot0)], newest := some 1 } }, ⟨0x0801, 0, 0, 0, 0, 0, 9999⟩, [], 0, slot0, by decide, by decide, by decide, by decide, by decide, by decide, by decide⟩

theorem witness_recorder_rules_9 : ∃ (s : State) (n : Word) (v : RecSlot), s.heldRecord n = some v ∧ v.pend ≠ 0 :=
  ⟨{ base with rcd := { scanned := true, ring := [(0, { slot0 with pend := 1 })], newest := some 0 } }, 0,
    { slot0 with pend := 1 }, by decide, by decide⟩

theorem witness_recorder_rules_10 : ∃ (s : State) (n : Word), (s.heldRecord n = none ∨ ∃ v, s.heldRecord n = some v ∧ v.pend
    = 0) :=
  ⟨base, 0, by decide⟩

theorem witness_recorder_rules_11 : ∃ (s : State), s.rcd.degraded = .unreachable :=
  ⟨{ base with rcd := { scanned := true, degraded := .unreachable } }, by decide⟩

theorem witness_cursors_1 : ∃ (s : State) (h : HostId) (n e : Word), s.WritesNow h ∧ n = (s.rcd.cur.get h).cursor + 1 ∧ e =
    nextOf s.rcd.newest ∧ seqDiff s.recOldest n ≤ 0 ∧ seqDiff n e ≤ 0 :=
  ⟨{ base with rcd := { scanned := true, ring := [(0, slot0)], newest := some 0 } }, .a, 1, 1, ⟨by decide, by decide⟩, by
    decide, by decide, by decide, by decide⟩

theorem witness_cursors_2 : ∃ (s : State) (h : HostId) (n e : Word), s.WritesNow h ∧ n = (s.rcd.cur.get h).cursor + 1 ∧ e =
    nextOf s.rcd.newest ∧ 0 < seqDiff s.recOldest n ∧ seqDiff s.recOldest e ≤ 0 :=
  ⟨{ base with rcd := { scanned := true, newest := some 40000 } }, .a, 1, 40001, ⟨by decide, by decide⟩, by decide, by
    decide, by decide, by decide⟩

theorem witness_cursors_3 : ∃ (s : State) (h : HostId), s.WritesNow h :=
  ⟨base, .a, ⟨by decide, by decide⟩⟩

theorem witness_cursors_4 : ∃ (s : State) (h : HostId), s.WritesNow h :=
  ⟨base, .a, ⟨by decide, by decide⟩⟩

theorem witness_cursors_5 : ∃ (s : State) (h : HostId), s.WritesNow h :=
  ⟨base, .a, ⟨by decide, by decide⟩⟩

theorem witness_cursors_6 : ∃ (s : State) (h : HostId) (v : RecSlot), (s.rcd.cur.get h).copying = true ∧ s.spillRecord
    (s.rcd.cur.get h).cursor = none ∧ s.heldRecord (s.rcd.cur.get h).cursor = some v :=
  ⟨{ base with rcd := { scanned := true, ring := [(0, slot0)], newest := some 0, cur := .both { copying := true } } }, .a,
    slot0, by decide, by decide, by decide⟩

theorem witness_cursors_7 : ∃ (s : State) (h : HostId) (e : JEntry), (s.jnl.cur.get h).copying = true ∧ s.heldEntry
    (s.jnl.cur.get h).cursor = some e :=
  ⟨{ base with jnl := { ring := [(0, ent0)], newest := some 0, cur := .both { copying := true } } }, .a, ent0, by decide, by
    decide⟩

theorem witness_cursors_8 : ∃ (s : State) (h : HostId) (n e : Word), s.WritesNow h ∧ n = (s.jnl.cur.get h).cursor + 1 ∧ e =
    nextOf s.jnl.newest ∧ seqDiff s.jnlOldest n ≤ 0 ∧ seqDiff n e ≤ 0 :=
  ⟨{ base with jnl := { ring := [(0, ent0)], newest := some 0 } }, .a, 1, 1, ⟨by decide, by decide⟩, by decide, by decide,
    by decide, by decide⟩

theorem witness_cursors_9 : ∃ (s : State) (h : HostId), s.WritesNow h :=
  ⟨base, .a, ⟨by decide, by decide⟩⟩

theorem witness_cursors_10 : ∃ (s : State) (h : HostId), s.WritesNow h :=
  ⟨base, .a, ⟨by decide, by decide⟩⟩

theorem witness_cursors_11 : ∃ (s : State) (h : HostId), s.WritesNow h :=
  ⟨base, .a, ⟨by decide, by decide⟩⟩

theorem witness_feeds_1 : ∃ (s : State), s.keep.feedsLost = false :=
  ⟨base, by decide⟩

theorem witness_feeds_2 : ∃ (s : State), s.keep.feedsLost = true ∧ s.pwr2.powered = true ∧ s.pwr.present = true ∧ s.pwr.hs =
    .off :=
  ⟨{ base with keep := { feedsLost := true }, pwr := { hs := .off } }, by decide, by decide, by decide, by decide⟩

theorem witness_feeds_3 : ∃ (s : State) (f : Feed), (s.pwr.feed f).ok = true ∧ (s.pwr.feed f).ov = false ∧ s.pwr.present =
    true ∧ s.pwr.hs ≠ .off ∧ s.pwr.hs ≠ .fetFault :=
  ⟨{ base with pwr := { feedA := { ok := true } } }, .a, by decide, by decide, by decide, by decide, by decide⟩

theorem witness_feeds_4 : ∃ (s : State) (f : Feed), (s.pwr.feed f).on = true :=
  ⟨{ base with pwr := { feedA := { on := true } } }, .a, by decide⟩

theorem witness_feeds_5 : ∃ (s : State) (f : Feed), (s.pwr.feed f).on = false :=
  ⟨base, .a, by decide⟩

theorem witness_feeds_7 : ∃ (s : State) (f : Feed), (s.pwr.feed f).ov = true :=
  ⟨{ base with pwr := { feedA := { ov := true } } }, .a, by decide⟩

theorem witness_feeds_9 : ∃ (s : State), s.pwr.feedA.ok = false ∧ s.pwr.feedB.ok = false ∧ s.pwr.hs ≠ .off :=
  ⟨base, by decide, by decide, by decide⟩

theorem witness_hot_swap_and_felt_1 : ∃ (s : State), s.pwr.hs = .off ∧ (s.pwr.feedA.ok = true ∨ s.pwr.feedB.ok = true) :=
  ⟨{ base with pwr := { hs := .off, feedA := { ok := true } } }, by decide, by decide⟩

theorem witness_hot_swap_and_felt_2 : ∃ (s : State), s.pwr.hs = .start :=
  ⟨{ base with pwr := { hs := .start } }, by decide⟩

theorem witness_hot_swap_and_felt_3 : ∃ (s : State) (c a : Bool) (l : Option StateLine) (most n : Nat), s.pwr.hs = .start ∧
    l = (if a = true then s.keep.stateLine else none) ∧ most = bits (if c = true then s.keep.reg 0x100 else 0x030C01F4#32)
    26 24 ∧ n = (match l with | some x => x.count | none => most) :=
  ⟨{ base with pwr := { hs := .start }, keep := { area := [(0, StateLine.bytes { count := 2 })] } }, true, true, some
    { count := 2 }, 3, 2, by decide, by decide +kernel, by decide +kernel, by decide⟩

theorem witness_hot_swap_and_felt_4 : ∃ (s : State), s.pwr.present = true ∧ s.pwr.hs = .ramp :=
  ⟨{ base with pwr := { hs := .ramp } }, by decide, by decide⟩

theorem witness_hot_swap_and_felt_5 : ∃ (s : State), s.pwr.present = true ∧ s.pwr.hs = .on ∧ s.pwr.pgood = false :=
  ⟨{ base with pwr := { pgood := false } }, by decide, by decide, by decide⟩

theorem witness_hot_swap_and_felt_6 : ∃ (s : State), s.pwr.present = true ∧ s.pwr.hs = .on ∧ s.pwr.pgood = true :=
  ⟨base, by decide, by decide, by decide⟩

theorem witness_hot_swap_and_felt_7 : ∃ (s : State) (i : Instr) (a b : BitVec 16) (c n : Nat), s.pwr.present = true ∧ ((i =
    .pgLost a ∧ c = 5 ∧ s.pwr.hs = .on ∧ s.pwr.pgood = false) ∨ (i = .rampTimeout a b ∧ c = 6 ∧ s.pwr.hs = .ramp) ∨ (i =
    .fastTrip a ∧ c = 2 ∧ (s.pwr.hs = .ramp ∨ s.pwr.hs = .on))) ∧ ((s.pwr2.cleared.all fun x => !s.pwr2.thisTick x.1) = true
    ∧ n = s.pwr.count ∨ ∃ x, s.pwr2.cleared = some x ∧ s.pwr2.thisTick x.1 = true ∧ n = x.2.1) :=
  ⟨{ base with pwr := { hs := .ramp }, pwr2 := { cleared := some (7, 3, true) } }, .fastTrip 0, 0, 0, 2, 3, by decide, by
    decide, Or.inr ⟨(7, 3, true), by decide, by decide, by decide⟩⟩

theorem witness_hot_swap_and_felt_8 : ∃ (s : State) (x : Nat), s.pwr.present = true ∧ (s.pwr.hs = .cool ∨ s.pwr.hs =
    .latched) ∧ 2 < s.pwr.cause ∧ s.pwr2.tripAt = some x ∧ s.pwr2.thisTick x = true :=
  ⟨{ base with pwr := { hs := .latched, cause := 5 }, pwr2 := { tripAt := some 99 } }, 99, by decide, by decide, by decide,
    by decide, by decide⟩

theorem witness_hot_swap_and_felt_9 : ∃ (s : State), s.pwr.present = true ∧ s.pwr.hs = .on ∧ s.pwr.pgood = true :=
  ⟨base, by decide, by decide, by decide⟩

theorem witness_hot_swap_and_felt_10 : ∃ (s : State), s.pwr.present = true ∧ s.pwr.hs = .on ∧ s.pwr.limiting = false :=
  ⟨base, by decide, by decide, by decide⟩

theorem witness_hot_swap_and_felt_12 : ∃ (s : State) (i : Instr) (a : BitVec 16), ((i = .backupTrip a ∧ (s.pwr.hs = .cool ∨
    s.pwr.hs = .latched) ∧ s.pwr.cause = 2) ∨ (i = .fetShort a ∧ (s.pwr.hs = .cool ∨ s.pwr.hs = .latched ∨ s.pwr.hs =
    .start))) :=
  ⟨{ base with pwr := { hs := .start } }, .fetShort 1, 1, by decide⟩

theorem witness_hot_swap_and_felt_13 : ∃ (s : State), s.pwr.hs = .cool ∧ s.pwr.present = true ∧ s.pwr2.tj ≤ s.feltCool ∧
    (s.tsMode = true → s.pwr.tsFault = false → s.pwr2.tsense ≤ s.tsTrip - 100) ∧ (s.pwr.elapsed = true ∨ ∃ x, s.pwr2.tripAt
    = some x ∧ x + 200000000 * 2 ^ s.pwr.count ≤ s.pwr2.osc) :=
  ⟨{ base with pwr := { hs := .cool }, pwr2 := { tripAt := some 0, osc := 200000000, tj := 500 } }, by decide, by decide, by
    decide, by decide, Or.inr ⟨0, by decide, by decide⟩⟩

theorem witness_hot_swap_and_felt_14 : ∃ (s : State), s.pwr.hs = .cool ∧ (s.feltCool < s.pwr2.tj ∨ (s.tsMode = true ∧
    s.pwr.tsFault = false ∧ s.tsTrip - 100 < s.pwr2.tsense) ∨ (s.pwr.elapsed = false ∧ ∀ x, s.pwr2.tripAt = some x →
    s.pwr2.osc < x + 200000000 * 2 ^ s.pwr.count)) :=
  ⟨{ base with pwr := { hs := .cool, count := 1 }, pwr2 := { tripAt := some 0, osc := 200000000, tj := 500 } }, by decide,
    (Or.inr (Or.inr ⟨by decide, fun x h => by cases h; decide⟩))⟩

theorem witness_hot_swap_and_felt_17 : ∃ (n : Nat), 0 < n :=
  ⟨1, by decide⟩

theorem witness_hot_swap_and_felt_18 : ∃ (s : State), (s.pwr.present = false ∨ (s.pwr.hs ≠ .ramp ∧ s.pwr.hs ≠ .on)) ∧
    (s.pwr2.tripAt.all fun x => !s.pwr2.thisTick x) = true :=
  ⟨{ base with pwr := { hs := .cool } }, by decide, by decide⟩

theorem witness_hot_swap_and_felt_19 : ∃ (s : State) (w : BitVec 32) (ts : BitVec 16) (o : Bool) (ref tj : Int),
    s.pwr.present = true ∧ (s.pwr.hs = .ramp ∨ s.pwr.hs = .on) ∧ ref = (if s.tsMode = true ∧ o = false then max s.tAmb
    ts.toInt else s.tAmb) ∧ tj = ref + (feltPole s.pwr2.dt1 w.toNat (bits (s.pwr.setting 0x104) 15 0) (bits (s.pwr.setting
    0x104) 31 16) + feltPole s.pwr2.dt2 w.toNat (bits (s.pwr.setting 0x105) 15 0) (1000 * bits (s.pwr.setting 0x105) 31 16))
    / 2 ^ 32 :=
  ⟨base, 0, 300, false, _, _, by decide, by decide, rfl, rfl⟩

theorem witness_field_and_sensors_2 : ∃ (s : State) (o : Fin 4) (i : Instr) (a : BitVec 16) (c : Nat), ((i = .doLimitTimeout
    o a ∧ c = 1 ∧ s.fld.state ≠ .uv) ∨ (i = .doFaultLatch o .thermal a ∧ c = 2) ∨ (i = .doFaultLatch o .reverse a ∧ c = 3))
    ∧ (s.fld.output o.val).held = true ∧ (s.fld.output o.val).fault = false :=
  ⟨{ base with fld := { dos := [(3, { held := true })] } }, 3, .doFaultLatch 3 .reverse 1, 1, 3, by decide, by decide, by
    decide⟩

theorem witness_field_and_sensors_3 : ∃ (s : State) (o : Fin 4), (s.fld.output o.val).held = false ∧ (s.fld.output
    o.val).ext = false :=
  ⟨base, 3, by decide, by decide⟩

theorem witness_field_and_sensors_5 : ∃ (s : State), s.fld.state = .normal :=
  ⟨base, by decide⟩

theorem witness_field_and_sensors_7 : ∃ (s : State), s.fld.state ≠ .uv :=
  ⟨base, by decide⟩

theorem witness_field_and_sensors_8 : ∃ (s : State), s.fld.state = .uv :=
  ⟨{ base with fld := { state := .uv } }, by decide⟩

theorem witness_management_port_1 : ∃ (s : State) (i : Instr) (b : List Byte), (i = .smbusStatus ∨ (∃ p d, i = .hsRelease p
    d) ∨ i = .spillRead ∨ (∃ p, i = .pktWrite p b) ∨ (∃ p, i = .smbusWake p) ∨ (∃ p, i = .pktSubmit p) ∨ i = .pktRead) ∧
    s.pwr2.powered = true ∧ (s.part 2).cutover.isSome = true :=
  ⟨{ base with fw := { parts := [(2, { cutover := some 1 })] } }, .pktWrite false [], [], Or.inr (Or.inr (Or.inr (Or.inl
    ⟨false, rfl⟩))), by decide, by decide⟩

theorem witness_management_port_2 : ∃ (s : State) (i : Instr), (i = .uartStatus ∨ i = .uartRelease ∨ i = .uartSpill ∨ i =
    .uartWake) ∧ s.portAnswers = false :=
  ⟨State.reset, .uartWake, by decide, by decide⟩

theorem witness_management_port_3 : ∃ (s : State) (i : Instr), ((∃ d, i = .hsRelease false d) ∨ (∃ b, i = .pktWrite false b)
    ∨ i = .smbusWake false ∨ i = .pktSubmit false) ∧ s.portAnswers = true :=
  ⟨base, .pktSubmit false, Or.inr (Or.inr (Or.inr rfl)), by decide⟩

theorem witness_management_port_4 : ∃ (s : State) (i : Instr), (i = .smbusStatus ∨ i = .uartStatus) ∧ s.portAnswers = true :=
  ⟨base, .smbusStatus, by decide, by decide⟩

theorem witness_management_port_5 : ∃ (s : State) (i : Instr), (i = .hsRelease true 0xA5 ∨ i = .uartRelease) ∧ s.portAnswers
    = true ∧ s.fld.filtered.getLsbD 4 = true ∧ (s.pwr.hs = .latched ∨ s.pwr.hs = .cool) :=
  ⟨{ base with fld := { di := [(4, { state := true })] }, pwr := { hs := .latched } }, .hsRelease true 0xA5, by decide, by
    decide, by decide, by decide⟩

theorem witness_management_port_6 : ∃ (s : State) (i : Instr), (i = .hsRelease true 0xA5 ∨ i = .uartRelease) ∧ s.portAnswers
    = true ∧ s.fld.filtered.getLsbD 4 = true ∧ s.pwr.hs ≠ .latched ∧ s.pwr.hs ≠ .cool :=
  ⟨{ base with fld := { di := [(4, { state := true })] } }, .hsRelease true 0xA5, by decide, by decide, by decide, by
    decide, by decide⟩

theorem witness_management_port_7 : ∃ (s : State) (d : Byte), s.portAnswers = true ∧ (s.fld.filtered.getLsbD 4 = false ∨ d ≠
    0xA5) :=
  ⟨{ base with fld := { di := [(4, { state := true })] } }, 0xA4, by decide, by decide⟩

theorem witness_management_port_8 : ∃ (s : State), s.portAnswers = true ∧ s.fld.filtered.getLsbD 4 = false :=
  ⟨base, by decide, by decide⟩

theorem witness_management_port_9 : ∃ (s : State) (i : Instr) (v : RecSlot), (i = .spillRead ∨ i = .uartSpill) ∧
    s.portAnswers = true ∧ s.rcd.spillOrder[s.mgt.spillAt]? = some v :=
  ⟨{ base with rcd := { spill := [slot0], degraded := .unreachable } }, .spillRead, slot0, by decide, by decide, by decide⟩

theorem witness_management_port_10 : ∃ (s : State), s.rcd.spill.length = 64 ∧ 1 ≤ s.rcd.spillNext ∧ s.rcd.spillNext < 64 :=
  ⟨{ base with rcd := { spill := List.replicate 64 slot0, spillNext := 63 } }, by decide, by decide, by decide⟩

theorem witness_management_port_11 : ∃ (s : State) (b : List Byte), s.portAnswers = true ∧ 0 < b.length ∧ b.length ≤ 255 ∧
    s.mgt.req.length + b.length ≤ 4096 :=
  ⟨{ base with mgt := { req := zeros 3841 } }, zeros 255, by decide, by decide +kernel, by decide +kernel, by decide +kernel⟩

theorem witness_management_port_12 : ∃ (s : State) (b : List Byte), s.portAnswers = true ∧ (b = [] ∨ 255 < b.length ∨ 4096 <
    s.mgt.req.length + b.length) :=
  ⟨{ base with mgt := { req := zeros 4096 } }, [1], by decide, Or.inr (Or.inr (by decide +kernel))⟩

theorem witness_management_port_13 : ∃ (s : State), s.portAnswers = true ∧ s.run.svc = true ∧ s.link.up = false :=
  ⟨{ base with link := { up := false } }, by decide, by decide, by decide⟩

theorem witness_management_port_14 : ∃ (s : State) (k : Packet) (i : Instr), s.portAnswers = true ∧ k = s.bufferPacket ∧
    s.run.svc = true ∧ s.link.up = true ∧ s.link.askIn = [] ∧ s.link.mailIn = [] ∧ s.mayTake k = true ∧ s.waitsBefore k =
    false ∧ i.packet = some k :=
  ⟨{ buffered with run := base.run }, ({ buffered with run := base.run } : State).bufferPacket, .seqQuery
    { head 0xFFFF with stream := .mgmt, path := .port }, by decide, rfl, by decide, by decide, by decide, by decide, by
    decide +kernel, by decide +kernel, by decide +kernel⟩

theorem witness_management_port_15 : ∃ (s : State) (k : Packet), s.portAnswers = true ∧ k = s.bufferPacket ∧ s.run.svc =
    true ∧ s.link.up = true ∧ s.link.askIn = [] ∧ s.link.mailIn = [] ∧ s.link.askOut = [] ∧ s.link.mailOut = [] ∧ s.mayTake
    k = true ∧ s.mgt.req.length ≠ 16 + wordsPlen (bytesWords 1024 s.mgt.req) :=
  ⟨{ base with mgt := { req := zeros 5 } }, ({ base with mgt := { req := zeros 5 } } : State).bufferPacket, by decide, rfl,
    by decide, by decide, by decide, by decide, by decide, by decide, by decide +kernel, by decide +kernel⟩

theorem witness_management_port_16 : ∃ (s : State) (k : Packet), s.portAnswers = true ∧ s.run.svc = false ∧ k =
    s.bufferPacket ∧ (opClass k.opcode).isSome = true ∧ s.mgt.req.length ≠ 16 + wordsPlen (bytesWords 1024 s.mgt.req) :=
  ⟨{ buffered with mgt := { req := buffered.mgt.req ++ [0] } }, ({ buffered with mgt := { req := buffered.mgt.req ++ [0] } }
    : State).bufferPacket, by decide, by decide, rfl, by decide +kernel, by decide +kernel⟩

theorem witness_management_port_17 : ∃ (s : State) (k : Packet), s.portAnswers = true ∧ s.run.svc = false ∧ k =
    s.bufferPacket ∧ k.bad = 0 ∧ k.badPart2 = false ∧ s.amiocRun k = none :=
  ⟨buffered, buffered.bufferPacket, by decide, by decide, rfl, by decide +kernel, by decide +kernel, rfl⟩

theorem witness_management_port_18 : ∃ (s : State), s.portAnswers = true ∧ s.run.svc = true ∧ s.link.up = true ∧ s.canTake
    .mgmt = false :=
  ⟨{ inMode .boot with mgt := { req := [] } }, by decide, by decide, by decide, by decide⟩

theorem witness_management_port_19 : ∃ (s : State) (r : List Byte) (rs : List (List Byte)), s.portAnswers = true ∧
    s.mgt.replies = r :: rs :=
  ⟨{ base with mgt := { replies := [[1, 2]] } }, [1, 2], [], by decide, by decide⟩

theorem witness_packet_round_trip_1 : ∃ (p : Params), Params.fits p = true :=
  ⟨.modeSet ew0 5, by decide⟩

theorem witness_packet_round_trip_2 : ∃ (hd : Head) (p : Params), Params.fits p = true ∧ hd.reserved = false ∧ (encodeParams
    p).length ≤ 4080 :=
  ⟨head 0xFFFF, .objConfigN ew0 (List.replicate 145 o0), by decide +kernel, by decide, by decide +kernel⟩

theorem witness_memory_canonical_kept_1 : ∃ (s t : State), s.memOk = true ∧ step s = .next t :=
  ⟨State.reset, { State.reset with pwr2 := { State.reset.pwr2 with osc := 1 } }, by decide, rfl⟩

theorem witness_delivery_completes_1 : ∃ (s : State) (x : WinDlv) (rest : List WinDlv), s.dlv.wins = x :: rest ∧ x.tClosed =
    true ∧ x.started = true ∧ x.dlv = .batch ∧ (∀ y ∈ rest, y.tClosed = true → y.dlv = .batch) :=
  ⟨{ onHost { pcie := dmaOn, dring := { en := true, sizeLog := 16 } } with dlv := { wins := [{ n := 0, started := true, cycle := 0, win := 0, dlv := .batch, first := true, cfg := false, di := 0, tClosed := true }] } }, { n := 0, started := true, cycle := 0, win := 0, dlv := .batch, first := true, cfg := false, di := 0, tClosed := true }, [], by decide, by decide, by decide, by decide, by decide⟩

theorem witness_delivery_completes_2 : ∃ (s : State) (h : HostId) (b : Batch), s.nextBatch h = some b ∧ b.started.get h =
    true ∧ (s.host h).pcie.dma = true ∧ s.mem.bad = [] :=
  ⟨{ onHost { pcie := dmaOn, dring := { en := true, sizeLog := 16 } } with dlv := { batches := [batch0] } }, .a, batch0, by
    decide, by decide, by decide, by decide⟩

theorem witness_delivery_completes_3 : ∃ (s : State) (h : HostId) (v : Word), s.WritesNow h ∧ (s.host h).dring.en = true ∧
    v.toNat % 64 = 0 ∧ (v - (s.host h).dring.cons).toNat ≤ (s.host h).dring.used :=
  ⟨onHost { dring := { en := true, sizeLog := 16, prod := 128 } }, .a, 128, ⟨by decide, by decide⟩, by decide, by decide, by
    decide⟩

theorem witness_delivery_completes_4 : ∃ (s : State) (h : HostId), s.WritesNow h ∧ (s.host h).dring.en = false :=
  ⟨base, .a, ⟨by decide, by decide⟩, by decide⟩

theorem witness_delivery_completes_5 : ∃ (s : State) (h : HostId) (e : DEntry) (es : List DEntry), s.dlv.direct = e :: es ∧
    e.waits.get h = true ∧ s.mem.bad = [] ∧ s.copyingTo h = false :=
  ⟨{ onHost { pcie := dmaOn, dring := { en := true, sizeLog := 16 } } with dlv := { direct := [dent0] } }, .a, dent0, [], by
    decide, by decide, by decide, by decide⟩

theorem witness_delivery_completes_6 : ∃ (s : State) (h : HostId), s.copyingTo h = true :=
  ⟨{ base with dlv := { batches := [batch0] } }, .a, by decide⟩

/-! ## Nested clauses -/

theorem witness_lowest_run_1 : lowestFit [(0, 4), (6, 65530)] 2 = some 4 ∧ 65534 + 2 ≤ 65536 ∧
    (∀ r ∈ [((0 : Nat), (4 : Nat))], ¬(65534 < r.1 + r.2 ∧ r.1 < 65534 + 2)) := by decide +kernel

theorem witness_interrupts_1 : ∃ (q : Irq) (v : IrqTarget) (n p m : Nat), q.top v = some (n, p) ∧ 0 < m ∧ m < 256 ∧
    q.pend.getLsbD m = true ∧ v.mask.getLsbD m = false ∧ v.thresh < q.prioOf m ∧ (∀ a ∈ v.active, a.2 < q.prioOf m) :=
  ⟨irq0.irq, irq0.target 0, 255, 1, 255, by decide +kernel, by decide, by decide, by decide, by decide, by decide,
    by decide⟩

theorem witness_recorder_rules_5 : ∃ (l : Tbl RecSlot) (n : Word), newestOf l = some n := ⟨[(0, slot0)], 0, by decide⟩

/-! ## Well-formedness: a command that each check refuses -/

theorem test_wf_refuses_lines : Instr.wf (.keepScrub [(0, zeros 35)]) = false ∧ Instr.wf (.keepScrub [(0, zeros 36)]) = true := by decide

theorem test_wf_refuses_keys :
    Instr.wf (.filterResultRelease 0 { fr.key with id := 2048 }) = false ∧
    Instr.wf (.filterResultRelease 0 { fr.key with fmt := .xl, ide := true }) = false ∧
    Instr.wf (.filterResultRelease 0 { fr.key with ide := true, id := 2048 }) = true := by decide

theorem test_wf_refuses_frames :
    Instr.wf (.frameValid 0 { fr with len := 9, data := zeros 9 }) = false ∧
    Instr.wf (.frameValid 0 { fr with len := 2 }) = false ∧
    Instr.wf (.frameValid 0 { fr with fmt := .fd, rtr := true, data := [] }) = false ∧
    Instr.wf (.frameValid 0 { fr with brs := true }) = false ∧
    Instr.wf (.frameValid 0 { fr with af := 1 }) = false ∧
    Instr.wf (.fenceRecognised 0 false { fr with fmt := .fd, len := 9, data := zeros 9 }) = false ∧
    Instr.wf (.fenceRecognised 0 false { fr with fmt := .xl, len := 0, data := [] }) = false ∧
    Instr.wf (.frameValid 0 { fr with rtr := true, data := [] }) = true := by decide

theorem test_wf_refuses_windows :
    Instr.wf (.bar2Write .a 0 []) = false ∧ Instr.wf (.bar2Write .a 0x3FFFFFF [some 0, some 0]) = false ∧
    Instr.wf (.bar2Read .a 0 0) = false ∧ Instr.wf (.bar2Read .a 0x3FFFFFF 2) = false ∧
    Instr.wf (.hostRegisterWrite (.host .a) 2 15 0) = false ∧ Instr.wf (.twdScfgWrite .a 2 0) = false ∧
    Instr.wf (.pregDataWrite .a 2 0) = false ∧ Instr.wf (.bar2Read .a 0x3FFFFFF 1) = true := by decide

theorem test_wf_refuses_codewords :
    Instr.wf (.scrubRead .message 0xA00000 codeword) = false ∧ Instr.wf (.scrubRead .message 8 codeword) = false ∧
    Instr.wf (.scrubRead .message 0 (zeros 19)) = false ∧ Instr.wf (.rowRemapSwitch .trusted 0x40000) = false ∧
    Instr.wf (.tableRepairWrite 0x80000) = false ∧ Instr.wf (.scrubRead .application 0x17FFF0 codeword) = true := by decide

theorem test_wf_refuses_paths :
    Instr.wf (.seqQuery { head 0 with path := .port }) = false ∧
    Instr.wf (.seqQuery { head 0 with stream := .mgmt, path := .fifo }) = false ∧
    Instr.wf (.fwStage { head 0 with stream := .intern } ⟨0, 0, 0, []⟩) = false ∧
    Instr.wf (.seqQuery { head 0 with stream := .mgmt, path := .port }) = true := by decide

theorem test_wf_refuses_lengths :
    Instr.wf (.cringPacketRead .a [0, 0, 0]) = false ∧ Instr.wf (.cringPacketRead .a [0, 0, 0, 0, 0]) = false ∧
    Instr.wf (.cringPacketRead .a (List.replicate 1028 0)) = false ∧
    Instr.wf (.objConfigN (head 0) ew0 (List.replicate 146 o0)) = false ∧
    Instr.wf (.fltDtable (head 0) ew0 0 (List.replicate 2035 0)) = false ∧
    Instr.wf (.fltElem (head 0) ew0 0 (List.replicate 255 ⟨0, 0, 0, 0⟩)) = false ∧
    Instr.wf (.cycWindows (head 0) ew0 0 0 (List.replicate 65 0)) = false ∧
    Instr.wf (.denseSet (head 0) ew0 0 0 (List.replicate 509 0)) = false := by decide +kernel

theorem test_wf_refuses_more_lengths :
    Instr.wf (.profileStore (head 0) ⟨0, 0, 0, zeros 3⟩) = false ∧
    Instr.wf (.fwStage (head 0) ⟨0, 0, 0, zeros 4072⟩) = false ∧
    Instr.wf (.pregWrite (head 0) 0 (List.replicate 1020 0)) = false ∧
    Instr.wf (.recClear (head 0) 0 0 (zeros 63)) = false ∧
    Instr.wf (.fldConfig (head 0) ew0 0 (List.replicate 7 0)) = false ∧
    Instr.wf (.intPrioSet (head 0) 0 (zeros 4077)) = false ∧
    Instr.wf (.twdMap (head 0) ew0 (zeros 15)) = false ∧
    Instr.wf (.sensorConversion ⟨[], [], [], 0, 0, 0, 0, 0, 0, 0⟩) = false ∧
    Instr.wf (.pktWrite true []) = false ∧ Instr.wf (.pktWrite true (zeros 256)) = false := by decide +kernel

/-! ## Check codes -/

/-- 17 R388: the check value of CRC-8 over "123456789". -/
theorem test_crc8 : crc8 [0x31, 0x32, 0x33, 0x34, 0x35, 0x36, 0x37, 0x38, 0x39] = 0xF4 := by decide +kernel

/-- 09 R204: the check value of CRC-32C over "123456789". -/
theorem test_crc32c : crc32c [0x31, 0x32, 0x33, 0x34, 0x35, 0x36, 0x37, 0x38, 0x39] = 0xE3069283#32 := by decide +kernel

/-- 04 R97: a codeword worked out apart from the model is clean, two wrong symbols are mended, three are not taken for
clean. -/
theorem test_ecc_clean : eccDecode codeword = .clean := by decide +kernel

theorem test_ecc_two_symbols : eccDecode (fixSymbol (fixSymbol codeword 0 0xFF) 19 0x01) = .fixed codeword := by
  decide +kernel

theorem test_ecc_three_symbols :
    eccDecode (fixSymbol (fixSymbol (fixSymbol codeword 0 0xFF) 7 0x10) 19 0x01) ≠ .clean := by decide +kernel

/-! ## The spec's worked examples -/

/-- 08, the example under R185: window 7 of cycle 0x0001_2C4A at plant time 0x0000_0123_4567_8000. -/
theorem test_fence_payload : fencePayload false false 0x00012C4A 7 0x0000012345678000#64 =
    [0x07, 0x4A, 0x2C, 0x01, 0xE0, 0x59, 0xD1, 0x48] := by decide +kernel

/-- The same fence sent by a backup: bit 6 of byte 0 (08 R185). -/
theorem test_fence_payload_backup : (fencePayload false true 0x00012C4A 7 0x0000012345678000#64).head? = some 0x47 := by
  decide +kernel

/-- 09, the batch of window 7: record 0, a Silk frame on P3. -/
theorem test_record_silk : DRec.bytes ⟨3, 3, 0x114, 16, 0, 0x40D4, 2, 1, 0x30, [0, 1, 2, 3, 4, 5, 6, 7, 8, 9, 10, 11, 12, 13, 14, 15]⟩ 0 =
    [0x00, 0x00, 0x03, 0x03, 0x14, 0x01, 0x00, 0x00, 0x10, 0x00, 0x00, 0x00, 0xD4, 0x40, 0x02, 0x01,
     0x30, 0x00, 0x00, 0x00, 0x00, 0x00, 0x00, 0x00, 0, 1, 2, 3, 4, 5, 6, 7, 8, 9, 10, 11, 12, 13, 14, 15] := by
  decide +kernel

/-- 09, the batch of window 7: record 3, a remote frame on P26. -/
theorem test_record_remote : DRec.bytes ⟨26, 8, 0x305, 2, 0, 0x8000, 0, 0, 0, []⟩ 0 =
    [0x00, 0x00, 0x1A, 0x08, 0x05, 0x03, 0x00, 0x00, 0x02, 0x00, 0x00, 0x00, 0x00, 0x80, 0x00, 0x00] := by decide +kernel

/-- 05, Harrowmere filters: CH_FLT_CTRL 0x8000_0440 and entry 0x4014 give object 1,108. -/
theorem test_filter_object : resObject { fltCtrl := 0x80000440#32 } 0x4014 = 1108 ∧ resKind 0x4014 = 1 := by decide

/-- 10, admission on P26 at 2 us a bit (units of 1/7200 us): an 8-byte Classical frame is 270 us, an extended one 320. -/
theorem test_worst_durations :
    durWorst { pc := ⟨0x101, 0, 0x13138A01#32, 0, 0, 0, 0⟩ } .classical false false 8 = 270 * 7200 ∧
    durWorst { pc := ⟨0x101, 0, 0x13138A01#32, 0, 0, 0, 0⟩ } .classical true false 8 = 320 * 7200 := by decide +kernel

/-- 14, the example: source 129 at priority 6 and source 27 at priority 8 pend; 27 is the top source. -/
theorem test_top_source : ({ pend := 1#256 <<< 129 ||| 1#256 <<< 27, prio := [(27, 8), (129, 6)] } : Irq).top { mask := 0 } =
    some (27, 8) := by decide +kernel

/-! ## Single steps -/

/-- 01 R8: the eighth failed transfer in succession brings the power link down, the seventh does not. -/
theorem test_power_link_down :
    (match exec .powerLinkDown { base with link := { bad := 7 } } with | .next t => t.link.up | _ => false) = true ∧
    (match exec .powerLinkDown { base with link := { bad := 8 } } with | .next t => t.link.up | _ => true) = false := by
  decide +kernel

/-- 14 R316: a claim returns the top source and its priority, and clears its pending bit. -/
theorem test_claim :
    (match exec (.intClaim 0) irq0 with
     | .next t => !t.irq.pend.getLsbD 255 && t.out == [.claim 0 (0x000001FF#32)]
     | _ => false) = true := by decide +kernel

/-- 12 R287: a word written to a full command chain is lost and the overrun is seen. -/
theorem test_chain_overrun :
    (match exec (.cmdFifoWrite .a 0) (onHost { cmd := { words := List.replicate 64 2#32 } }) with
     | .next t => (t.host .a).cmd.overrun && (t.host .a).cmd.words.length == 64
     | _ => false) = true := by decide +kernel

/-- 18 R407, R426: a trip with count below RETRIES, 3 by default, leads to COOL, any other to LATCHED. -/
theorem test_trip_latches :
    (match exec (.fastTrip 0) { base with pwr := { count := 3 } } with | .next t => t.pwr.hs == .latched | _ => false) = true ∧
    (match exec (.fastTrip 0) { base with pwr := { count := 2 } } with | .next t => t.pwr.hs == .cool | _ => false) = true := by
  decide +kernel

/-- The state after reset is in BOOT with an empty queue, and a step with no domain powered moves the power die's oscillator alone (log entry 1). -/
theorem test_reset_idles : State.reset.dev.mode = .boot ∧ State.reset.pending = [] ∧
    (match step State.reset with | .next t => t == { State.reset with pwr2 := { State.reset.pwr2 with osc := 1 } } | _ => false) = true := by decide +kernel

/-- The table gives no row bits: no word spells a command, and the queue stays as it is. -/
theorem test_no_table_words : decodeTableWord 32 0 = none ∧ State.reset.withFetchWord 32 0 = State.reset := ⟨rfl, rfl⟩

/-- 17 R395: SHA-256 of the three bytes "abc", as FIPS 180-4's own example gives it. -/
theorem test_sha256 :
    sha256 [0x61, 0x62, 0x63] = 0xba7816bf8f01cfea414140de5dae2223b00361a396177a9cb410ff61f20015ad := by decide +kernel

/-- 04 R97, 17 R379: a line with its four check bytes decodes clean, and with two symbols wrong it is corrected. -/
theorem test_line_code :
    (let d := (List.range 32).map (BitVec.ofNat 8)
     lineDecode (d ++ rsCheck d) == .clean && (lineDecode ((5 : Byte) :: (d.drop 1).dropLast ++ [(9 : Byte)] ++ rsCheck d) == .fixed (d ++ rsCheck d))) = true := by
  decide +kernel

/-- 10 R249, 07 R162: at the boundary that closes the window of its deadline, a planned request still latched on an ACTIVE port
counts as a miss and goes on; in BUS_OFF it ends with TX_FAIL. -/
def denseDue (st : PortState) : State :=
  { inMode .dense with
    dense := [(0, 0x8000000003E80000#64)]
    objs := [(0, { sendObj with req := { latched := true, copied := true }, tx := { media := [0] } })]
    ports := [(0, port0 { state := st })]
    trk2 := { startDue := true }
    trk := { cycle := 1 } }

theorem test_dense_miss :
    (match exec .windowBoundary (denseDue .active) with
     | .next t => (t.port 0).cnt.denseMisses == 1 && (t.obj 0).req.latched && (t.port 0).err.dlMissed == 0
     | _ => false) = true := by decide +kernel

theorem test_deadline_in_bus_off :
    (match exec .windowBoundary (denseDue .busOff) with
     | .next t => (t.port 0).cnt.denseMisses == 0 && (t.obj 0).req.fail && (t.port 0).err.dlMissed == 1
     | _ => false) = true := by decide +kernel


end Sys2Proof.Tests
end

section
/-! PROOFS. Acceptance filtering (05 R110-R112): the filter elements, the element list and the lookup. -/

namespace Sys2Proof.Machine

/-! ## The numbers below a bound -/

theorem numsFrom_eq_range' (a n : Nat) : numsFrom a n = List.range' a n := by
  induction n generalizing a with
  | zero => rfl
  | succ n ih => rw [numsFrom, ih, List.range'_succ]

theorem nums_eq_range (n : Nat) : nums n = List.range n := by
  rw [nums, numsFrom_eq_range', List.range_eq_range']

/-! ## One element (05 R111) -/

/-- What an element asks of the key by its TYPE: mask, range or dual-ID (05 R111). -/
def elemAccepts (e : Elem) (n : Nat) : Prop :=
  (elemType e = 0 ∧ n &&& elemB e = elemA e) ∨
  (elemType e = 1 ∧ elemA e ≤ n ∧ n ≤ elemB e) ∨
  (elemType e = 2 ∧ (n = elemA e ∨ n = elemB e))

theorem elemMatches_iff (e : Elem) (k : FrameKey) :
    elemMatches e k = true ↔
      elemEn e = true ∧ (elemFmts e).testBit k.fmt.code = true ∧ elemAccepts e k.num := by
  simp only [elemMatches, elemAccepts, Bool.and_eq_true, and_assoc]
  match elemType e with
  | 0 => simp
  | 1 => simp
  | 2 => simp
  | _ + 3 => simp

/-! ## The element list (05 R112) -/

/-- Element `i` of a list that starts at `base`. -/
def Flt.elemAt (f : Flt) (base i : Nat) : Elem := f.elems.get ⟨0, 0, 0, 0⟩ (base + i)

theorem firstElem_eq_find? (f : Flt) (base : Nat) (k : FrameKey) (is : List Nat) :
    firstElem f base k is =
      (is.find? fun i => elemMatches (f.elemAt base i) k).map fun i => (i, elemResult (f.elemAt base i)) := by
  induction is with
  | nil => rfl
  | cons i is ih =>
    rw [firstElem, ih, List.find?_cons]
    by_cases h : elemMatches (f.elemAt base i) k = true
    · rw [h]; exact if_pos h
    · rw [Bool.eq_false_iff.mpr h]; exact if_neg h

theorem firstElem_eq_some {f : Flt} {base n i : Nat} {k : FrameKey} (hi : i < n)
    (hm : elemMatches (f.elemAt base i) k = true) (hlt : ∀ j < i, elemMatches (f.elemAt base j) k = false) :
    firstElem f base k (nums n) = some (i, elemResult (f.elemAt base i)) := by
  have hfind : (List.range n).find? (fun i => elemMatches (f.elemAt base i) k) = some i :=
    List.find?_range_eq_some.mpr ⟨hm, List.mem_range.mpr hi, fun j hj => by rw [hlt j hj]; rfl⟩
  rw [firstElem_eq_find?, nums_eq_range, hfind, Option.map_some]

theorem firstElem_eq_none {f : Flt} {base n : Nat} {k : FrameKey}
    (h : ∀ j < n, elemMatches (f.elemAt base j) k = false) : firstElem f base k (nums n) = none := by
  have hfind : (List.range n).find? (fun i => elemMatches (f.elemAt base i) k) = none :=
    List.find?_range_eq_none.mpr fun j hj => by rw [h j hj]; rfl
  rw [firstElem_eq_find?, nums_eq_range, hfind, Option.map_none]

/-! ## The lookup with no uncorrectable codeword -/

section Clean

variable {m : MemCtl} (hm : m.bad = [])
include hm

theorem MemCtl.badTable_of_bad_nil (addr : Nat) : m.badTable addr = false := by
  rw [MemCtl.badTable, hm, List.contains_nil]

/-- 05 R110: the direct table answers while DT_EN is set, DEF_STD otherwise. -/
theorem lookup_result_of_std (f : Flt) (c : PortCfg) {k : FrameKey} (hk : FrameKey.std k = true) :
    (lookup m f c k).result =
      if bit c.fltCtrl 31 then f.dtable.get 0 (bits c.fltCtrl 28 24 * 2048 + k.num) else bits c.fltDefStd 15 0 := by
  rw [lookup, if_pos hk]
  cases bit c.fltCtrl 31 <;> simp [MemCtl.badTable_of_bad_nil hm]

/-- An EXT or XL key goes to the element list: the answer is that of `firstElem`, or the default of its class. -/
theorem lookup_result_of_not_std (f : Flt) (c : PortCfg) {k : FrameKey} (hk : FrameKey.std k = false) :
    (lookup m f c k).result =
      ((firstElem f (bits c.fltElem 11 0) k (nums (bits c.fltElem 31 24))).map Prod.snd).getD
        (if k.fmt.isXl then bits c.fltDef 31 16 else bits c.fltDef 15 0) := by
  simp only [lookup, hk, MemCtl.badTable_of_bad_nil hm, List.any_eq_true, Bool.false_eq_true, and_false,
    exists_false, if_false]
  cases firstElem f (bits c.fltElem 11 0) k (nums (bits c.fltElem 31 24)) <;> rfl

end Clean

/-- Settles O9: R111 is `elemMatches_iff`, R110 and R112 are the lookup of each class of key with `firstElem` at the
first match, or at none. -/
theorem filterLookup : Obligations.FilterLookup := by
  refine ⟨elemMatches_iff, fun m f c k hm hk => lookup_result_of_std hm f c hk, ?_, ?_⟩
  · intro m f c k i hm hk hi hmatch hlt
    rw [lookup_result_of_not_std hm f c hk, firstElem_eq_some hi hmatch hlt]
    rfl
  · intro m f c k hm hk hnone
    rw [lookup_result_of_not_std hm f c hk, firstElem_eq_none hnone]
    rfl

end Sys2Proof.Machine
end

section
/-! PROOFS. The payload of a fence (08 R185): its bytes, what a receiver reads in them, and the attempt that carries it. -/

namespace Sys2Proof.Machine

/-! ## Little-endian bytes (00 R3) -/

@[simp] theorem length_leBytes (n v : Nat) : (leBytes n v).length = n := by
  induction n generalizing v with
  | zero => rfl
  | succ n ih => rw [leBytes, List.length_cons, ih]

theorem leNat_leBytes (n v : Nat) : leNat (leBytes n v) = v % 256 ^ n := by
  induction n generalizing v with
  | zero => exact (Nat.mod_one v).symm
  | succ n ih =>
    calc leNat (leBytes (n + 1) v) = v % 256 + 256 * (v / 256 % 256 ^ n) := by
          rw [leBytes, leNat, ih, BitVec.toNat_ofNat]
      _ = v % 256 ^ (n + 1) := by rw [Nat.pow_succ', Nat.mod_mul]

/-! ## Byte 0 -/

/-- Byte 0 of a fence: the window in bits 5:0, the backup flag in bit 6, and bit 7 set for window 0 (08 R185). -/
def fenceHead (backup : Bool) (w : Nat) : Nat := w + (if backup then 64 else 0) + (if w = 0 then 128 else 0)

section Head

variable (backup : Bool) {w : Nat} (hw : w < 64)
include hw

theorem fenceHead_lt : fenceHead backup w < 256 := by
  simp only [fenceHead]; split <;> split <;> omega

theorem fenceHead_win : fenceHead backup w % 64 = w := by
  simp only [fenceHead]; split <;> split <;> omega

theorem fenceHead_backup : fenceHead backup w / 64 % 2 = 1 ↔ backup = true := by
  cases backup with
  | false => simp only [fenceHead, Bool.false_eq_true, if_false, iff_false]; split <;> omega
  | true => simp only [fenceHead, if_true, iff_true]; split <;> omega

theorem fenceHead_start : 128 ≤ fenceHead backup w ↔ w = 0 := by
  simp only [fenceHead]; split <;> split <;> omega

theorem fencePayload_head (ext : Bool) (c : Word) (t : BitVec 64) :
    (fencePayload ext backup c w t)[0]? = some (BitVec.ofNat 8 (fenceHead backup w)) := by
  have hbackup : 64 * flag backup = if backup then 64 else 0 := by cases backup <;> rfl
  have hstart : 128 * flag (decide (w = 0)) = if w = 0 then 128 else 0 := by
    by_cases hw0 : w = 0
    · rw [hw0]; rfl
    · rw [if_neg hw0, decide_eq_false hw0]; rfl
  rw [fencePayload, List.getElem?_cons_zero, Nat.mod_eq_of_lt hw, hbackup, hstart, fenceHead]

theorem u8At_fencePayload (ext : Bool) (c : Word) (t : BitVec 64) :
    u8At (fencePayload ext backup c w t) 0 = fenceHead backup w := by
  have hhead : (fencePayload ext backup c w t).take 1 = [BitVec.ofNat 8 (fenceHead backup w)] := by
    rw [List.take_one, List.head?_eq_getElem?, fencePayload_head backup hw]; rfl
  rw [u8At, List.drop_zero, hhead]
  exact Nat.mod_eq_of_lt (fenceHead_lt backup hw)

end Head

/-! ## The other bytes -/

section Fields

variable (ext backup : Bool) (c : Word) (w : Nat) (t : BitVec 64)

theorem length_fencePayload : (fencePayload ext backup c w t).length = if ext then 16 else 8 := by
  cases ext <;> simp [fencePayload]

theorem fencePayload_cycle : leNat (((fencePayload ext backup c w t).drop 1).take 3) = c.toNat % 2 ^ 24 :=
  leNat_leBytes 3 c.toNat

theorem fencePayload_time : leNat (((fencePayload ext backup c w t).drop 4).take 4) = t.toNat / 1024 % 2 ^ 32 :=
  leNat_leBytes 4 (t.toNat / 1024)

/-- In an extended fence the full time is all that follows byte 7. -/
theorem fencePayload_drop_eight : (fencePayload true backup c w t).drop 8 = leBytes 8 t.toNat := rfl

theorem leNat_leBytes_eight : leNat (leBytes 8 t.toNat) = t.toNat := by
  rw [leNat_leBytes]; exact Nat.mod_eq_of_lt t.isLt

theorem fencePayload_full : leNat ((fencePayload true backup c w t).drop 8) = t.toNat := by
  rw [fencePayload_drop_eight, leNat_leBytes_eight]

theorem u64At_fencePayload : u64At (fencePayload true backup c w t) 8 = t.toNat := by
  rw [u64At, fencePayload_drop_eight, List.take_of_length_le (Nat.le_of_eq (length_leBytes 8 _)), leNat_leBytes_eight]

end Fields

/-- A receiver reads in a fence's payload what its sender put there. -/
theorem fenceSays_fencePayload (ext backup : Bool) (c : Word) {w : Nat} (t : BitVec 64) (hw : w < 64) :
    fenceSays (fencePayload ext backup c w t) =
      { win := w, backup := backup, start := decide (w = 0), cycle := c.toNat % 2 ^ 24, time := t.toNat / 1024 % 2 ^ 32,
        full := if ext then some t.toNat else none } := by
  have hfull : (if 16 ≤ (fencePayload ext backup c w t).length then some (u64At (fencePayload ext backup c w t) 8) else none)
      = if ext then some t.toNat else none := by
    cases ext with
    | false => simp [length_fencePayload]
    | true => simp [length_fencePayload, u64At_fencePayload]
  simp only [fenceSays, u32At, u8At_fencePayload backup hw, fenceHead_win backup hw, fenceHead_backup backup hw,
    fenceHead_start backup hw, fencePayload_cycle, fencePayload_time, hfull, Bool.decide_eq_true]

/-! ## The attempt (06 R136) -/

/-- Whatever form a frame goes out in, its payload is as it was. -/
@[simp] theorem PortS.outForm_data (v : PortS) (src : TxSrc) (f : Frame) : (v.outForm src f).data = f.data := by
  unfold PortS.outForm; split <;> rfl

/-- The attempt that starts on a port is of the source and of the frame given, in the form it goes out in. -/
theorem State.startTx_tx (s : State) (p : Nat) (src : TxSrc) (f : Frame) (packed : Nat) (trail : Bool) :
    ∃ x, ((s.startTx p src f packed trail).port p).stat.tx = some x ∧ x.src = src ∧
      x.frame = (s.port p).outForm src f := by
  by_cases hloop : (s.port p).cfg.loopInt = true
  · simp [State.startTx, hloop]
  · simp [State.startTx, hloop]

/-- A staged fence that is still due begins (08 R190). -/
theorem State.frameBegin_of_fence {s : State} {p : Nat} (hsend : s.maySend p = true)
    (hsus : (s.port p).mis.suspend = false) (hrx : (s.port p).stat.rx = none)
    (hstaged : (s.port p).tx.staged = some .fence) (hdue : (s.port p).fence.due = true) :
    s.frameBegin p = s.startTx p .fence (s.fenceFrame p) 1 false := by
  simp [State.frameBegin, hsend, hsus, hrx, hstaged, hdue]

end Sys2Proof.Machine

namespace Sys2Proof

open Machine

/-- Settles O24: the layout is one lemma per field, a receiver's reading is `fenceSays_fencePayload`, and the attempt
of a staged fence carries the payload made at its own start, `State.fenceFrame`. Protected:
the model's function has this name. -/
protected theorem fencePayload : Obligations.FencePayload := by
  refine ⟨?_, ?_, ?_⟩
  · intro ext backup c w t hw
    refine ⟨length_fencePayload ext backup c w t, fencePayload_head backup hw ext c t,
      fencePayload_cycle ext backup c w t, fencePayload_time ext backup c w t, ?_⟩
    rintro rfl
    exact fencePayload_full backup c w t
  · intro ext backup c w t hw
    exact fenceSays_fencePayload ext backup c t hw
  · intro s p hsend hsus hrx hstaged hdue
    obtain ⟨x, htx, -, hframe⟩ := s.startTx_tx p.val .fence (s.fenceFrame p.val) 1 false
    refine ⟨s.frameBegin p.val, x, rfl, ?_, ?_⟩
    · rw [State.frameBegin_of_fence hsend hsus hrx hstaged hdue, htx]
    · rw [hframe, PortS.outForm_data]; rfl

end Sys2Proof
end

section
/-! PROOFS. The sequence check and replay (12 R281, R282): which commands reach it, which answer from the journal, and the
replay that is answered BUSY in place of OK_REPLAYED (12 R277). -/

namespace Sys2Proof.Machine

/-! ## The replies of hosts -/

theorem State.sendMsix_replies (s : State) (g : HostId) (v : Nat) (h : HostId) :
    ((s.sendMsix g v).host h).replies = (s.host h).replies := by
  unfold State.sendMsix
  split
  · by_cases hg : h = g
    · simp [hg]
    · simp [hg]
  · rfl

theorem State.signal_replies (s : State) (t p : Nat) (h : HostId) :
    ((s.signal t p).host h).replies = (s.host h).replies := by
  unfold State.signal
  dsimp only
  split
  · rw [State.sendMsix_replies]; rfl
  · split
    · rw [State.sendMsix_replies]; rfl
    · rfl

theorem State.presentTo_replies (s : State) (t : Nat) (h : HostId) :
    ((s.presentTo t).host h).replies = (s.host h).replies := by
  unfold State.presentTo
  split
  · split <;> rfl
  · split
    · exact s.signal_replies t _ h
    · rfl

/-- Presenting interrupts puts no reply in line and takes none out. -/
@[simp] theorem State.present_replies (s : State) (h : HostId) : (s.present.host h).replies = (s.host h).replies :=
  forAll_keeps (fun s => (s.host h).replies) _ (fun t s => s.presentTo_replies t h) _ _

theorem State.sendReply_replies {s : State} {r : Reply} {h : HostId} (hst : streamHost r.stream = some h) :
    ((s.sendReply r).host h).replies = (s.host h).replies ++ [r] := by
  simp [State.sendReply, hst]

theorem State.answerPacket_replies {s : State} {k : Packet} {h : HostId} (r : Res) (hlive : k.dead = false)
    (hst : streamHost k.stream = some h) :
    ((s.answerPacket k r).host h).replies = (s.host h).replies ++
      [{ stream := k.stream, path := k.path, opcode := k.opcode, status := r.status, seq := k.seq, jidx := 0xFFFF,
         result := r.result, credit := false }] := by
  rw [State.answerPacket, if_neg (by simp [hlive]), State.sendReply_replies hst]

/-! ## From arrival to the sequence check -/

theorem State.acceptPacket_of_reaches {s : State} {k : Packet} (h : s.Reaches k) : s.acceptPacket k = s.process k := by
  obtain ⟨htake, hwaits, -⟩ := h
  simp [State.acceptPacket, htake, hwaits]

theorem State.process_of_reaches {s : State} {k : Packet} (h : s.Reaches k) (hclass : s.classNow k.opcode ≠ .query)
    (hdry : k.dry = false) (hup : s.keep.down = false) : s.process k = s.sequence k (s.classNow k.opcode) := by
  obtain ⟨-, -, hbad, hop, hlen, hcredit⟩ := h
  simp [State.process, hbad, hop, hlen, hcredit, hclass, hdry, hup]

/-! ## The sequence check (12 R281) -/

theorem seqDiff_pos {a b : Word} (hne : 1 ≤ (a - b).toNat) (hlt : (a - b).toNat < 2 ^ 31) : 0 < seqDiff a b := by
  rw [seqDiff, BitVec.toInt_eq_toNat_of_lt (by omega)]
  exact Int.natCast_pos.mpr hne

/-- The second row of the table of R281. -/
theorem State.sequence_of_entry {s : State} {k : Packet} {n : Word} {e : JEntry} (c : Cls)
    (hnext : (s.stream k.stream).nextSeq = some n) (hbehind : 1 ≤ (n - k.seq).toNat) (hnear : (n - k.seq).toNat < 2 ^ 31)
    (hentry : s.entryOf k.stream k.seq = some e) (hop : e.opcode = k.opcode) (htarget : e.target = k.target)
    (hcrc : e.pcrc = crc32c k.bytes) : s.sequence k c = s.replay k e := by
  have hne : n ≠ k.seq := by rintro rfl; simp at hbehind
  have hpos : 0 < seqDiff n k.seq := seqDiff_pos hbehind hnear
  simp [State.sequence, hnext, hne, hpos, hentry, hop, htarget, hcrc]

/-- 12 R277: a replay from the FIFO path of a command that is still open and whose reply path was reset is answered BUSY,
also where the reset came while the packet waited in staging (11 R268). -/
theorem State.replay_of_open_dead {s : State} {k : Packet} {x : Sched} (e : JEntry) (hlive : k.dead = false)
    (hfifo : k.path = .fifo) (hopen : s.openCommand k.stream k.seq = some x) (hdead : x.pkt.dead = true) :
    s.replay k e = s.answerPacket k (onlyStatus stBusy) := by
  simp [State.replay, hlive, hfifo, hopen, hdead]

/-! ## A command taken after its reply path was reset -/

/-- MODE_SET to CONFIG from host A's FIFO, with SEQ 0. -/
def resentHead : Head := { stream := .hostA, path := .fifo, seq := 0, dry := false, target := 0xFFFF, reserved := false }
def resentWindow : EW := { cycle := 1, win := 0, asap := false }
def resentPacket : Packet := Head.packet resentHead (.modeSet resentWindow 0)

/-- The journal entry of the command as it was taken (12 R283). -/
def resentEntry : JEntry :=
  { jseq := 0, cmdSeq := 0, opcode := resentPacket.opcode, status := 0, stream := .hostA, flags := 1,
    target := resentPacket.target, effCycle := 1, effWin := 0, plen := resentPacket.bytes.length,
    pcrc := crc32c resentPacket.bytes, timeMs := 0 }

/-- The command came over host A's ring, and the endpoint was reset while it waited in staging: its packet is marked
(`State.cutReplies`), and its reply is not, since it was taken later. -/
def resentCommand : Sched :=
  { pkt := { resentPacket with path := .ring, dead := true }, jseq := 0, cycle := 1, win := 0 }

/-- The command is scheduled and journalled, and host A's next SEQ is 1. -/
def resentState : State :=
  { State.reset with
    dev := { mode := .config }
    run := { buckram := true, svc := true }
    cmds := { streams := [(0, { nextSeq := some 1, credits := 1 })], sched := [resentCommand] }
    jnl := { ring := [(0, resentEntry)], newest := some 0 } }

theorem resentState_reaches : resentState.Reaches resentPacket := by
  refine ⟨?_, ?_, ?_, ?_, ?_, ?_⟩ <;> decide

theorem resentState_entryOf : resentState.entryOf resentPacket.stream resentPacket.seq = some resentEntry := rfl

theorem resentState_openCommand :
    resentState.openCommand resentPacket.stream resentPacket.seq = some resentCommand := rfl

/-- The command is answered BUSY when host A sends it again over its FIFO. -/
theorem exec_resent_replies :
    ∃ t, exec (.modeSet resentHead resentWindow 0) resentState = .next t ∧
      (t.host .a).replies =
        [{ stream := .hostA, path := .fifo, opcode := resentPacket.opcode, status := stBusy, seq := 0, jidx := 0xFFFF,
           result := [], credit := false }] := by
  have hbusy : resentState.acceptPacket resentPacket = resentState.answerPacket resentPacket (onlyStatus stBusy) := by
    rw [State.acceptPacket_of_reaches resentState_reaches,
      State.process_of_reaches resentState_reaches (by decide) rfl rfl,
      State.sequence_of_entry _ (n := 1) rfl (by decide) (by decide) resentState_entryOf rfl rfl rfl,
      State.replay_of_open_dead resentEntry rfl rfl resentState_openCommand rfl]
  refine ⟨(resentState.acceptPacket resentPacket).present, rfl, ?_⟩
  rw [State.present_replies, hbusy, State.answerPacket_replies (onlyStatus stBusy) rfl rfl]
  rfl

end Sys2Proof.Machine

namespace Sys2Proof

open Machine

/-- Refutes O30: its replay clause asks only that the open command's reply is not cut (`noReply`), and leaves out
`pkt.dead`, the mark of a packet whose reply path was reset while it waited in staging. In `resentState` the command has
that mark alone, and its replay from the FIFO path is answered BUSY, as 12 R277 has it, where the clause says OK_REPLAYED. -/
theorem not_sequenceCheck : ¬ Obligations.SequenceCheck := by
  unfold Obligations.SequenceCheck
  rintro ⟨-, hreplay, -⟩
  have hkept : ∀ x, resentState.openCommand resentPacket.stream resentPacket.seq = some x → x.noReply = false := by
    intro x hx
    rw [resentState_openCommand] at hx
    obtain rfl := Option.some.inj hx
    rfl
  obtain ⟨t, ht, -, hanswered, -⟩ := hreplay (.modeSet resentHead resentWindow 0) resentPacket resentState 1 resentEntry rfl
    resentState_reaches (by decide) rfl rfl rfl (by decide) (by decide) resentState_entryOf rfl rfl rfl hkept
  obtain ⟨u, hu, hreplies⟩ := exec_resent_replies
  obtain rfl : u = t := Host.Outcome.next.inj (hu.symm.trans ht)
  have hclaim : (u.host .a).replies.map Reply.status = [stReplayed] := congrArg (List.map Reply.status) hanswered
  rw [hreplies] at hclaim
  exact absurd hclaim (by decide)

end Sys2Proof
end
